-- ==== Sys2Proof/Word.lean ====
section
/-! DEFINITION. The words of the GL-2140's station links: the byte a character carries (R164) and the two-byte tag
and check of a frame (R165). Record numbers, counts, days and sizes are numbers in the manual, not bits, and are `Nat`. -/

namespace Sys2Proof

/-- One character's 8 data bits (R164). -/
abbrev Byte := BitVec 8

/-- A two-byte tag, echoed in the answer (R165, R168), or a two-byte check (R166). -/
abbrev Half := BitVec 16

end Sys2Proof
end

