-- ==== Sys2Proof/Config.lean ====
section
/-! DEFINITION. The capacities and fixed figures of the GL-2140 (section 1.2 and the rules named at each). The spec
leaves none of these figures to the implementer. The one open value, `farPosition`, is a free value: it has no body. -/

namespace Sys2Proof.Config

/-- The byte that WISH-READ gives for a waiting-list position above 255, by that position: a free value. A position is one byte
(section 10.7) and a waiting list may hold 16,384 patrons; the spec states no result there. DESIGN CHOICE, unsafe: equal
positions give equal bytes (log entry 9). -/
opaque farPosition : Nat → Byte

/-- Patron numbers run 1 to this (section 1.2, R22). -/
def maxPatron : Nat := 16384
/-- Wish entries in lists and attached to items together (section 1.2, R35). -/
def maxWishEntries : Nat := 262144
/-- Title numbers run 1 to this (section 1.2, R12). -/
def maxTitle : Nat := 60000
/-- Copy sets in all (section 1.2, R15). -/
def maxCopySets : Nat := 32768
/-- Copy sets of one title (R15). -/
def maxCopySetsPerTitle : Nat := 8
/-- Cartridges in the table (section 1.2, R65). -/
def maxCartridges : Nat := 32768
/-- Write-job records (section 1.2, R48). -/
def maxJobs : Nat := 4096
/-- Order records (section 1.2, R54). -/
def maxOrders : Nat := 8192
/-- Pull-task records (section 1.2, R55). -/
def maxTasks : Nat := 4096
/-- Parcel records (section 1.2, R113). -/
def maxParcels : Nat := 16384
/-- Open loans, and so the ceiling of the held-units total (R6). -/
def maxHeldTotal : Nat := 40960
/-- The last value of a next-number counter (R2). -/
def maxNumber : Nat := 16777215
/-- The last value of the creation-stamp counter (R2). -/
def maxStamp : Nat := 4294967295
/-- Entries of one wish list (R34). -/
def maxWishes : Nat := 64
/-- Largest image the catalog takes (R12). -/
def maxImage : Nat := 15288
/-- Volumes of one title (R8, R12). -/
def maxVolumes : Nat := 40
/-- Lightest volume weight, in units of 10 g (R12). -/
def minWeight : Nat := 10
/-- Heaviest volume weight, in units of 10 g (R12). -/
def maxWeight : Nat := 300
/-- Weight limit of a braille parcel, in units of 10 g (section 6.4). -/
def parcelWeight : Nat := 700
/-- Cartridges, or volumes, of one parcel (R10, R114, R115). -/
def parcelPieces : Nat := 4
/-- Directory overhead of a title on a cartridge, in AU (R53). -/
def directoryOverhead : Nat := 4
/-- Table reserve of a cartridge, in AU (R53). -/
def tableReserve : Nat := 64
/-- HANDED pull tasks at once (R106). -/
def maxHanded : Nat := 16
/-- PACKING parcels at once (R127). -/
def maxPacking : Nat := 8
/-- Bad attempts after which a job is abandoned (R92). -/
def maxAttempts : Nat := 4
/-- Faults at which a cartridge is retired (R69). -/
def maxFaults : Nat := 3
/-- Ceiling of a cartridge's write count (R69). -/
def maxWrites : Nat := 65535
/-- Good outcomes in a row that qualify a bay (R97). -/
def qualifyStreak : Nat := 3
/-- Good outcomes in a row that clear a bay's strikes (R97). -/
def clearStreak : Nat := 25
/-- Strikes at which a QUALIFIED bay is rested (R97). -/
def maxStrikes : Nat := 2
/-- Rests of one service day, before the one that makes a bay FAILED (R98). -/
def maxRests : Nat := 2
/-- Writer bays (section 5.1). -/
def bayCount : Nat := 32
/-- Service days are counted modulo this (R137). -/
def dayModulus : Nat := 65536
/-- Longest pause length accepted as given (R25). -/
def maxPause : Nat := 32767
/-- Loans in one LOAN-READ answer by patron (R147). -/
def loanPage : Nat := 8
/-- Longest body of a frame (R165). -/
def maxBody : Nat := 1024
/-- Places of a send list, beside the one kept for the answer of the request in progress (R170). -/
def sendPlaces : Nat := 128
/-- Ceiling of a bad-frame count (R167). -/
def maxBadFrames : Nat := 65535

end Sys2Proof.Config
end

