-- ==== Sys2Proof/Syntax.lean ====
section
/-! DEFINITION. The commands of the GL-2140: one constructor of `Instr` per row of spec/opcode_table.json. A request
row is a good frame of that kind, received whole on a link, with its tag and its body (R165, R168, R169): the body's
fields and their widths are in each constructor's docstring (section 10.7) and are read by the request's own meaning,
because a body of the wrong length is an answer of the port (BAD-LENGTH), not an unreadable command. -/

namespace Sys2Proof

/-- The four station links (R164, section 10.7). -/
inductive Link where
  | order
  | duplication
  | mailroom
  | returns
deriving DecidableEq, Repr

/-- The three cartridge classes (00_scope.md, R53). -/
inductive Cls where
  | c1
  | c2
  | c3
deriving DecidableEq, Repr

/-- One character as a port's receiver sees it: its 8 data bits, or a character with its stop bit missing, which a
break shorter than 20 character times also is (R164). -/
inductive RxChar where
  | data (b : Byte)
  | badStop
deriving DecidableEq, Repr

/-- The request kinds of the four links (R169, section 10.7). -/
inductive Kind where
  | status
  | noticeAck
  | patronSet
  | patronPause
  | patronResume
  | patronClose
  | patronRead
  | wishAdd
  | wishDrop
  | wishMove
  | wishRead
  | titleSet
  | titleWithdraw
  | copysetAdd
  | loanRead
  | renew
  | orderCancel
  | newDay
  | serviceSet
  | storeClear
  | cartEnrol
  | cartForget
  | poolSet
  | bayOnline
  | bayOffline
  | bayRestore
  | dupRestart
  | work
  | writeDone
  | wipeDone
  | bayFault
  | bayRead
  | nextPull
  | pulled
  | notFound
  | setFound
  | nextParcel
  | packed
  | unpack
  | cartIn
  | volIn
  | copysetRead
deriving DecidableEq, Repr

/-- The commands, one constructor per row of spec/opcode_table.json. -/
inductive Instr where
  /-- STATUS, R172. Body empty. -/
  | status (link : Link) (tag : Half) (body : List Byte)
  /-- NOTICE-ACK, R173. Body: notice code 1, class 1. -/
  | noticeAck (link : Link) (tag : Half) (body : List Byte)
  /-- PATRON-SET, R23. Body: patron 2, A 1, T 1, K 1, M 1. -/
  | patronSet (link : Link) (tag : Half) (body : List Byte)
  /-- PATRON-PAUSE, R25. Body: patron 2, pause-until day 2. -/
  | patronPause (link : Link) (tag : Half) (body : List Byte)
  /-- PATRON-RESUME, R26. Body: patron 2. -/
  | patronResume (link : Link) (tag : Half) (body : List Byte)
  /-- PATRON-CLOSE, R29. Body: patron 2. -/
  | patronClose (link : Link) (tag : Half) (body : List Byte)
  /-- PATRON-READ, R31. Body: patron 2. -/
  | patronRead (link : Link) (tag : Half) (body : List Byte)
  /-- WISH-ADD, R35. Body: patron 2, title 2, format 1, band 1. -/
  | wishAdd (link : Link) (tag : Half) (body : List Byte)
  /-- WISH-DROP, R37. Body: patron 2, title 2, format 1. -/
  | wishDrop (link : Link) (tag : Half) (body : List Byte)
  /-- WISH-MOVE, R38. Body: patron 2, title 2, format 1, band 1, position 1. -/
  | wishMove (link : Link) (tag : Half) (body : List Byte)
  /-- WISH-READ, R39. Body: patron 2. -/
  | wishRead (link : Link) (tag : Half) (body : List Byte)
  /-- TITLE-SET, R12. Body: title 2, image action 1 (SET: size 2, revision 1), braille action 1 (SET: weights, 2 each). -/
  | titleSet (link : Link) (tag : Half) (body : List Byte)
  /-- TITLE-WITHDRAW, R14. Body: title 2. -/
  | titleWithdraw (link : Link) (tag : Half) (body : List Byte)
  /-- COPYSET-ADD, R15. Body: title 2. -/
  | copysetAdd (link : Link) (tag : Half) (body : List Byte)
  /-- LOAN-READ, R147. Body: selector 1, then loan 3, or patron 2 and starting loan 3. -/
  | loanRead (link : Link) (tag : Half) (body : List Byte)
  /-- RENEW, R144. Body: loan 3. -/
  | renew (link : Link) (tag : Half) (body : List Byte)
  /-- ORDER-CANCEL, R119. Body: patron 2, order 3, restore flag 1. -/
  | orderCancel (link : Link) (tag : Half) (body : List Byte)
  /-- NEW-DAY, R137. Body: day kind 1. -/
  | newDay (link : Link) (tag : Half) (body : List Byte)
  /-- SERVICE-SET, R17. Body: setting identifier 1, value 2. -/
  | serviceSet (link : Link) (tag : Half) (body : List Byte)
  /-- STORE-CLEAR, R19. Body empty. -/
  | storeClear (link : Link) (tag : Half) (body : List Byte)
  /-- CART-ENROL, R65. Body: serial 4, class 1. -/
  | cartEnrol (link : Link) (tag : Half) (body : List Byte)
  /-- CART-FORGET, R66. Body: serial 4. -/
  | cartForget (link : Link) (tag : Half) (body : List Byte)
  /-- POOL-SET, R76. Body: class 1, warn level 2, critical level 2. -/
  | poolSet (link : Link) (tag : Half) (body : List Byte)
  /-- BAY-ONLINE, R82. Body: bay 1. -/
  | bayOnline (link : Link) (tag : Half) (body : List Byte)
  /-- BAY-OFFLINE, R83. Body: bay 1. -/
  | bayOffline (link : Link) (tag : Half) (body : List Byte)
  /-- BAY-RESTORE, R84. Body: bay 1. -/
  | bayRestore (link : Link) (tag : Half) (body : List Byte)
  /-- DUP-RESTART, R102. Body empty. -/
  | dupRestart (link : Link) (tag : Half) (body : List Byte)
  /-- WORK, R87. Body: bay 1. -/
  | work (link : Link) (tag : Half) (body : List Byte)
  /-- WRITE-DONE, R90. Body: bay 1, serial 4, outcome 1. -/
  | writeDone (link : Link) (tag : Half) (body : List Byte)
  /-- WIPE-DONE, R90, R93. Body: bay 1, serial 4, outcome 1. -/
  | wipeDone (link : Link) (tag : Half) (body : List Byte)
  /-- BAY-FAULT, R96. Body: bay 1. -/
  | bayFault (link : Link) (tag : Half) (body : List Byte)
  /-- BAY-READ, R81. Body: bay 1. -/
  | bayRead (link : Link) (tag : Half) (body : List Byte)
  /-- NEXT-PULL, R108. Body empty. -/
  | nextPull (link : Link) (tag : Half) (body : List Byte)
  /-- PULLED, R109. Body: task 3. -/
  | pulled (link : Link) (tag : Half) (body : List Byte)
  /-- NOT-FOUND, R110. Body: task 3. -/
  | notFound (link : Link) (tag : Half) (body : List Byte)
  /-- SET-FOUND, R162. Body: copy set 2. -/
  | setFound (link : Link) (tag : Half) (body : List Byte)
  /-- NEXT-PARCEL, R127. Body empty. -/
  | nextParcel (link : Link) (tag : Half) (body : List Byte)
  /-- PACKED, R129. Body: parcel 3. -/
  | packed (link : Link) (tag : Half) (body : List Byte)
  /-- UNPACK, R130. Body: parcel 3. -/
  | unpack (link : Link) (tag : Half) (body : List Byte)
  /-- CART-IN, R152. Body: serial 4. -/
  | cartIn (link : Link) (tag : Half) (body : List Byte)
  /-- VOL-IN, R155. Body: copy set 2, volume 1. -/
  | volIn (link : Link) (tag : Half) (body : List Byte)
  /-- COPYSET-READ, R16. Body: copy set 2. -/
  | copysetRead (link : Link) (tag : Half) (body : List Byte)
  /-- UNKNOWN_KIND, R169: a good frame whose kind is no request kind. -/
  | unknownKind (link : Link) (kind : Byte) (tag : Half) (body : List Byte)
  /-- BUSY, R168: a good frame of any kind, arriving while another request is in progress. -/
  | busy (link : Link) (kind : Byte) (tag : Half) (body : List Byte)
  /-- RECEIVE_ERROR, R167: characters of a bad or malformed frame, or stray characters, as the receiver takes them with no idle between. -/
  | receiveError (link : Link) (chars : List RxChar)
  /-- FRAME_SENT, R170: the oldest frame of the send list has left whole. -/
  | frameSent (link : Link)
  /-- LINK_RESTART, R174: a break has been held for 20 character times. -/
  | linkRestart (link : Link)
  /-- RESTART_LINE, R175: the restart line is asserted. -/
  | restartLine
  /-- START_UP_SCAN, R20: the restart line is released and the scan runs to its end. -/
  | startUpScan
  /-- MINUTE_EVENT, R80: one event of the minute time base. -/
  | minuteEvent
  /-- DEADLINE_EXPIRY, R94: the expired deadline of a bay is taken. -/
  | deadlineExpiry (bay : Nat)
  /-- REST_EXPIRY, R99: the expired rest of a bay is taken. -/
  | restExpiry (bay : Nat)
  /-- SELECTION_PASS, R44: the Selection Engine's pass is taken, the one it runs or else its next. -/
  | selectionPass
  /-- COPY_SET_OFFER, R46: the Selection Engine begins an offer and looks for its next waiter. -/
  | copySetOffer
  /-- STARVED_CLAIM, R74: the oldest starved job of a class takes a free blank. -/
  | starvedClaim (cls : Cls)
  /-- PARCEL_BACKLOG_SERVE, R113: the parcel backlog is served. -/
  | parcelBacklogServe
  /-- FRAME_SEPARATING_IDLE, R164: an idle of 2 character times on a link's receive line. -/
  | frameSeparatingIdle (link : Link)
deriving DecidableEq, Repr

end Sys2Proof
end

