-- ==== Sys2Proof/Decode.lean ====
section
/-! DEFINITION. How commands are spelled on a station link: kind codes and roles (R169, section 10.7), the byte order of
multi-byte fields (R165), the CRC-16 (R166), the frame layout (R165), and the reading of a body into its fields
(R169). The opcode table gives its rows no bits, so `decodeTableWord` answers none for every word (log entry 2). -/

namespace Sys2Proof

/-- Every request kind, in ascending code (section 10.7). -/
def allKinds : List Kind :=
  [
   .status, .noticeAck, .patronSet, .patronPause, .patronResume, .patronClose,
   .patronRead, .wishAdd, .wishDrop, .wishMove, .wishRead, .titleSet,
   .titleWithdraw, .copysetAdd, .loanRead, .renew, .orderCancel, .newDay,
   .serviceSet, .storeClear, .cartEnrol, .cartForget, .poolSet, .bayOnline,
   .bayOffline, .bayRestore, .dupRestart, .work, .writeDone, .wipeDone,
   .bayFault, .bayRead, .nextPull, .pulled, .notFound, .setFound,
   .nextParcel, .packed, .unpack, .cartIn, .volIn, .copysetRead]

/-- The kind byte of a request (section 10.7, "Request kinds"). -/
def Kind.code : Kind → Byte
  | .status => 0x01
  | .noticeAck => 0x02
  | .patronSet => 0x10
  | .patronPause => 0x11
  | .patronResume => 0x12
  | .patronClose => 0x13
  | .patronRead => 0x14
  | .wishAdd => 0x15
  | .wishDrop => 0x16
  | .wishMove => 0x17
  | .wishRead => 0x18
  | .titleSet => 0x19
  | .titleWithdraw => 0x1A
  | .copysetAdd => 0x1B
  | .loanRead => 0x1C
  | .renew => 0x1D
  | .orderCancel => 0x1E
  | .newDay => 0x1F
  | .serviceSet => 0x20
  | .storeClear => 0x21
  | .cartEnrol => 0x30
  | .cartForget => 0x31
  | .poolSet => 0x32
  | .bayOnline => 0x33
  | .bayOffline => 0x34
  | .bayRestore => 0x35
  | .dupRestart => 0x36
  | .work => 0x37
  | .writeDone => 0x38
  | .wipeDone => 0x39
  | .bayFault => 0x3A
  | .bayRead => 0x3B
  | .nextPull => 0x50
  | .pulled => 0x51
  | .notFound => 0x52
  | .setFound => 0x53
  | .nextParcel => 0x54
  | .packed => 0x55
  | .unpack => 0x56
  | .cartIn => 0x70
  | .volIn => 0x71
  | .copysetRead => 0x72

/-- The request kind a kind byte names, if it names one (R169). -/
def kindOfCode (b : Byte) : Option Kind :=
  allKinds.find? (fun k => k.code == b)

/-- The link whose role a request kind belongs to; none for the two kinds of every link (R169). -/
def Kind.role : Kind → Option Link
  | .status => none
  | .noticeAck => none
  | .patronSet => some .order
  | .patronPause => some .order
  | .patronResume => some .order
  | .patronClose => some .order
  | .patronRead => some .order
  | .wishAdd => some .order
  | .wishDrop => some .order
  | .wishMove => some .order
  | .wishRead => some .order
  | .titleSet => some .order
  | .titleWithdraw => some .order
  | .copysetAdd => some .order
  | .loanRead => some .order
  | .renew => some .order
  | .orderCancel => some .order
  | .newDay => some .order
  | .serviceSet => some .order
  | .storeClear => some .order
  | .cartEnrol => some .duplication
  | .cartForget => some .duplication
  | .poolSet => some .duplication
  | .bayOnline => some .duplication
  | .bayOffline => some .duplication
  | .bayRestore => some .duplication
  | .dupRestart => some .duplication
  | .work => some .duplication
  | .writeDone => some .duplication
  | .wipeDone => some .duplication
  | .bayFault => some .duplication
  | .bayRead => some .duplication
  | .nextPull => some .mailroom
  | .pulled => some .mailroom
  | .notFound => some .mailroom
  | .setFound => some .mailroom
  | .nextParcel => some .mailroom
  | .packed => some .mailroom
  | .unpack => some .mailroom
  | .cartIn => some .returns
  | .volIn => some .returns
  | .copysetRead => some .returns

/-- The widths of a request kind's body, in order (section 10.7); none for the two kinds whose length their contents give. -/
def Kind.widths : Kind → Option (List Nat)
  | .status => some []
  | .noticeAck => some [1, 1]
  | .patronSet => some [2, 1, 1, 1, 1]
  | .patronPause => some [2, 2]
  | .patronResume => some [2]
  | .patronClose => some [2]
  | .patronRead => some [2]
  | .wishAdd => some [2, 2, 1, 1]
  | .wishDrop => some [2, 2, 1]
  | .wishMove => some [2, 2, 1, 1, 1]
  | .wishRead => some [2]
  | .titleSet => none
  | .titleWithdraw => some [2]
  | .copysetAdd => some [2]
  | .loanRead => none
  | .renew => some [3]
  | .orderCancel => some [2, 3, 1]
  | .newDay => some [1]
  | .serviceSet => some [1, 2]
  | .storeClear => some []
  | .cartEnrol => some [4, 1]
  | .cartForget => some [4]
  | .poolSet => some [1, 2, 2]
  | .bayOnline => some [1]
  | .bayOffline => some [1]
  | .bayRestore => some [1]
  | .dupRestart => some []
  | .work => some [1]
  | .writeDone => some [1, 4, 1]
  | .wipeDone => some [1, 4, 1]
  | .bayFault => some [1]
  | .bayRead => some [1]
  | .nextPull => some []
  | .pulled => some [3]
  | .notFound => some [3]
  | .setFound => some [2]
  | .nextParcel => some []
  | .packed => some [3]
  | .unpack => some [3]
  | .cartIn => some [4]
  | .volIn => some [2, 1]
  | .copysetRead => some [2]

/-- `n` bytes of a number, least significant first (R165). -/
def leBytes : Nat → Nat → List Byte
  | 0, _ => []
  | n + 1, v => BitVec.ofNat 8 v :: leBytes n (v / 256)

/-- The number that bytes spell, least significant first (R165). -/
def leValue : List Byte → Nat
  | [] => 0
  | b :: bs => b.toNat + 256 * leValue bs

/-- A body read as fields of the given widths, in order; none when its length is not the sum of the widths (R169). -/
def readFields : List Nat → List Byte → Option (List Nat)
  | [], [] => some []
  | [], _ :: _ => none
  | w :: ws, bs =>
    if bs.length < w then none
    else (readFields ws (bs.drop w)).map (leValue (bs.take w) :: ·)

/-- A body written from fields of the given widths, in order (R169). -/
def writeFields : List Nat → List Nat → List Byte
  | w :: ws, v :: vs => leBytes w v ++ writeFields ws vs
  | _, _ => []

/-- One data bit of the CRC-16: shift left, and combine with 0x1021 when the bit shifted out differs (R166 step 3). -/
def crcBit (reg : Half) (bit : Bool) : Half :=
  if reg.msb != bit then (reg <<< 1) ^^^ 0x1021 else reg <<< 1

/-- One byte of the CRC-16, most significant bit first (R166 step 2). -/
def crcByte (reg : Half) (b : Byte) : Half :=
  [7, 6, 5, 4, 3, 2, 1, 0].foldl (fun r i => crcBit r (b.getLsbD i)) reg

/-- The check of a run of bytes: register starts at 0xFFFF, no final inversion (R166). -/
def crc16 (bs : List Byte) : Half :=
  bs.foldl crcByte 0xFFFF

/-- A frame's kind, tag and body (R165). -/
structure RxFrame where
  kind : Byte
  tag : Half
  body : List Byte
deriving DecidableEq, Repr

/-- The bytes a frame's check covers: length, kind, tag, body (R165, R166). -/
def RxFrame.covered (f : RxFrame) : List Byte :=
  leBytes 2 (3 + f.body.length) ++ f.kind :: leBytes 2 f.tag.toNat ++ f.body

/-- A frame's bytes after its start byte; the check is sent most significant byte first (R165). -/
def RxFrame.tail (f : RxFrame) : List Byte :=
  f.covered ++ [BitVec.ofNat 8 ((crc16 f.covered).toNat / 256), BitVec.ofNat 8 (crc16 f.covered).toNat]

/-- A whole frame as it crosses the line (R165, section 10.7). -/
def RxFrame.bytes (f : RxFrame) : List Byte :=
  0xA5 :: f.tail

/-- The length field of collected bytes: their first two, least significant first (R165). -/
def lengthField (bs : List Byte) : Nat :=
  leValue (bs.take 2)

/-- Whether a length field is in range: 3 to 1,027 (R165). -/
def lengthOk (n : Nat) : Bool :=
  3 ≤ n && n ≤ Config.maxBody + 3

/-- Whether the bytes collected after a start byte make a complete frame: the check's second byte is at offset length + 4
of the frame, so length + 4 bytes follow the start byte (R165). -/
def frameComplete (bs : List Byte) : Bool :=
  bs.length == lengthField bs + 4

/-- A complete frame's bytes after the start byte, judged: its kind, tag and body when the check matches (R166), none for
a bad frame. -/
def judgeFrame (bs : List Byte) : Option RxFrame :=
  let n := lengthField bs + 2
  let check := bs.drop n
  if (crc16 (bs.take n)).toNat = 256 * leValue (check.take 1) + leValue (check.drop 1) then
    some
      { kind := BitVec.ofNat 8 (leValue ((bs.drop 2).take 1))
        tag := BitVec.ofNat 16 (leValue ((bs.drop 3).take 2))
        body := (bs.take n).drop 5 }
  else none

/-- The command a good frame received on a link is, by its kind byte (R169). -/
def Instr.ofFrame (l : Link) (f : RxFrame) : Instr :=
  match kindOfCode f.kind with
  | some .status => .status l f.tag f.body
  | some .noticeAck => .noticeAck l f.tag f.body
  | some .patronSet => .patronSet l f.tag f.body
  | some .patronPause => .patronPause l f.tag f.body
  | some .patronResume => .patronResume l f.tag f.body
  | some .patronClose => .patronClose l f.tag f.body
  | some .patronRead => .patronRead l f.tag f.body
  | some .wishAdd => .wishAdd l f.tag f.body
  | some .wishDrop => .wishDrop l f.tag f.body
  | some .wishMove => .wishMove l f.tag f.body
  | some .wishRead => .wishRead l f.tag f.body
  | some .titleSet => .titleSet l f.tag f.body
  | some .titleWithdraw => .titleWithdraw l f.tag f.body
  | some .copysetAdd => .copysetAdd l f.tag f.body
  | some .loanRead => .loanRead l f.tag f.body
  | some .renew => .renew l f.tag f.body
  | some .orderCancel => .orderCancel l f.tag f.body
  | some .newDay => .newDay l f.tag f.body
  | some .serviceSet => .serviceSet l f.tag f.body
  | some .storeClear => .storeClear l f.tag f.body
  | some .cartEnrol => .cartEnrol l f.tag f.body
  | some .cartForget => .cartForget l f.tag f.body
  | some .poolSet => .poolSet l f.tag f.body
  | some .bayOnline => .bayOnline l f.tag f.body
  | some .bayOffline => .bayOffline l f.tag f.body
  | some .bayRestore => .bayRestore l f.tag f.body
  | some .dupRestart => .dupRestart l f.tag f.body
  | some .work => .work l f.tag f.body
  | some .writeDone => .writeDone l f.tag f.body
  | some .wipeDone => .wipeDone l f.tag f.body
  | some .bayFault => .bayFault l f.tag f.body
  | some .bayRead => .bayRead l f.tag f.body
  | some .nextPull => .nextPull l f.tag f.body
  | some .pulled => .pulled l f.tag f.body
  | some .notFound => .notFound l f.tag f.body
  | some .setFound => .setFound l f.tag f.body
  | some .nextParcel => .nextParcel l f.tag f.body
  | some .packed => .packed l f.tag f.body
  | some .unpack => .unpack l f.tag f.body
  | some .cartIn => .cartIn l f.tag f.body
  | some .volIn => .volIn l f.tag f.body
  | some .copysetRead => .copysetRead l f.tag f.body
  | none => .unknownKind l f.kind f.tag f.body

/-- The link and frame that spell a command, for the commands that are frames of their own (R165, R169). A BUSY frame has
no spelling of its own: it is any frame that meets a request in progress. -/
def Instr.frame : Instr → Option (Link × RxFrame)
  | .status l tag body => some (l, ⟨Kind.status.code, tag, body⟩)
  | .noticeAck l tag body => some (l, ⟨Kind.noticeAck.code, tag, body⟩)
  | .patronSet l tag body => some (l, ⟨Kind.patronSet.code, tag, body⟩)
  | .patronPause l tag body => some (l, ⟨Kind.patronPause.code, tag, body⟩)
  | .patronResume l tag body => some (l, ⟨Kind.patronResume.code, tag, body⟩)
  | .patronClose l tag body => some (l, ⟨Kind.patronClose.code, tag, body⟩)
  | .patronRead l tag body => some (l, ⟨Kind.patronRead.code, tag, body⟩)
  | .wishAdd l tag body => some (l, ⟨Kind.wishAdd.code, tag, body⟩)
  | .wishDrop l tag body => some (l, ⟨Kind.wishDrop.code, tag, body⟩)
  | .wishMove l tag body => some (l, ⟨Kind.wishMove.code, tag, body⟩)
  | .wishRead l tag body => some (l, ⟨Kind.wishRead.code, tag, body⟩)
  | .titleSet l tag body => some (l, ⟨Kind.titleSet.code, tag, body⟩)
  | .titleWithdraw l tag body => some (l, ⟨Kind.titleWithdraw.code, tag, body⟩)
  | .copysetAdd l tag body => some (l, ⟨Kind.copysetAdd.code, tag, body⟩)
  | .loanRead l tag body => some (l, ⟨Kind.loanRead.code, tag, body⟩)
  | .renew l tag body => some (l, ⟨Kind.renew.code, tag, body⟩)
  | .orderCancel l tag body => some (l, ⟨Kind.orderCancel.code, tag, body⟩)
  | .newDay l tag body => some (l, ⟨Kind.newDay.code, tag, body⟩)
  | .serviceSet l tag body => some (l, ⟨Kind.serviceSet.code, tag, body⟩)
  | .storeClear l tag body => some (l, ⟨Kind.storeClear.code, tag, body⟩)
  | .cartEnrol l tag body => some (l, ⟨Kind.cartEnrol.code, tag, body⟩)
  | .cartForget l tag body => some (l, ⟨Kind.cartForget.code, tag, body⟩)
  | .poolSet l tag body => some (l, ⟨Kind.poolSet.code, tag, body⟩)
  | .bayOnline l tag body => some (l, ⟨Kind.bayOnline.code, tag, body⟩)
  | .bayOffline l tag body => some (l, ⟨Kind.bayOffline.code, tag, body⟩)
  | .bayRestore l tag body => some (l, ⟨Kind.bayRestore.code, tag, body⟩)
  | .dupRestart l tag body => some (l, ⟨Kind.dupRestart.code, tag, body⟩)
  | .work l tag body => some (l, ⟨Kind.work.code, tag, body⟩)
  | .writeDone l tag body => some (l, ⟨Kind.writeDone.code, tag, body⟩)
  | .wipeDone l tag body => some (l, ⟨Kind.wipeDone.code, tag, body⟩)
  | .bayFault l tag body => some (l, ⟨Kind.bayFault.code, tag, body⟩)
  | .bayRead l tag body => some (l, ⟨Kind.bayRead.code, tag, body⟩)
  | .nextPull l tag body => some (l, ⟨Kind.nextPull.code, tag, body⟩)
  | .pulled l tag body => some (l, ⟨Kind.pulled.code, tag, body⟩)
  | .notFound l tag body => some (l, ⟨Kind.notFound.code, tag, body⟩)
  | .setFound l tag body => some (l, ⟨Kind.setFound.code, tag, body⟩)
  | .nextParcel l tag body => some (l, ⟨Kind.nextParcel.code, tag, body⟩)
  | .packed l tag body => some (l, ⟨Kind.packed.code, tag, body⟩)
  | .unpack l tag body => some (l, ⟨Kind.unpack.code, tag, body⟩)
  | .cartIn l tag body => some (l, ⟨Kind.cartIn.code, tag, body⟩)
  | .volIn l tag body => some (l, ⟨Kind.volIn.code, tag, body⟩)
  | .copysetRead l tag body => some (l, ⟨Kind.copysetRead.code, tag, body⟩)
  | .unknownKind l kind tag body => some (l, ⟨kind, tag, body⟩)
  | .busy _ _ _ _ => none
  | .receiveError _ _ => none
  | .frameSent _ => none
  | .linkRestart _ => none
  | .restartLine => none
  | .startUpScan => none
  | .minuteEvent => none
  | .deadlineExpiry _ => none
  | .restExpiry _ => none
  | .selectionPass => none
  | .copySetOffer => none
  | .starvedClaim _ => none
  | .parcelBacklogServe => none
  | .frameSeparatingIdle _ => none

/-- The command a word of the opcode table spells. The table gives none of its rows any bits, so no word spells one (log
entry 2). -/
def decodeTableWord (_nbits _w : Nat) : Option Instr :=
  none

end Sys2Proof
end

