-- ==== Sys2Proof/Machine/State.lean ====
section
/-! DEFINITION. The state of the GL-2140: every record, collection, counter and setting of the record memory (R1, sections
1.2 to 1.6), the state kept outside it (R1), the four Link Ports (chapter 10), and the queue of commands that wait. All of
it is plain data. Optional fields stand in the constructor of the state they are present in, so an absent field cannot be
read. `State.reset` is the part after its first start-up scan over a record memory that has never held its records
(R20, R21; log entry 3). -/

namespace Sys2Proof.Machine

/-- Records by number, numbers strictly rising (the canonical form; `Table.wf`). -/
abbrev Table (α : Type) := List (Nat × α)

/-- One thing for each cartridge class. -/
structure PerClass (α : Type) where
  c1 : α
  c2 : α
  c3 : α
deriving DecidableEq, Repr

/-- One thing for each station link. -/
structure PerLink (α : Type) where
  order : α
  duplication : α
  mailroom : α
  returns : α
deriving DecidableEq, Repr

/-- The priority of a wish entry and of what is made from it. -/
inductive Band where
  | urgent
  | normal
deriving DecidableEq, Repr

/-- The format of a wish entry (R7). -/
inductive Format where
  | cartridge
  | braille
deriving DecidableEq, Repr

/-- A shipping mode (R7, R10). -/
inductive Mode where
  | together
  | asReady
deriving DecidableEq, Repr

/-- A wish entry (R7). Its holder is the list or item it stands in. -/
structure WishEntry where
  title : Nat
  format : Format
  band : Band
  addedDay : Nat
deriving DecidableEq, Repr

/-- A patron's state; the pause-until day is present while PAUSED (R7). -/
inductive PatronState where
  | active
  | paused (untilDay : Nat)
  | suspended
  | closing
deriving DecidableEq, Repr

/-- A patron record (R7): A, T, K, M, H and the wish list, URGENT band before NORMAL. -/
structure Patron where
  state : PatronState
  allowance : Nat
  limit : Nat
  cls : Cls
  mode : Mode
  held : Nat
  wishes : List WishEntry
deriving DecidableEq, Repr

/-- A cartridge image: size S in AU and revision (R8). -/
structure Image where
  size : Nat
  revision : Nat
deriving DecidableEq, Repr

/-- A title record (R8) with its braille waiting list (R41). A braille form is its volume weights, in units of 10 g. -/
structure Title where
  withdrawn : Bool
  image : Option Image
  braille : Option (List Nat)
  copySets : List Nat
  waiting : List Nat
deriving DecidableEq, Repr

/-- A copy set's state, with its tie or its missing-volume list (R8). An item is named by its order and its place. -/
inductive SetState where
  | available
  | reserved (order place : Nat)
  | pulling (order place : Nat)
  | inDispatch (order place : Nat)
  | onLoan (loan : Nat)
  | incomplete (missing : List Nat)
deriving DecidableEq, Repr

/-- A copy set record (R8). -/
structure CopySet where
  title : Nat
  state : SetState
deriving DecidableEq, Repr

/-- A cartridge's state, with its link (R9, R64). -/
inductive CartState where
  | unwiped
  | blank
  | loaded (job : Nat)
  | wiping
  | written (order place : Nat)
  | onLoan (loan : Nat)
  | lost
  | retired
deriving DecidableEq, Repr

/-- A cartridge record (R9). -/
structure Cart where
  cls : Cls
  state : CartState
  writes : Nat
  faults : Nat
deriving DecidableEq, Repr

/-- A title of a write job, with the revision and footprint at planning (R9). -/
structure JobTitle where
  title : Nat
  revision : Nat
  footprint : Nat
deriving DecidableEq, Repr

/-- A write job's state; bay and cartridge in ASSIGNED and CANCEL-PENDING (R9). -/
inductive JobState where
  | queued
  | starved
  | assigned (bay serial : Nat)
  | cancelPending (bay serial : Nat)
deriving DecidableEq, Repr

/-- A write job record (R9). -/
structure Job where
  stamp : Nat
  order : Nat
  patron : Nat
  cls : Cls
  titles : List JobTitle
  band : Band
  state : JobState
  attempts : Nat
deriving DecidableEq, Repr

/-- What an item is: a cartridge item with its write job, a cartridge item with its serial once written, or a set item
(R10). -/
inductive ItemObject where
  | job (job : Nat)
  | cart (serial : Nat)
  | copySet (set : Nat)
deriving DecidableEq, Repr

/-- An order's item (R10). `place` is its position at placement, 1 to 12, which names it for as long as it lives (log
entry 20). -/
structure Item where
  place : Nat
  object : ItemObject
  band : Band
  entries : List WishEntry
  ready : Bool
  dispatched : Bool
deriving DecidableEq, Repr

/-- An order record; a live order is OPEN (R10). -/
structure Order where
  patron : Nat
  mode : Mode
  band : Band
  items : List Item
deriving DecidableEq, Repr

/-- A pull task's state (R10). -/
inductive TaskState where
  | queued
  | handed
deriving DecidableEq, Repr

/-- A pull task record (R10). -/
structure PullTask where
  copySet : Nat
  order : Nat
  band : Band
  state : TaskState
deriving DecidableEq, Repr

/-- A parcel's kind and contents (R10). -/
inductive Contents where
  | cartridges (serials : List Nat)
  | volumes (set : Nat) (vols : List Nat)
deriving DecidableEq, Repr

/-- A parcel's state (R10). -/
inductive ParcelState where
  | forming
  | ready
  | packing
  | dispatched
deriving DecidableEq, Repr

/-- A parcel record (R10). -/
structure Parcel where
  order : Nat
  group : Nat
  contents : Contents
  state : ParcelState
deriving DecidableEq, Repr

/-- A dispatch group record: its parcels in creation order, which is their order in the dispatch queue (R10, R125). -/
structure DispatchGroup where
  band : Band
  parcels : List Nat
  begun : Bool
deriving DecidableEq, Repr

/-- A loan's kind and object (R11). -/
inductive LoanObject where
  | cartridge (serial : Nat) (titles : List Nat)
  | copySet (set : Nat)
deriving DecidableEq, Repr

/-- A loan's state: E in OVERDUE, the returned-volume set and grace days left in PARTIAL (R11). -/
inductive LoanState where
  | out
  | overdue (days : Nat)
  | part (returned : List Nat) (grace : Nat)
deriving DecidableEq, Repr

/-- A loan record (R11). -/
structure Loan where
  patron : Nat
  object : LoanObject
  term : Nat
  daysLeft : Nat
  renewals : Nat
  state : LoanState
deriving DecidableEq, Repr

/-- The next-number counters and the creation-stamp counter (R2). -/
structure Counters where
  job : Nat
  order : Nat
  task : Nat
  parcel : Nat
  loan : Nat
  group : Nat
  stamp : Nat
deriving DecidableEq, Repr

/-- The settings record (section 1.6). -/
structure Settings where
  cartTerm : Nat
  brailleTerm : Nat
  renewalMax : Nat
  suspendAfter : Nat
  lostAfter : Nat
  partialGrace : Nat
  limitNext : Nat
  limitInForce : Nat
  writeDeadline : Nat
  wipeDeadline : Nat
  restInterval : Nat
  wearLimit : Nat
  warn : PerClass Nat
  critical : PerClass Nat
deriving DecidableEq, Repr

/-- How far a bay in SERVICE is trusted (R78). -/
inductive Standing where
  | qualifying
  | qualified
deriving DecidableEq, Repr

/-- What a bay in SERVICE is doing with a cartridge, with the minutes left of its deadline (R78). -/
inductive Activity where
  | idle
  | writing (job serial minutes : Nat)
  | wiping (serial minutes : Nat)
deriving DecidableEq, Repr

/-- A bay's condition with the fields present in it (R78): outside SERVICE the activity is IDLE. -/
inductive Condition where
  | offline
  | service (standing : Standing) (streak strikes : Nat) (activity : Activity)
  | resting (minutes : Nat)
  | failed
deriving DecidableEq, Repr

/-- How an activity ended (R78). -/
inductive Ending where
  | good
  | verifyFail
  | writeFail
  | fail
  | expired
  | fault
  | abandoned
  | takenBack
deriving DecidableEq, Repr

/-- The kind of a last activity, with the job number of a write (R78). -/
inductive WorkKind where
  | write (job : Nat)
  | wipe
deriving DecidableEq, Repr

/-- A bay's last activity (R78). -/
structure LastActivity where
  kind : WorkKind
  serial : Nat
  ending : Ending
deriving DecidableEq, Repr

/-- A bay record (R78). -/
structure Bay where
  condition : Condition
  restsToday : Nat
  last : Option LastActivity
deriving DecidableEq, Repr

/-- The duplication standing (R101). -/
inductive DupStanding where
  | running
  | halted
deriving DecidableEq, Repr

/-- The copy-set offer in progress: its set and the waiters already considered (R46). -/
structure Offer where
  set : Nat
  considered : List Nat
deriving DecidableEq, Repr

/-- The pass the Selection Engine is running: its patron and, for an offer's pass, the offered set (R44, R46). -/
structure PassRun where
  patron : Nat
  offered : Option Nat
deriving DecidableEq, Repr

/-- The notice kinds (R171). -/
inductive Notice where
  | patronSuspended
  | loansLost
  | itemDropped
  | workWaiting
  | bayResting
  | bayFailed
  | pullWaiting
  | parcelWaiting
  | missingVolumes
  | dupHalted
  | poolLow (cls : Cls)
  | poolCritical (cls : Cls)
deriving DecidableEq, Repr

/-- The outcome codes (section 10.7). -/
inductive OutcomeCode where
  | done
  | clamped
  | none
  | busy
  | wrongLink
  | unknownKind
  | badLength
  | noSuch
  | state
  | full
  | storeFull
  | already
  | held
  | withdrawn
  | tooLarge
  | inUse
  | tooEarly
  | late
  | limit
  | wanted
  | dayFull
  | dispatchOpen
  | partly
  | notOnLoan
  | found
  | retired
  | still
deriving DecidableEq, Repr

/-- One field of an answer: its width in bytes (section 10.7) and its value. -/
structure AnsField where
  width : Nat
  value : Nat
deriving DecidableEq, Repr

/-- An answer: its outcome code and its outcome-specific fields (R170). -/
structure Answer where
  outcome : OutcomeCode
  fields : List AnsField
deriving DecidableEq, Repr

/-- A frame of a send list (R170): the answer of the request in progress, a BUSY answer, or a NOTICE. -/
inductive OutFrame where
  | answer (tag : Half) (kind : Byte) (answer : Answer)
  | busy (tag : Half) (kind : Byte)
  | notice (kind : Notice)
deriving DecidableEq, Repr

/-- A port's receive state (R164). `waitIdle true` is WAIT-IDLE after a complete frame with no further character yet, where
the first further character is one receive error; `frame` holds the characters collected after the start byte. -/
inductive RxState where
  | waitIdle (afterFrame : Bool)
  | hunt
  | frame (collected : List Byte)
deriving DecidableEq, Repr

/-- The request in progress on a port: its tag and its kind as received (R168). -/
structure InProgress where
  tag : Half
  kind : Byte
deriving DecidableEq, Repr

/-- A Link Port (chapter 10). The notice set is a list in ascending notice code and class, no duplicates. `waiting` is the
body of the request in progress while that request waits for its block (R22, R168). -/
structure Port where
  rx : RxState
  inProgress : Option InProgress
  waiting : Option (List Byte)
  sendList : List OutFrame
  notices : List Notice
  badFrames : Nat
deriving DecidableEq, Repr

/-- The state of the part, and the queue of the commands that wait for it. -/
structure State where
  /-- The restart line is asserted (R175). -/
  restartAsserted : Bool
  /-- The record memory has never held the part's records (R20). -/
  virgin : Bool
  patrons : Table Patron
  titles : Table Title
  copySets : Table CopySet
  carts : Table Cart
  jobs : Table Job
  orders : Table Order
  tasks : Table PullTask
  parcels : Table Parcel
  groups : Table DispatchGroup
  loans : Table Loan
  counters : Counters
  /-- Total of held units (R6). -/
  heldTotal : Nat
  /-- BLANK pools, oldest first (R68). -/
  blank : PerClass (List Nat)
  /-- UNWIPED list, oldest first (R67). -/
  unwiped : List Nat
  /-- Reserved counts (R72). -/
  reserved : PerClass Nat
  /-- Starved lists, by stamp (R74). -/
  starved : PerClass (List Nat)
  /-- Write job queue (R85). -/
  jobQueue : List Nat
  /-- Pull queue (R106). -/
  pullQueue : List Nat
  /-- Dispatch queue (R125). -/
  dispatchQueue : List Nat
  settings : Settings
  /-- Service day number (R11, R137). -/
  day : Nat
  /-- Whether the current day is open (R11, R137). -/
  dayOpen : Bool
  /-- Dispatched-today tally (R11, R126). -/
  tally : Nat
  /-- The 32 bay records, by bay number (R78). -/
  bays : List Bay
  standing : DupStanding
  /-- Pass queue (R42). -/
  passQueue : List Nat
  /-- Pending offers (R45). -/
  pendingOffers : List Nat
  /-- Offer in progress (R46). -/
  offer : Option Offer
  /-- The pass that is running: begun and not yet taken (R22, R44). -/
  running : Option PassRun
  /-- Blocked lists (R49). -/
  blocked : PerClass (List Nat)
  /-- The patrons on each blocked list that stay on it until its release, since a PATRON-SET found them there (R24; log entry
  33). -/
  stays : PerClass (List Nat)
  /-- Job-record marks (R48). -/
  marks : PerClass Bool
  /-- Today's count (R126). -/
  todayCount : Nat
  /-- Capacity reserved for begun groups (R126). -/
  reservedCap : Nat
  ports : PerLink Port
  /-- The commands that wait, first in, first out (the model's own; log entry 1). -/
  pending : List Instr
deriving DecidableEq, Repr

/-- A fault would be raised by a command that stops the part. The spec gives none: a refused request is an answer and a
receive error is a count (R167, R169), so no meaning raises a fault and this type has no constructor (safe). -/
inductive Fault where
deriving DecidableEq, Repr

/-- A refusal: the model has no meaning for a command. -/
inductive Refusal where
  /-- Raised only by an arm of `exec` that has no meaning yet; every arm has one, so nothing raises it (safe). -/
  | notModelled (mnemonic : String)
deriving DecidableEq, Repr

/-- The settings record's defaults (section 1.6). -/
def Settings.default : Settings :=
  { cartTerm := 28, brailleTerm := 42, renewalMax := 2, suspendAfter := 14, lostAfter := 90, partialGrace := 10,
    limitNext := 600, limitInForce := 600, writeDeadline := 45, wipeDeadline := 15, restInterval := 15,
    wearLimit := 400, warn := ⟨40, 40, 40⟩, critical := ⟨10, 10, 10⟩ }

/-- Every counter as STORE-CLEAR leaves it (R19). -/
def Counters.initial : Counters :=
  { job := 1, order := 1, task := 1, parcel := 1, loan := 1, group := 1, stamp := 0 }

/-- A bay that has never been brought online (R78). -/
def Bay.initial : Bay :=
  { condition := .offline, restsToday := 0, last := none }

/-- A port as the scan leaves it, with the level kinds that hold pending and their NOTICE frames made (R21, R175). -/
def Port.started (kinds : List Notice) : Port :=
  { rx := .waitIdle false, inProgress := none, waiting := none, sendList := kinds.map .notice, notices := kinds
    badFrames := 0 }

/-- The part right after reset: what the start-up scan leaves over a record memory that has never held its records (R19,
R20, R21). Every pool is empty, so the POOL-LOW and POOL-CRITICAL conditions of all three classes hold. -/
def State.reset : State :=
  { restartAsserted := false, virgin := false
    patrons := [], titles := [], copySets := [], carts := [], jobs := [], orders := [], tasks := [], parcels := []
    groups := [], loans := []
    counters := Counters.initial
    heldTotal := 0
    blank := ⟨[], [], []⟩, unwiped := [], reserved := ⟨0, 0, 0⟩, starved := ⟨[], [], []⟩
    jobQueue := [], pullQueue := [], dispatchQueue := []
    settings := Settings.default
    day := 0, dayOpen := true, tally := 0
    bays := List.replicate 32 Bay.initial
    standing := .running
    passQueue := [], pendingOffers := [], offer := none, running := none, blocked := ⟨[], [], []⟩
    stays := ⟨[], [], []⟩, marks := ⟨false, false, false⟩, todayCount := 0, reservedCap := 0
    ports :=
      { order := Port.started [.poolCritical .c1, .poolCritical .c2, .poolCritical .c3]
        duplication := Port.started
          [.poolLow .c1, .poolLow .c2, .poolLow .c3, .poolCritical .c1, .poolCritical .c2, .poolCritical .c3]
        mailroom := Port.started []
        returns := Port.started [] }
    pending := [] }

end Sys2Proof.Machine
end

