-- ==== Sys2Proof/Machine/Table.lean ====
section
/-! DEFINITION. Reading and writing the record tables, and the lists and per-class and per-link figures: the one place where
records, queues and sets are kept in their order. -/

namespace Sys2Proof.Machine

/-- The record of a number, if one is live (R3). -/
def Table.get {α : Type} : Table α → Nat → Option α
  | [], _ => none
  | (k, v) :: rest, n => if n = k then some v else Table.get rest n

/-- Write a record under its number, keeping numbers rising. -/
def Table.put {α : Type} : Table α → Nat → α → Table α
  | [], n, v => [(n, v)]
  | (k, w) :: rest, n, v =>
    if n < k then (n, v) :: (k, w) :: rest
    else if n = k then (n, v) :: rest
    else (k, w) :: Table.put rest n v

/-- Free a record (R3). -/
def Table.del {α : Type} (t : Table α) (n : Nat) : Table α :=
  t.filter (fun e => e.1 != n)

/-- Change a record in place, where it is live. -/
def Table.modify {α : Type} (t : Table α) (n : Nat) (f : α → α) : Table α :=
  match t.get n with
  | some v => t.put n (f v)
  | none => t

/-- Change every record by a function of its number and contents. -/
def Table.mapAll {α : Type} (t : Table α) (f : Nat → α → α) : Table α :=
  t.map (fun e => (e.1, f e.1 e.2))

/-- The live numbers of a table, rising. -/
def Table.numbers {α : Type} (t : Table α) : List Nat :=
  t.map Prod.fst

/-- The numbers of the live records that satisfy a condition, rising. -/
def Table.select {α : Type} (t : Table α) (p : Nat → α → Bool) : List Nat :=
  (t.filter (fun e => p e.1 e.2)).map Prod.fst

/-- The canonical form: numbers strictly rising. -/
def Table.wf {α : Type} (t : Table α) : Bool :=
  decide (t.Pairwise (fun a b => a.1 < b.1))

/-- The figure of a class. -/
def PerClass.get {α : Type} (p : PerClass α) : Cls → α
  | .c1 => p.c1
  | .c2 => p.c2
  | .c3 => p.c3

/-- Replace the figure of a class. -/
def PerClass.set {α : Type} (p : PerClass α) (c : Cls) (v : α) : PerClass α :=
  match c with
  | .c1 => { p with c1 := v }
  | .c2 => { p with c2 := v }
  | .c3 => { p with c3 := v }

/-- The figure of a link. -/
def PerLink.get {α : Type} (p : PerLink α) : Link → α
  | .order => p.order
  | .duplication => p.duplication
  | .mailroom => p.mailroom
  | .returns => p.returns

/-- Replace the figure of a link. -/
def PerLink.set {α : Type} (p : PerLink α) (l : Link) (v : α) : PerLink α :=
  match l with
  | .order => { p with order := v }
  | .duplication => { p with duplication := v }
  | .mailroom => { p with mailroom := v }
  | .returns => { p with returns := v }

/-- The three classes in class order (R50). -/
def allClasses : List Cls := [.c1, .c2, .c3]

/-- The four links. -/
def allLinks : List Link := [.order, .duplication, .mailroom, .returns]

/-- Add a number at the tail of a list without duplicates; one already there keeps its place (R42, R45). -/
def appendNew (l : List Nat) (n : Nat) : List Nat :=
  if n ∈ l then l else l ++ [n]

/-- Put a member into an ordered list ahead of the first one it comes before. -/
def insertBefore {α : Type} (before : α → α → Bool) (x : α) : List α → List α
  | [] => [x]
  | y :: ys => if before x y then x :: y :: ys else y :: insertBefore before x ys

/-- A list sorted by insertion; members neither comes before keep their order. -/
def sortBy {α : Type} (before : α → α → Bool) (l : List α) : List α :=
  l.foldl (fun acc x => insertBefore before x acc) []

/-- The number of a list's members that satisfy a condition. -/
def countOf {α : Type} (p : α → Bool) (l : List α) : Nat :=
  (l.filter p).length

/-- The sum of a figure over a list. -/
def sumOf {α : Type} (f : α → Nat) (l : List α) : Nat :=
  l.foldl (fun acc x => acc + f x) 0

/-- A next-number counter's following value: 1 after 16,777,215 (R2). -/
def nextNumber (n : Nat) : Nat :=
  if n ≥ Config.maxNumber then 1 else n + 1

/-- Advance a counter past live numbers, at most `fuel` of them (R2). -/
def skipLive (live : List Nat) : Nat → Nat → Nat
  | 0, n => n
  | fuel + 1, n => if n ∈ live then skipLive live fuel (nextNumber n) else n

/-- The number a new record takes: the counter's value, advanced past every live number (R2). -/
def freshNumber {α : Type} (t : Table α) (counter : Nat) : Nat :=
  skipLive t.numbers t.length counter

end Sys2Proof.Machine
end

