-- ==== Sys2Proof/Machine/Operands.lean ====
section
/-! DEFINITION. The operand forms of requests and answers: code fields (section 10.7, "Code values"), values brought into
range, and the fields of an answer at the widths of section 10.7. -/

namespace Sys2Proof.Machine

/-- Bring a value into a range. -/
def clampTo (lo hi v : Nat) : Nat :=
  if v < lo then lo else if hi < v then hi else v

/-- A class number, where it is one (section 10.7). -/
def clsOfNat : Nat → Option Cls
  | 1 => some .c1
  | 2 => some .c2
  | 3 => some .c3
  | _ => none

/-- A class's number. -/
def clsCode : Cls → Nat
  | .c1 => 1
  | .c2 => 2
  | .c3 => 3

/-- A class number brought into 1 to 3 (R23). -/
def clampCls (v : Nat) : Cls :=
  if v ≤ 1 then .c1 else if v = 2 then .c2 else .c3

/-- A format code: 1 CARTRIDGE, 2 BRAILLE. -/
def formatOfCode : Nat → Option Format
  | 1 => some .cartridge
  | 2 => some .braille
  | _ => none

/-- A format's code. -/
def formatCode : Format → Nat
  | .cartridge => 1
  | .braille => 2

/-- A band code: 1 URGENT, 2 NORMAL. -/
def bandOfCode : Nat → Option Band
  | 1 => some .urgent
  | 2 => some .normal
  | _ => none

/-- A band's code. -/
def bandCode : Band → Nat
  | .urgent => 1
  | .normal => 2

/-- A band code of WISH-ADD or WISH-MOVE: a code that names neither band is taken as NORMAL (R35, R38). -/
def bandOrNormal (v : Nat) : Band :=
  (bandOfCode v).getD .normal

/-- A mode code: 1 TOGETHER, 2 AS-READY. -/
def modeOfCode : Nat → Option Mode
  | 1 => some .together
  | 2 => some .asReady
  | _ => none

/-- A mode's code. -/
def modeCode : Mode → Nat
  | .together => 1
  | .asReady => 2

/-- A field of one byte. -/
def f1 (v : Nat) : AnsField := ⟨1, v⟩
/-- A field of two bytes. -/
def f2 (v : Nat) : AnsField := ⟨2, v⟩
/-- A field of three bytes. -/
def f3 (v : Nat) : AnsField := ⟨3, v⟩
/-- A field of four bytes. -/
def f4 (v : Nat) : AnsField := ⟨4, v⟩
/-- A flag or yes-or-no field: 0 or 1. -/
def fFlag (b : Bool) : AnsField := ⟨1, if b then 1 else 0⟩

/-- A patron state's code: numbered from 1 in the order of R7 (section 10.7). -/
def PatronState.code : PatronState → Nat
  | .active => 1
  | .paused _ => 2
  | .suspended => 3
  | .closing => 4

/-- A copy set state's code, in the order of R8. -/
def SetState.code : SetState → Nat
  | .available => 1
  | .reserved _ _ => 2
  | .pulling _ _ => 3
  | .inDispatch _ _ => 4
  | .onLoan _ => 5
  | .incomplete _ => 6

/-- A cartridge state's code, in the order of R9. -/
def CartState.code : CartState → Nat
  | .unwiped => 1
  | .blank => 2
  | .loaded _ => 3
  | .wiping => 4
  | .written _ _ => 5
  | .onLoan _ => 6
  | .lost => 7
  | .retired => 8

/-- A loan state's code, in the order of R11. -/
def LoanState.code : LoanState → Nat
  | .out => 1
  | .overdue _ => 2
  | .part _ _ => 3

/-- A condition's code, in the order of R78. -/
def Condition.code : Condition → Nat
  | .offline => 1
  | .service _ _ _ _ => 2
  | .resting _ => 3
  | .failed => 4

/-- A standing's code, in the order of R78. -/
def Standing.code : Standing → Nat
  | .qualifying => 1
  | .qualified => 2

/-- An activity's code, in the order of R78. -/
def Activity.code : Activity → Nat
  | .idle => 1
  | .writing _ _ _ => 2
  | .wiping _ _ => 3

/-- An ending's code, in the order of R78. -/
def Ending.code : Ending → Nat
  | .good => 1
  | .verifyFail => 2
  | .writeFail => 3
  | .fail => 4
  | .expired => 5
  | .fault => 6
  | .abandoned => 7
  | .takenBack => 8

/-- The duplication standing's code, in the order of R101. -/
def DupStanding.code : DupStanding → Nat
  | .running => 1
  | .halted => 2

/-- An outcome's code (section 10.7, "Outcome codes"). -/
def OutcomeCode.code : OutcomeCode → Nat
  | .done => 0x00
  | .clamped => 0x01
  | .none => 0x02
  | .busy => 0x03
  | .wrongLink => 0x04
  | .unknownKind => 0x05
  | .badLength => 0x06
  | .noSuch => 0x07
  | .state => 0x08
  | .full => 0x09
  | .storeFull => 0x0A
  | .already => 0x0B
  | .held => 0x0C
  | .withdrawn => 0x0D
  | .tooLarge => 0x0E
  | .inUse => 0x0F
  | .tooEarly => 0x10
  | .late => 0x11
  | .limit => 0x12
  | .wanted => 0x13
  | .dayFull => 0x14
  | .dispatchOpen => 0x15
  | .partly => 0x16
  | .notOnLoan => 0x17
  | .found => 0x18
  | .retired => 0x19
  | .still => 0x1A

/-- A notice kind's code (section 10.7, "Notice code"). -/
def Notice.code : Notice → Nat
  | .patronSuspended => 0x01
  | .loansLost => 0x02
  | .itemDropped => 0x03
  | .workWaiting => 0x04
  | .bayResting => 0x05
  | .bayFailed => 0x06
  | .pullWaiting => 0x07
  | .parcelWaiting => 0x08
  | .missingVolumes => 0x09
  | .dupHalted => 0x10
  | .poolLow _ => 0x11
  | .poolCritical _ => 0x12

/-- A notice kind's class: 1 to 3 for the pool kinds and 0 for every other (R171). -/
def Notice.cls : Notice → Nat
  | .poolLow c => clsCode c
  | .poolCritical c => clsCode c
  | _ => 0

/-- The outcome of a request that is only refused: no outcome-specific field. -/
def refuse (o : OutcomeCode) : Answer := ⟨o, []⟩

/-- DONE, or CLAMPED where a value was brought into range. -/
def doneOr (clamped : Bool) : OutcomeCode :=
  if clamped then .clamped else .done

/-- The bytes of an answer's fields, each at its width, least significant byte first (R165, R170). -/
def fieldBytes (fs : List AnsField) : List Byte :=
  fs.flatMap (fun f => leBytes f.width f.value)

/-- The frame a send-list entry is (R170, R171): answers and BUSY answers have kind 0xF0 and a body of outcome code, request
kind and fields; a NOTICE has kind 0xF1, tag 0 and a body of notice code and class. -/
def OutFrame.frame : OutFrame → RxFrame
  | .answer tag kind a => ⟨0xF0, tag, BitVec.ofNat 8 a.outcome.code :: kind :: fieldBytes a.fields⟩
  | .busy tag kind => ⟨0xF0, tag, [BitVec.ofNat 8 OutcomeCode.busy.code, kind]⟩
  | .notice n => ⟨0xF1, 0, [BitVec.ofNat 8 n.code, BitVec.ofNat 8 n.cls]⟩

/-- The bytes a send-list entry puts on the line, its check computed as R166 gives. -/
def OutFrame.bytes (f : OutFrame) : List Byte :=
  f.frame.bytes

end Sys2Proof.Machine
end

