-- ==== Sys2Proof/Machine/Flags.lean ====
section
/-! DEFINITION. The status the part reports: free blanks and level conditions (R72, R75), the notice sets and their NOTICE
frames (R170, R171), and the end of an event, where conditions are compared with those before it (R75, R86, R107,
R118, R125). -/

namespace Sys2Proof.Machine

/-- A link's port. -/
def State.port (s : State) (l : Link) : Port :=
  s.ports.get l

/-- Change a link's port. -/
def State.onPort (s : State) (l : Link) (f : Port → Port) : State :=
  { s with ports := s.ports.set l (f (s.ports.get l)) }

/-- A class's free blanks: its BLANK count less its reserved count (R72). -/
def freeBlanks (s : State) (c : Cls) : Nat :=
  (s.blank.get c).length - s.reserved.get c

/-- A class's low condition: free blanks at or below the warn level (R75). -/
def lowHolds (s : State) (c : Cls) : Bool :=
  freeBlanks s c ≤ s.settings.warn.get c

/-- A class's critical condition: free blanks at or below the critical level (R75). -/
def criticalHolds (s : State) (c : Cls) : Bool :=
  freeBlanks s c ≤ s.settings.critical.get c

/-- Whether a class is needy, as the work arbiter tests it (R87). -/
def needy (s : State) (c : Cls) : Bool :=
  lowHolds s c || !(s.starved.get c).isEmpty

/-- The level kinds, whose condition holds or does not; none for an event kind (R171). -/
def levelCondition (s : State) : Notice → Option Bool
  | .dupHalted => some (s.standing == .halted)
  | .poolLow c => some (lowHolds s c)
  | .poolCritical c => some (criticalHolds s c)
  | _ => none

/-- The kinds a link carries, in ascending notice code and class (R171). -/
def kindsOfLink : Link → List Notice
  | .order =>
    [.patronSuspended, .loansLost, .itemDropped, .dupHalted, .poolCritical .c1, .poolCritical .c2, .poolCritical .c3]
  | .duplication =>
    [.workWaiting, .bayResting, .bayFailed, .dupHalted, .poolLow .c1, .poolLow .c2, .poolLow .c3,
     .poolCritical .c1, .poolCritical .c2, .poolCritical .c3]
  | .mailroom => [.pullWaiting, .parcelWaiting]
  | .returns => [.loansLost, .missingVolumes]

/-- Whether one kind stands before another in a notice set: by notice code, then class (R170, R172). -/
def Notice.before (a b : Notice) : Bool :=
  a.code < b.code || (a.code == b.code && a.cls < b.cls)

/-- A notice set with a kind made pending; one already pending leaves it as it is (R171). -/
def addNotice (set : List Notice) (n : Notice) : List Notice :=
  if n ∈ set then set else insertBefore Notice.before n set

/-- Make a kind pending on a link. Its NOTICE frame is made at the end of the event (`noticeFrames`). -/
def raise (l : Link) (n : Notice) (s : State) : State :=
  s.onPort l (fun p => { p with notices := addNotice p.notices n })

/-- Whether a send-list entry is the answer of the request in progress, which has a place of its own (R170). -/
def OutFrame.isAnswer : OutFrame → Bool
  | .answer _ _ _ => true
  | .busy _ _ => false
  | .notice _ => false

/-- Whether the 128 places of a send list are full. The answer of the request in progress is not counted (R170; log entry
10). DESIGN CHOICE, unsafe: a frame that the transmitter is sending keeps its place until its last byte has left (log entry
34). -/
def Port.full (p : Port) : Bool :=
  Config.sendPlaces ≤ countOf (fun f => !f.isAnswer) p.sendList

/-- One receive error: the bad-frame count rises by 1 and stays at 65,535 (R167). -/
def Port.countBad (p : Port) : Port :=
  { p with badFrames := if p.badFrames < Config.maxBadFrames then p.badFrames + 1 else Config.maxBadFrames }

/-- Make a NOTICE frame at the tail of a send list, unless the list is full (R170). -/
def Port.pushNotice (p : Port) (n : Notice) : Port :=
  if p.full then p else { p with sendList := p.sendList ++ [.notice n] }

/-- The NOTICE frames of one port: one for each kind pending now and not before, in ascending code and class (R170, R171). -/
def Port.noticeFrames (old now : Port) : Port :=
  (now.notices.filter (fun n => n ∉ old.notices)).foldl Port.pushNotice now

/-- The NOTICE frames of every port for the kinds that became pending between two states (R170, R171). -/
def noticeFrames (s0 s : State) : State :=
  { s with
    ports :=
      { order := Port.noticeFrames s0.ports.order s.ports.order
        duplication := Port.noticeFrames s0.ports.duplication s.ports.duplication
        mailroom := Port.noticeFrames s0.ports.mailroom s.ports.mailroom
        returns := Port.noticeFrames s0.ports.returns s.ports.returns } }

/-- Whether the pull queue holds a QUEUED task (R107). -/
def hasQueuedTask (s : State) : Bool :=
  s.tasks.any (fun e => e.2.state == .queued)

/-- A parcel's state, where it is live. -/
def parcelState (s : State) (n : Nat) : Option ParcelState :=
  (s.parcels.get n).map Parcel.state

/-- Whether the dispatch queue holds a READY parcel (R125). -/
def hasReadyParcel (s : State) : Bool :=
  s.dispatchQueue.any (fun n => parcelState s n == some .ready)

/-- Raise a kind where a test holds. -/
def raiseIf (b : Bool) (l : Link) (n : Notice) (s : State) : State :=
  if b then raise l n s else s

/-- WORK-WAITING: the write job queue or the UNWIPED list went from empty to not empty (R67, R86). -/
def workWaitingDue (s0 s : State) : Bool :=
  (s0.jobQueue.isEmpty && !s.jobQueue.isEmpty) || (s0.unwiped.isEmpty && !s.unwiped.isEmpty)

/-- PULL-WAITING: the pull queue came to hold a QUEUED task (R107). -/
def pullWaitingDue (s0 s : State) : Bool :=
  !hasQueuedTask s0 && hasQueuedTask s

/-- PARCEL-WAITING: the dispatch queue came to hold a READY parcel (R118, R125). -/
def parcelWaitingDue (s0 s : State) : Bool :=
  !hasReadyParcel s0 && hasReadyParcel s

/-- A class's level notices: each condition that came to hold (R75). -/
def levelNotices (s0 : State) (c : Cls) (s : State) : State :=
  let low := !lowHolds s0 c && lowHolds s c
  let crit := !criticalHolds s0 c && criticalHolds s c
  raiseIf crit .duplication (.poolCritical c)
    (raiseIf crit .order (.poolCritical c) (raiseIf low .duplication (.poolLow c) s))

/-- The notices an event's end makes pending, by comparing the state after it with the state before it (R75, R86, R107,
R118, R125). Kinds raised inside the event are already pending. DEDUCED, unsafe: a PACKED or a cancellation that releases a
group raises PARCEL-WAITING as any event does (R118), though R125 says that neither ever raises it (log entry 30). -/
def conditionNotices (s0 s : State) : State :=
  let s1 := raiseIf (workWaitingDue s0 s) .duplication .workWaiting s
  let s2 := raiseIf (pullWaitingDue s0 s) .mailroom .pullWaiting s1
  let s3 := raiseIf (parcelWaitingDue s0 s) .mailroom .parcelWaiting s2
  levelNotices s0 .c3 (levelNotices s0 .c2 (levelNotices s0 .c1 s3))

/-- The end of an event that began at `s0`: its conditions compared, then its NOTICE frames made, which follow the answer
where the event is a request (R170, R171). -/
def endEvent (s0 s : State) : State :=
  noticeFrames s0 (conditionNotices s0 s)

/-- Raise every level kind a link carries whose condition holds (R21, R174). -/
def raiseLevels (l : Link) (s : State) : State :=
  ((kindsOfLink l).filter (fun n => levelCondition s n == some true)).foldl (fun acc n => raise l n acc) s

end Sys2Proof.Machine
end

