-- ==== Sys2Proof/Machine/Ops.lean ====
section
/-! DEFINITION. The operations the blocks share: held units and the freeing of a CLOSING patron (R30, R32), the suspension
check (R142), waiting lists and wish lists (R34, R40, R41), the pass queue and the blocked lists (R42, R50, R51), the
pending offers (R45), pools, reservations and starved jobs (R67 to R74), and the write job queue (R85). Taking and ending a
request is in Sys2Proof/Machine/LinkPorts.lean; a block has no exception entry. -/

namespace Sys2Proof.Machine

/-- What taking a request gives: the state with its effects, and its answer. -/
structure Taken where
  state : State
  answer : Answer
deriving DecidableEq, Repr

/-- A request refused: the records as they were, and an outcome code with no field. -/
def refused (s : State) (o : OutcomeCode) : Taken := ⟨s, refuse o⟩

/-! ### Patrons -/

/-- Write a patron record. -/
def State.putPatron (s : State) (n : Nat) (p : Patron) : State :=
  { s with patrons := s.patrons.put n p }

/-- Whether a patron has a record and is not CLOSING: the condition of an append at a closed loan, a drop or a cancel with
restore (R43). -/
def notClosing (s : State) (n : Nat) : Bool :=
  match s.patrons.get n with
  | some p => p.state != .closing
  | none => false

/-- Append a patron to the tail of the pass queue; one already there keeps its place (R42). -/
def appendPass (n : Nat) (s : State) : State :=
  { s with passQueue := appendNew s.passQueue n }

/-- Append a patron that is not CLOSING (R43). -/
def appendPassOpen (n : Nat) (s : State) : State :=
  if notClosing s n then appendPass n s else s

/-- A patron's H falls, and the held-units total by the same amount (R32). -/
def lowerHeld (n k : Nat) (s : State) : State :=
  match s.patrons.get n with
  | some p => { s.putPatron n { p with held := p.held - k } with heldTotal := s.heldTotal - k }
  | none => s

/-- A CLOSING patron whose H is 0 is freed (R30). -/
def freeIfDone (n : Nat) (s : State) : State :=
  match s.patrons.get n with
  | some p => if p.state = .closing ∧ p.held = 0 then { s with patrons := s.patrons.del n } else s
  | none => s

/-- Whether a loan is OVERDUE with E at or above the suspend-after setting. -/
def Loan.suspends (after : Nat) (l : Loan) : Bool :=
  match l.state with
  | .overdue e => after ≤ e
  | _ => false

/-- The suspension condition of a patron (section 2.2, R142). -/
def suspensionHolds (s : State) (n : Nat) : Bool :=
  s.loans.any (fun e => e.2.patron == n && e.2.suspends s.settings.suspendAfter)

/-- The suspension check of a patron (R142): ACTIVE with the condition enters SUSPENDED and raises PATRON-SUSPENDED (R27);
SUSPENDED without it returns to ACTIVE and is appended to the pass queue (R28). -/
def suspensionCheck (n : Nat) (s : State) : State :=
  match s.patrons.get n with
  | some p =>
    if p.state = .active ∧ suspensionHolds s n then
      raise .order .patronSuspended (s.putPatron n { p with state := .suspended })
    else if p.state = .suspended ∧ ¬ suspensionHolds s n then
      appendPass n (s.putPatron n { p with state := .active })
    else s
  | none => s

/-! ### Wish lists and waiting lists -/

/-- The URGENT entries of a list. -/
def urgentOf (l : List WishEntry) : List WishEntry :=
  l.filter (fun w => w.band == .urgent)

/-- The NORMAL entries of a list. -/
def normalOf (l : List WishEntry) : List WishEntry :=
  l.filter (fun w => w.band == .normal)

/-- Change a title's waiting list. -/
def onWaiting (t : Nat) (f : List Nat → List Nat) (s : State) : State :=
  { s with titles := s.titles.modify t (fun r => { r with waiting := f r.waiting }) }

/-- A patron leaves a title's waiting list (R41). -/
def leaveWaiting (n t : Nat) (s : State) : State :=
  onWaiting t (fun l => l.erase n) s

/-- A patron joins the head of a title's waiting list (R40, R41). -/
def joinWaitingHead (n t : Nat) (s : State) : State :=
  onWaiting t (fun l => n :: l.erase n) s

/-- A patron leaves the waiting list of every BRAILLE entry among some (R37, R41, R60). -/
def leaveWaitingAll (n : Nat) (ws : List WishEntry) (s : State) : State :=
  ws.foldl (fun acc w => if w.format = .braille then leaveWaiting n w.title acc else acc) s

/-- Entries put back into a wish list at the heads of their bands, keeping their order within each band (R40). -/
def putBack (back wishes : List WishEntry) : List WishEntry :=
  urgentOf back ++ urgentOf wishes ++ normalOf back ++ normalOf wishes

/-- Return entries to a patron's wish list as one block (R40): as many, in placing order, as the list has room for under 64;
each BRAILLE one puts the patron at the head of its title's waiting list. The rest are freed. -/
def returnEntries (n : Nat) (entries : List WishEntry) (s : State) : State :=
  match s.patrons.get n with
  | some p =>
    let back := entries.take (Config.maxWishes - p.wishes.length)
    back.foldl (fun acc w => if w.format = .braille then joinWaitingHead n w.title acc else acc)
      (s.putPatron n { p with wishes := putBack back p.wishes })
  | none => s

/-! ### Write jobs, cartridges and pools -/

/-- Write a job record. -/
def State.putJob (s : State) (n : Nat) (j : Job) : State :=
  { s with jobs := s.jobs.put n j }

/-- Write a cartridge record. -/
def State.putCart (s : State) (n : Nat) (c : Cart) : State :=
  { s with carts := s.carts.put n c }

/-- Write a copy set record. -/
def State.putSet (s : State) (n : Nat) (c : CopySet) : State :=
  { s with copySets := s.copySets.put n c }

/-- Whether one job stands before another in the write job queue: URGENT first, then by stamp (R85). -/
def Job.before (a b : Job) : Bool :=
  match a.band, b.band with
  | .urgent, .normal => true
  | .normal, .urgent => false
  | _, _ => a.stamp < b.stamp

/-- Whether one live job stands before another, by number. -/
def jobBefore (s : State) (a b : Nat) : Bool :=
  match s.jobs.get a, s.jobs.get b with
  | some x, some y => x.before y
  | _, _ => false

/-- Whether one live job has the older stamp, by number (R74). -/
def stampBefore (s : State) (a b : Nat) : Bool :=
  match s.jobs.get a, s.jobs.get b with
  | some x, some y => x.stamp < y.stamp
  | _, _ => false

/-- A job joins the write job queue at the place its band and stamp give (R85). -/
def enqueueJob (n : Nat) (s : State) : State :=
  { s with jobQueue := insertBefore (jobBefore s) n s.jobQueue }

/-- One blank of a class is reserved (R72). -/
def reserveBlank (c : Cls) (s : State) : State :=
  { s with reserved := s.reserved.set c (s.reserved.get c + 1) }

/-- A job becomes QUEUED with a reservation, and joins the queue (R73, R74). -/
def queueWithBlank (n : Nat) (j : Job) (s : State) : State :=
  enqueueJob n (reserveBlank j.cls (s.putJob n { j with state := .queued }))

/-- A job becomes STARVED and joins its class's starved list at its stamp's place (R73, R74). -/
def starveJob (n : Nat) (j : Job) (s : State) : State :=
  let s1 := s.putJob n { j with state := .starved }
  { s1 with starved := s1.starved.set j.cls (insertBefore (stampBefore s1) n (s1.starved.get j.cls)) }

/-- A job needs a new blank (R73): a free blank above 0 is reserved for it, whatever the critical level, else it starves. -/
def needBlank (n : Nat) (s : State) : State :=
  match s.jobs.get n with
  | some j => if 0 < freeBlanks s j.cls then queueWithBlank n j s else starveJob n j s
  | none => s

/-- The starved claim of a class (R74 step 1): its oldest starved job takes a free blank. -/
def claimStarved (c : Cls) (s : State) : State :=
  match s.starved.get c with
  | [] => s
  | n :: rest =>
    if 0 < freeBlanks s c then
      match s.jobs.get n with
      | some j => queueWithBlank n j { s with starved := s.starved.set c rest }
      | none => s
    else s

/-- A cartridge joins the tail of the UNWIPED list, its counts unchanged (R67). -/
def toUnwiped (serial : Nat) (s : State) : State :=
  match s.carts.get serial with
  | some c => { s.putCart serial { c with state := .unwiped } with unwiped := s.unwiped ++ [serial] }
  | none => s

/-- A bad outcome of an activity on a cartridge (R69): its fault count rises by 1; at 3 it is RETIRED, below 3 it joins the
UNWIPED tail. -/
def faultCart (serial : Nat) (s : State) : State :=
  match s.carts.get serial with
  | some c =>
    if c.faults + 1 ≥ Config.maxFaults then
      s.putCart serial { c with faults := Config.maxFaults, state := .retired }
    else toUnwiped serial (s.putCart serial { c with faults := c.faults + 1 })
  | none => s

/-- A good wipe of a cartridge (R69): RETIRED at the wear limit, else BLANK at the tail of its class's pool, where a starved
job of the class claims it first (R74). -/
def wipedCart (serial : Nat) (s : State) : State :=
  match s.carts.get serial with
  | some c =>
    if s.settings.wearLimit ≤ c.writes then s.putCart serial { c with state := .retired }
    else
      let s1 := s.putCart serial { c with state := .blank }
      claimStarved c.cls { s1 with blank := s1.blank.set c.cls (s1.blank.get c.cls ++ [serial]) }
  | none => s

/-- A write-job record is freed (R3). -/
def freeJob (n : Nat) (s : State) : State :=
  { s with jobs := s.jobs.del n }

/-! ### Blocked lists -/

/-- Release blocked list c: its patrons join the tail of the pass queue in list order, and it is empty, with none left to stay on
it (R24, R50). -/
def releaseList (c : Cls) (s : State) : State :=
  { s with
    passQueue := (s.blocked.get c).foldl appendNew s.passQueue
    blocked := s.blocked.set c []
    stays := s.stays.set c [] }

/-- Whether a write-job record live at the start of an event has been freed in it (R51). -/
def jobFreed (s0 s : State) : Bool :=
  s0.jobs.any (fun e => (s.jobs.get e.1).isNone)

/-- Whether an event releases blocked list c: its free blanks came to stand above the critical level, having stood at or
below it (R50), or a write-job record was freed while its mark was set (R51). -/
def releaseDue (s0 s : State) (c : Cls) : Bool :=
  (criticalHolds s0 c && !criticalHolds s c) || (jobFreed s0 s && s.marks.get c)

/-- Release a list where it is due. -/
def releaseIf (b : Bool) (c : Cls) (s : State) : State :=
  if b then releaseList c s else s

/-- The blocked-list releases of an event that began at `s0`, in class order (R50, R51); a freed job record clears the
marks. DEDUCED, unsafe: this holds while HALTED too, where R101 says the lists are kept as R52 gives (log entry 29). -/
def releaseLists (s0 s : State) : State :=
  let s1 := releaseIf (releaseDue s0 s .c1) .c1 s
  let s2 := releaseIf (releaseDue s0 s .c2) .c2 s1
  let s3 := releaseIf (releaseDue s0 s .c3) .c3 s2
  if jobFreed s0 s then { s3 with marks := ⟨false, false, false⟩ } else s3

/-! ### Copy sets and offers -/

/-- A copy set becomes AVAILABLE; where its title's waiting list is not empty at that moment it joins the pending offers
(R45). -/
def makeAvailable (n : Nat) (s : State) : State :=
  match s.copySets.get n with
  | some c =>
    let s1 := s.putSet n { c with state := .available }
    match s.titles.get c.title with
    | some t => if t.waiting.isEmpty then s1 else { s1 with pendingOffers := appendNew s1.pendingOffers n }
    | none => s1
  | none => s

/-- A title's volume count; 0 for a title without a braille form. -/
def volumeCount (s : State) (t : Nat) : Nat :=
  match s.titles.get t with
  | some r => (r.braille.map List.length).getD 0
  | none => 0

/-- The volume numbers 1 to n. -/
def volumesTo (n : Nat) : List Nat :=
  (List.range n).map (· + 1)

/-- A copy set enters INCOMPLETE with a missing-volume list (R110, R141, R159). -/
def makeIncomplete (n : Nat) (missing : List Nat) (s : State) : State :=
  match s.copySets.get n with
  | some c => s.putSet n { c with state := .incomplete missing }
  | none => s

/-! ### Items -/

/-- The item of an order at a place. -/
def Order.item (o : Order) (place : Nat) : Option Item :=
  o.items.find? (fun i => i.place == place)

/-- Change an order's item. -/
def Order.setItem (o : Order) (place : Nat) (f : Item → Item) : Order :=
  { o with items := o.items.map (fun i => if i.place = place then f i else i) }

/-- An item leaves its order; the items behind it keep their order (R104). -/
def Order.dropItem (o : Order) (place : Nat) : Order :=
  { o with items := o.items.filter (fun i => i.place != place) }

/-- Change an order's item. -/
def onItem (order place : Nat) (f : Item → Item) (s : State) : State :=
  { s with orders := s.orders.modify order (fun o => o.setItem place f) }

/-- An item leaves its order's item list (R104). -/
def removeItem (order place : Nat) (s : State) : State :=
  { s with orders := s.orders.modify order (fun o => o.dropItem place) }

/-- An order whose item list is empty, or every item of which is dispatched, is COMPLETE and freed (R104). -/
def completeOrder (order : Nat) (s : State) : State :=
  match s.orders.get order with
  | some o => if o.items.all Item.dispatched then { s with orders := s.orders.del order } else s
  | none => s

/-- The number of a patron's open loans. -/
def openLoans (s : State) (n : Nat) : Nat :=
  countOf (fun e => e.2.patron == n) s.loans

/-- The number of a patron's undispatched, undropped items. -/
def openItems (s : State) (n : Nat) : Nat :=
  sumOf (fun e => if e.2.patron = n then countOf (fun i => !i.dispatched) e.2.items else 0) s.orders

/-- The number of wish entries in lists and attached to items (R5, R35). -/
def wishEntryCount (s : State) : Nat :=
  sumOf (fun e => e.2.wishes.length) s.patrons +
    sumOf (fun e => sumOf (fun i => i.entries.length) e.2.items) s.orders

end Sys2Proof.Machine
end

