-- ==== Sys2Proof/Machine/Pools.lean ====
section
/-! DEFINITION. The Pool Manager's own requests (chapter 4): what CART-ENROL, CART-FORGET and POOL-SET do when taken. The
pools' part of writes, wipes and cancellations is in Sys2Proof/Machine/Ops.lean. -/

namespace Sys2Proof.Machine

/-- CART-ENROL taken (R65). -/
def takeCartEnrol (serial c : Nat) (s : State) : Taken :=
  match (if serial = 0 then none else clsOfNat c) with
  | none => refused s .noSuch
  | some cls =>
    if (s.carts.get serial).isSome then refused s .already
    else if Config.maxCartridges ≤ s.carts.length then refused s .storeFull
    else
      ⟨{ s.putCart serial { cls := cls, state := .unwiped, writes := 0, faults := 0 } with
          unwiped := s.unwiped ++ [serial] }, .done, []⟩

/-- CART-FORGET taken (R66). -/
def takeCartForget (serial : Nat) (s : State) : Taken :=
  match s.carts.get serial with
  | none => refused s .noSuch
  | some c =>
    if c.state = .lost ∨ c.state = .retired then ⟨{ s with carts := s.carts.del serial }, .done, []⟩
    else refused s .state

/-- The number of a class's cartridges in the state a code numbers (R76). -/
def cartsIn (s : State) (c : Cls) (code : Nat) : Nat :=
  countOf (fun e => e.2.cls == c && e.2.state.code == code) s.carts

/-- A class's figures as POOL-SET gives them (R76): the levels, BLANK, reserved and free counts, starved jobs, the
cartridges in UNWIPED, LOADED, WIPING, WRITTEN, ON-LOAN, LOST and RETIRED, and the two conditions. -/
def poolFields (s : State) (c : Cls) : List AnsField :=
  [f2 (s.settings.warn.get c), f2 (s.settings.critical.get c), f2 (s.blank.get c).length, f2 (s.reserved.get c),
   f2 (freeBlanks s c), f2 (s.starved.get c).length]
    ++ [1, 3, 4, 5, 6, 7, 8].map (fun code => f2 (cartsIn s c code))
    ++ [fFlag (lowHolds s c), fFlag (criticalHolds s c)]

/-- POOL-SET's levels (R76): warn in 1 to 1,000, critical in 0 to the stored warn less 1. -/
def poolLevels (warn critical : Nat) : Nat × Nat :=
  (clampTo 1 1000 warn, min critical (clampTo 1 1000 warn - 1))

/-- POOL-SET taken (R76); a lowered critical level may release the class's blocked list (R50). -/
def takePoolSet (c warn critical : Nat) (s : State) : Taken :=
  match clsOfNat c with
  | none => refused s .noSuch
  | some cls =>
    let v := poolLevels warn critical
    let g := s.settings
    let s1 := releaseLists s
      { s with settings := { g with warn := g.warn.set cls v.1, critical := g.critical.set cls v.2 } }
    ⟨s1, doneOr (v.1 != warn || v.2 != critical), poolFields s1 cls⟩

end Sys2Proof.Machine
end

