-- ==== Sys2Proof/Machine/Patrons.lean ====
section
/-! DEFINITION. The Wish List Unit (chapter 2): what PATRON-SET, PATRON-PAUSE, PATRON-RESUME, PATRON-READ, WISH-ADD,
WISH-DROP, WISH-MOVE and WISH-READ do when taken. PATRON-CLOSE cancels items and is in Sys2Proof/Machine/Orders.lean.
A request that names the patron of a running pass waits for its end before it is taken (R22; Sys2Proof/Machine/LinkPorts.lean,
log entry 4). -/

namespace Sys2Proof.Machine

/-- The record a patron number names: in 1 to 16,384 with a record behind it (R22). -/
def findPatron (s : State) (n : Nat) : Option Patron :=
  if 1 ≤ n ∧ n ≤ Config.maxPatron then s.patrons.get n else none

/-- The pause-until day, present in PAUSED. -/
def pauseFields : PatronState → List AnsField
  | .paused d => [f2 d]
  | _ => []

/-- The classes on whose blocked lists a patron stands. -/
def blockedClasses (s : State) (n : Nat) : List Cls :=
  allClasses.filter (fun c => n ∈ s.blocked.get c)

/-- A patron's record as PATRON-READ gives it (R31). -/
def patronFields (s : State) (n : Nat) (p : Patron) : List AnsField :=
  [f2 n, f1 p.state.code, f1 p.allowance, f1 p.limit, f1 (clsCode p.cls), f1 (modeCode p.mode), f1 p.held]
    ++ pauseFields p.state
    ++ [f2 p.wishes.length, f2 (openLoans s n), f2 (openItems s n), fFlag (decide (n ∈ s.passQueue))]
    ++ (blockedClasses s n).map (fun c => f1 (clsCode c))

/-- An answer that carries a patron's record as it now stands. -/
def patronAnswer (s : State) (n : Nat) (o : OutcomeCode) : Answer :=
  match s.patrons.get n with
  | some p => ⟨o, patronFields s n p⟩
  | none => refuse o

/-- Whether a patron may be given more by a pass: ACTIVE with H below A (R36, R38, R43). -/
def Patron.wants (p : Patron) : Bool :=
  p.state == .active && p.held < p.allowance

/-- PATRON-SET's values brought into range (R23): A, T, K and M, and whether any was changed. -/
def patronValues (a t k m : Nat) : Nat × Nat × Cls × Mode × Bool :=
  (clampTo 1 12 a, clampTo 1 8 t, clampCls k, (modeOfCode m).getD .together,
    clampTo 1 12 a != a || clampTo 1 8 t != t || clsCode (clampCls k) != k || (modeOfCode m).isNone)

/-- PATRON-SET on a number in range, with the record it is to leave (R23). -/
def storePatron (n : Nat) (p : Patron) (clamped : Bool) (s : State) : Taken :=
  let s1 := s.putPatron n p
  let s2 := if p.wants ∧ p.wishes ≠ [] then appendPass n s1 else s1
  ⟨s2, patronAnswer s2 n (doneOr clamped)⟩

/-- Those who stay on blocked list c until its release, once a PATRON-SET is taken: its patron too, where it stands on the list
(R24). -/
def staysAfterSet (n : Nat) (s : State) (c : Cls) : List Nat :=
  if n ∈ s.blocked.get c then appendNew (s.stays.get c) n else s.stays.get c

/-- A patron already on a blocked list when a PATRON-SET is taken stays on it until that list is released (R24). -/
def keepBlocked (n : Nat) (s : State) : State :=
  { s with stays := ⟨staysAfterSet n s .c1, staysAfterSet n s .c2, staysAfterSet n s .c3⟩ }

/-- PATRON-SET taken (R22, R23, R24). -/
def takePatronSet (n a t k m : Nat) (s : State) : Taken :=
  let v := patronValues a t k m
  if ¬ (1 ≤ n ∧ n ≤ Config.maxPatron) then refused s .noSuch
  else
    match s.patrons.get n with
    | none =>
      storePatron n
        { state := .active, allowance := v.1, limit := v.2.1, cls := v.2.2.1, mode := v.2.2.2.1, held := 0, wishes := [] }
        v.2.2.2.2 s
    | some p =>
      if p.state = .closing then refused s .state
      else
        storePatron n { p with allowance := v.1, limit := v.2.1, cls := v.2.2.1, mode := v.2.2.2.1 } v.2.2.2.2 (keepBlocked n s)

/-- The pause length from a day to a pause-until day, counted forward through the wrap (R25). -/
def pauseLength (day untilDay : Nat) : Nat :=
  (untilDay + Config.dayModulus - day) % Config.dayModulus

/-- The pause-until day stored, and whether the one sent was clamped (R25). -/
def pauseDay (day untilDay : Nat) : Nat × Bool :=
  if 1 ≤ pauseLength day untilDay ∧ pauseLength day untilDay ≤ Config.maxPause then (untilDay, false)
  else ((day + 1) % Config.dayModulus, true)

/-- PATRON-PAUSE taken (R25). -/
def takePatronPause (n untilDay : Nat) (s : State) : Taken :=
  match findPatron s n with
  | none => refused s .noSuch
  | some p =>
    let d := pauseDay s.day untilDay
    match p.state with
    | .suspended => refused s .state
    | .closing => refused s .state
    | _ =>
      let s1 := s.putPatron n { p with state := .paused d.1 }
      ⟨s1, patronAnswer s1 n (doneOr d.2)⟩

/-- A pause ends (R26): SUSPENDED with PATRON-SUSPENDED raised where the condition holds, else ACTIVE and appended to the
pass queue. -/
def endPause (n : Nat) (p : Patron) (s : State) : State :=
  if suspensionHolds s n then raise .order .patronSuspended (s.putPatron n { p with state := .suspended })
  else appendPass n (s.putPatron n { p with state := .active })

/-- PATRON-RESUME taken (R26). -/
def takePatronResume (n : Nat) (s : State) : Taken :=
  match findPatron s n with
  | none => refused s .noSuch
  | some p =>
    match p.state with
    | .active => refused s .already
    | .suspended => refused s .state
    | .closing => refused s .state
    | .paused _ =>
      let s1 := endPause n p s
      ⟨s1, patronAnswer s1 n .done⟩

/-- PATRON-READ taken (R31). -/
def takePatronRead (n : Nat) (s : State) : Taken :=
  match findPatron s n with
  | none => refused s .noSuch
  | some _ => ⟨s, patronAnswer s n .done⟩

/-- Whether a wish entry is for a title in a format. -/
def WishEntry.isFor (t : Nat) (f : Format) (w : WishEntry) : Bool :=
  w.title == t && w.format == f

/-- The title of a copy set. -/
def titleOfSet (s : State) (n : Nat) : Option Nat :=
  (s.copySets.get n).map CopySet.title

/-- Whether an item stands for a title in a format (R35 check 5). -/
def Item.holds (s : State) (t : Nat) (f : Format) (i : Item) : Bool :=
  match i.object, f with
  | .copySet n, .braille => titleOfSet s n == some t
  | .copySet _, .cartridge => false
  | _, .cartridge => i.entries.any (fun w => w.title == t)
  | _, .braille => false

/-- Whether a loan stands for a title in a format (R35 check 5). -/
def Loan.holds (s : State) (t : Nat) (f : Format) (l : Loan) : Bool :=
  match l.object, f with
  | .cartridge _ ts, .cartridge => t ∈ ts
  | .copySet n, .braille => titleOfSet s n == some t
  | _, _ => false

/-- Whether a patron holds a title in a format, in an undispatched item of an order or in an open loan (R35 check 5). -/
def holdsTitle (s : State) (n t : Nat) (f : Format) : Bool :=
  s.orders.any (fun e => e.2.patron == n && e.2.items.any (fun i => !i.dispatched && i.holds s t f))
    || s.loans.any (fun e => e.2.patron == n && e.2.holds s t f)

/-- Whether a title has the form a format names (R35 check 7). -/
def Title.hasForm (r : Title) : Format → Bool
  | .cartridge => r.image.isSome
  | .braille => r.braille.isSome

/-- A wish list with an entry at the tail of its band (R36). -/
def addAtTail (w : WishEntry) (l : List WishEntry) : List WishEntry :=
  insertBefore (fun a b => a.band == .urgent && b.band == .normal) w l

/-- The position, from 1, of the entry for a title in a format (R34). -/
def wishPosition (t : Nat) (f : Format) (l : List WishEntry) : Nat :=
  l.findIdx (WishEntry.isFor t f) + 1

/-- The checks 4 to 9 of WISH-ADD, in their order (R35). -/
def wishAddCheck (s : State) (n : Nat) (p : Patron) (t : Nat) (r : Title) (f : Format) : Option OutcomeCode :=
  if p.wishes.any (WishEntry.isFor t f) then some .already
  else if holdsTitle s n t f then some .held
  else if r.withdrawn then some .withdrawn
  else if r.hasForm f = false then some .noSuch
  else if Config.maxWishes ≤ p.wishes.length then some .full
  else if Config.maxWishEntries ≤ wishEntryCount s then some .storeFull
  else none

/-- WISH-ADD's effects once its checks are passed (R36). -/
def addWish (n : Nat) (p : Patron) (w : WishEntry) (s : State) : State :=
  let s1 := s.putPatron n { p with wishes := addAtTail w p.wishes }
  let s2 := if w.format = .braille then onWaiting w.title (fun l => appendNew l n) s1 else s1
  if p.wants then appendPass n s2 else s2

/-- WISH-ADD taken (R35, R36). -/
def takeWishAdd (n t f b : Nat) (s : State) : Taken :=
  match findPatron s n with
  | none => refused s .noSuch
  | some p =>
    if p.state = .closing then refused s .state
    else
      match (if 1 ≤ t ∧ t ≤ Config.maxTitle then s.titles.get t else none), formatOfCode f with
      | some r, some fmt =>
        match wishAddCheck s n p t r fmt with
        | some o => refused s o
        | none =>
          let w : WishEntry := { title := t, format := fmt, band := bandOrNormal b, addedDay := s.day }
          let s1 := addWish n p w s
          ⟨s1, doneOr (bandOfCode b).isNone,
            [f1 (wishPosition t fmt (addAtTail w p.wishes)), f2 (addAtTail w p.wishes).length]⟩
      | _, _ => refused s .noSuch

/-- The entry of a patron's list that a request names, with the patron's record; otherwise the answer that refuses it
(R22, R37, R38). -/
def findWish (s : State) (n t f : Nat) : Except OutcomeCode (Patron × WishEntry) :=
  match findPatron s n with
  | none => .error .noSuch
  | some p =>
    if p.state = .closing then .error .state
    else
      match formatOfCode f with
      | none => .error .noSuch
      | some fmt =>
        match p.wishes.find? (WishEntry.isFor t fmt) with
        | none => .error .noSuch
        | some w => .ok (p, w)

/-- WISH-DROP taken (R37). -/
def takeWishDrop (n t f : Nat) (s : State) : Taken :=
  match findWish s n t f with
  | .error o => refused s o
  | .ok (p, w) =>
    let rest := p.wishes.erase w
    let s1 := s.putPatron n { p with wishes := rest }
    ⟨if w.format = .braille then leaveWaiting n w.title s1 else s1, .done, [f2 rest.length]⟩

/-- WISH-MOVE's position: the position requested, brought within the list and then within the band (R38 steps 3 and 4). `u` is
the number of URGENT entries left, `len` the length of the whole list. -/
def movePosition (band : Band) (u len pos : Nat) : Nat :=
  let inList := clampTo 1 len pos
  match band with
  | .urgent => if u + 1 < inList then u + 1 else inList
  | .normal => if inList < u + 1 then u + 1 else inList

/-- WISH-MOVE taken (R38). -/
def takeWishMove (n t f b pos : Nat) (s : State) : Taken :=
  match findWish s n t f with
  | .error o => refused s o
  | .ok (p, w) =>
    let rest := p.wishes.erase w
    let band := bandOrNormal b
    let at' := movePosition band (urgentOf rest).length p.wishes.length pos
    let moved := rest.take (at' - 1) ++ { w with band := band } :: rest.drop (at' - 1)
    let s1 := s.putPatron n { p with wishes := moved }
    let clamped := (bandOfCode b).isNone || at' != pos
    ⟨if p.wants then appendPass n s1 else s1, doneOr clamped, [f1 at', f2 moved.length]⟩

/-- A waiting-list position as the one byte of its field kind (section 10.7): itself where it fits, and otherwise the free value
of log entry 9. -/
def positionByte (k : Nat) : Nat :=
  if k < 256 then k else (Config.farPosition k).toNat

/-- A patron's position on a title's braille waiting list, counted from 1, and the list's length (R39, R170; log entry 9). -/
def waitingFields (s : State) (n : Nat) (w : WishEntry) : List AnsField :=
  match w.format, s.titles.get w.title with
  | .braille, some r => [f1 (positionByte (r.waiting.idxOf n + 1)), f2 r.waiting.length]
  | _, _ => []

/-- A wish entry as WISH-READ gives it (R39). -/
def wishFields (s : State) (n : Nat) (w : WishEntry) : List AnsField :=
  [f2 w.title, f1 (formatCode w.format), f1 (bandCode w.band), f2 w.addedDay] ++ waitingFields s n w

/-- WISH-READ taken (R39); a CLOSING patron's list is read as empty (R22). -/
def takeWishRead (n : Nat) (s : State) : Taken :=
  match findPatron s n with
  | none => refused s .noSuch
  | some p =>
    if p.state = .closing then ⟨s, .done, []⟩
    else ⟨s, .done, p.wishes.flatMap (wishFields s n)⟩

end Sys2Proof.Machine
end

