-- ==== Sys2Proof/Machine/Catalog.lean ====
section
/-! DEFINITION. The Record Store's catalog and settings (sections 1.5 and 1.6): what TITLE-SET, TITLE-WITHDRAW,
COPYSET-ADD, COPYSET-READ and SERVICE-SET do when taken. -/

namespace Sys2Proof.Machine

/-- TITLE-SET's action for the cartridge image (R12). -/
inductive ImageAction where
  | keep
  | set (size revision : Nat)
  | remove
deriving DecidableEq, Repr

/-- TITLE-SET's action for the braille form (R12). -/
inductive BrailleAction where
  | keep
  | set (weights : List Nat)
  | remove
deriving DecidableEq, Repr

/-- The image action's code and data, and the bytes after them (R12, R169). -/
def parseImage : List Byte → Option (ImageAction × List Byte)
  | [] => none
  | a :: rest =>
    match a.toNat, rest with
    | 0, rest => some (.keep, rest)
    | 1, s0 :: s1 :: r :: rest => some (.set (leValue [s0, s1]) r.toNat, rest)
    | 2, rest => some (.remove, rest)
    | _, _ => none

/-- Volume weights, two bytes each; none for an odd byte (R169). -/
def parseWeights : List Byte → Option (List Nat)
  | [] => some []
  | [_] => none
  | a :: b :: rest => (parseWeights rest).map (leValue [a, b] :: ·)

/-- The braille action, which ends the body (R12, R169): a SET with no weights or more than 40 does not read. -/
def parseBraille : List Byte → Option BrailleAction
  | [] => none
  | a :: rest =>
    match a.toNat, rest with
    | 0, [] => some .keep
    | 1, rest =>
      match parseWeights rest with
      | some ws => if ws = [] ∨ Config.maxVolumes < ws.length then none else some (.set ws)
      | none => none
    | 2, [] => some .remove
    | _, _ => none

/-- TITLE-SET's body; none is BAD-LENGTH (R12, R169). -/
def parseTitleSet : List Byte → Option (Nat × ImageAction × BrailleAction)
  | t0 :: t1 :: rest =>
    match parseImage rest with
    | some (ia, rest') => (parseBraille rest').map (fun ba => (leValue [t0, t1], ia, ba))
    | none => none
  | _ => none

/-- Whether an image action changes a title's image, by the values as sent (R12 check 3; log entry 21). -/
def ImageAction.changes (a : ImageAction) (image : Option Image) : Bool :=
  match a with
  | .keep => false
  | .set size revision => image != some ⟨size, revision⟩
  | .remove => image.isSome

/-- Whether a braille action changes a title's braille form, by the values as sent (R12 check 4). -/
def BrailleAction.changes (a : BrailleAction) (form : Option (List Nat)) : Bool :=
  match a with
  | .keep => false
  | .set ws => form != some ws
  | .remove => form.isSome

/-- Whether any write job, in any state, names a title (R12 check 3). -/
def jobNames (s : State) (t : Nat) : Bool :=
  s.jobs.any (fun e => e.2.titles.any (fun x => x.title == t))

/-- Whether some copy set of a title is in a state other than AVAILABLE (R12 check 4). -/
def setAway (s : State) (t : Nat) : Bool :=
  s.copySets.any (fun e => e.2.title == t && e.2.state != .available)

/-- A title's record, or the one a new number starts from (R12). -/
def titleOrNew (s : State) (t : Nat) : Title :=
  (s.titles.get t).getD { withdrawn := false, image := none, braille := none, copySets := [], waiting := [] }

/-- The braille IN-USE test (R12 check 4). -/
def brailleInUse (s : State) (t : Nat) (r : Title) : BrailleAction → Bool
  | .keep => false
  | .set ws => (BrailleAction.set ws).changes r.braille && setAway s t
  | .remove => !r.copySets.isEmpty

/-- Whether an image action's size is above 15,288 AU (R12 check 2). -/
def ImageAction.tooLarge : ImageAction → Bool
  | .set size _ => Config.maxImage < size
  | _ => false

/-- The checks of TITLE-SET in their order (R12). -/
def titleSetCheck (s : State) (t : Nat) (ia : ImageAction) (ba : BrailleAction) : Option OutcomeCode :=
  if ¬ (1 ≤ t ∧ t ≤ Config.maxTitle) then some .noSuch
  else if ia.tooLarge then some .tooLarge
  else if ia.changes (titleOrNew s t).image && jobNames s t then some .inUse
  else if brailleInUse s t (titleOrNew s t) ba then some .inUse
  else none

/-- The image an action leaves, its size and revision of 0 clamped to 1 (R12). -/
def ImageAction.apply (a : ImageAction) (image : Option Image) : Option Image :=
  match a with
  | .keep => image
  | .set size revision => some ⟨if size = 0 then 1 else size, if revision = 0 then 1 else revision⟩
  | .remove => none

/-- A volume weight brought into 10 to 300 (R12). -/
def clampWeight (w : Nat) : Nat :=
  clampTo Config.minWeight Config.maxWeight w

/-- The braille form an action leaves, its weights clamped (R12). -/
def BrailleAction.apply (a : BrailleAction) (form : Option (List Nat)) : Option (List Nat) :=
  match a with
  | .keep => form
  | .set ws => some (ws.map clampWeight)
  | .remove => none

/-- Whether an image action's values were clamped (R12). -/
def ImageAction.clamped : ImageAction → Bool
  | .set size revision => size == 0 || revision == 0
  | _ => false

/-- Whether a braille action's values were clamped (R12). -/
def BrailleAction.clamped : BrailleAction → Bool
  | .set ws => ws.any (fun w => clampWeight w != w)
  | _ => false

/-- A title record as TITLE-SET's answer gives it (R12; log entry 8). -/
def titleFields (t : Nat) (r : Title) : List AnsField :=
  [f2 t, fFlag r.withdrawn]
    ++ (match r.image with
        | some i => [f2 i.size, f1 i.revision]
        | none => [])
    ++ (match r.braille with
        | some ws => f2 ws.length :: ws.map f2
        | none => [])
    ++ r.copySets.map f2

/-- TITLE-SET taken (R12). -/
def takeTitleSet (t : Nat) (ia : ImageAction) (ba : BrailleAction) (s : State) : Taken :=
  match titleSetCheck s t ia ba with
  | some o => refused s o
  | none =>
    let r := titleOrNew s t
    let r' := { r with image := ia.apply r.image, braille := ba.apply r.braille }
    ⟨{ s with titles := s.titles.put t r' }, doneOr (ia.clamped || ba.clamped), titleFields t r'⟩

/-- TITLE-WITHDRAW taken (R14). -/
def takeTitleWithdraw (t : Nat) (s : State) : Taken :=
  match s.titles.get t with
  | none => refused s .noSuch
  | some r =>
    if r.withdrawn then refused s .already
    else ⟨{ s with titles := s.titles.put t { r with withdrawn := true } }, .done, []⟩

/-- The copy set number COPYSET-ADD gives: registration order, and copy sets are freed only by STORE-CLEAR, so it is one
above the number of copy sets (R2). -/
def nextCopySet (s : State) : Nat :=
  s.copySets.length + 1

/-- COPYSET-ADD taken (R15). -/
def takeCopysetAdd (t : Nat) (s : State) : Taken :=
  match s.titles.get t with
  | none => refused s .noSuch
  | some r =>
    if r.braille.isNone then refused s .noSuch
    else if r.withdrawn then refused s .withdrawn
    else if Config.maxCopySetsPerTitle ≤ r.copySets.length then refused s .full
    else if Config.maxCopySets ≤ s.copySets.length then refused s .storeFull
    else
      let n := nextCopySet s
      let s1 := { s with titles := s.titles.put t { r with copySets := r.copySets ++ [n] } }
      ⟨makeAvailable n (s1.putSet n { title := t, state := .available }), .done, [f2 n]⟩

/-- The patron of an order; 0 where the order is gone. -/
def orderPatron (s : State) (o : Nat) : Nat :=
  ((s.orders.get o).map Order.patron).getD 0

/-- The order and its patron, as a copy set's tie gives them (R16). -/
def tieFields (s : State) (o : Nat) : List AnsField :=
  [f3 o, f2 (orderPatron s o)]

/-- The returned-volume set of a PARTIAL loan. -/
def returnedFields : LoanState → List AnsField
  | .part vols _ => vols.map f1
  | _ => []

/-- A copy set's ties as COPYSET-READ gives them (R16). -/
def setTieFields (s : State) : SetState → List AnsField
  | .available => []
  | .reserved o _ => tieFields s o
  | .pulling o _ => tieFields s o
  | .inDispatch o _ => tieFields s o
  | .onLoan l =>
    match s.loans.get l with
    | some loan => [f3 l, f2 loan.patron, f1 loan.state.code] ++ returnedFields loan.state
    | none => []
  | .incomplete vols => vols.map f1

/-- COPYSET-READ taken (R16). -/
def takeCopysetRead (n : Nat) (s : State) : Taken :=
  match s.copySets.get n with
  | none => refused s .noSuch
  | some c =>
    ⟨s, .done, [f2 n, f2 c.title, f2 (volumeCount s c.title), f1 c.state.code] ++ setTieFields s c.state⟩

/-- The whole settings record (R17). DESIGN CHOICE, unsafe: R17 gives its fields no order; they stand as the rows of section 1.6
do, the warn levels of the three classes before their critical levels (log entry 8). -/
def settingsFields (g : Settings) : List AnsField :=
  [f2 g.cartTerm, f2 g.brailleTerm, f2 g.renewalMax, f2 g.suspendAfter, f2 g.lostAfter, f2 g.partialGrace,
   f2 g.limitNext, f2 g.limitInForce, f2 g.writeDeadline, f2 g.wipeDeadline, f2 g.restInterval, f2 g.wearLimit,
   f2 g.warn.c1, f2 g.warn.c2, f2 g.warn.c3, f2 g.critical.c1, f2 g.critical.c2, f2 g.critical.c3]

/-- A setting's value brought into its range, where the identifier names a setting (R17, section 1.6). -/
def settingValue (g : Settings) (ident v : Nat) : Option Nat :=
  match ident with
  | 1 => some (clampTo 7 120 v)
  | 2 => some (clampTo 7 120 v)
  | 3 => some (clampTo 0 4 v)
  | 4 => some (min (clampTo 1 120 v) (g.lostAfter - 1))
  | 5 => some (max (min v 255) (g.suspendAfter + 1))
  | 6 => some (clampTo 1 60 v)
  | 7 => some (clampTo 1 4000 v)
  | 8 => some (clampTo 5 240 v)
  | 9 => some (clampTo 2 120 v)
  | 10 => some (clampTo 1 240 v)
  | 11 => some (clampTo 50 2000 v)
  | _ => none

/-- The settings record with a setting written (R17). -/
def Settings.write (g : Settings) (ident v : Nat) : Settings :=
  match ident with
  | 1 => { g with cartTerm := v }
  | 2 => { g with brailleTerm := v }
  | 3 => { g with renewalMax := v }
  | 4 => { g with suspendAfter := v }
  | 5 => { g with lostAfter := v }
  | 6 => { g with partialGrace := v }
  | 7 => { g with limitNext := v }
  | 8 => { g with writeDeadline := v }
  | 9 => { g with wipeDeadline := v }
  | 10 => { g with restInterval := v }
  | 11 => { g with wearLimit := v }
  | _ => g

/-- Whether a patron has an OVERDUE loan. -/
def hasOverdue (s : State) (n : Nat) : Bool :=
  s.loans.any (fun e => e.2.patron == n && (match e.2.state with | .overdue _ => true | _ => false))

/-- The suspension checks of a changed suspend-after: every patron with an OVERDUE loan and every SUSPENDED patron, in
ascending patron number (R18, R43, R142). -/
def suspendAfterChecks (s : State) : State :=
  (s.patrons.select (fun n p => hasOverdue s n || p.state == .suspended)).foldl (fun acc n => suspensionCheck n acc) s

/-- SERVICE-SET taken (R17, R18). -/
def takeServiceSet (ident v : Nat) (s : State) : Taken :=
  match settingValue s.settings ident v with
  | none => refused s .noSuch
  | some v' =>
    let s1 := { s with settings := s.settings.write ident v' }
    let s2 := if ident = 4 then suspendAfterChecks s1 else s1
    ⟨s2, doneOr (v' != v), settingsFields s2.settings⟩

end Sys2Proof.Machine
end

