-- ==== Sys2Proof/Machine/Parcels.lean ====
section
/-! DEFINITION. The Parcel Builder's parcels and dispatch groups (sections 6.4 and 6.5): next-fit packing (R114), the
parcels of a ready item (R113, R115, R117), the release of a group (R118) and the parcel backlog (R113). -/

namespace Sys2Proof.Machine

/-- Write a parcel record. -/
def State.putParcel (s : State) (n : Nat) (p : Parcel) : State :=
  { s with parcels := s.parcels.put n p }

/-- Write a dispatch group record. -/
def State.putGroup (s : State) (n : Nat) (g : DispatchGroup) : State :=
  { s with groups := s.groups.put n g }

/-- Whether a parcel holds an item's cartridge, or volumes of its copy set. -/
def Contents.holds (c : Contents) (o : ItemObject) : Bool :=
  match c, o with
  | .cartridges serials, .cart serial => serial ∈ serials
  | .volumes set _, .copySet n => set == n
  | _, _ => false

/-- The parcels of an item, by number. -/
def itemParcels (s : State) (order : Nat) (o : ItemObject) : List Nat :=
  s.parcels.select (fun _ p => p.order == order && p.contents.holds o)

/-- Whether an item has its parcels (R113, R118). -/
def hasParcels (s : State) (order : Nat) (i : Item) : Bool :=
  !(itemParcels s order i.object).isEmpty

/-- Next-fit in volume order (R114). `vol` is the number of the next volume, `cur` and `curWeight` the current parcel. -/
def nextFit : List Nat → Nat → List Nat → Nat → List (List Nat)
  | [], _, cur, _ => if cur.isEmpty then [] else [cur]
  | w :: ws, vol, cur, curWeight =>
    if cur.isEmpty then nextFit ws (vol + 1) [vol] w
    else if cur.length < Config.parcelPieces ∧ curWeight + w ≤ Config.parcelWeight then
      nextFit ws (vol + 1) (cur ++ [vol]) (curWeight + w)
    else cur :: nextFit ws (vol + 1) [vol] w

/-- The volume lists of a title's braille parcels (R114). -/
def packVolumes (weights : List Nat) : List (List Nat) :=
  nextFit weights 1 [] 0

/-- The volume weights of a copy set's title. -/
def setWeights (s : State) (n : Nat) : List Nat :=
  match s.copySets.get n with
  | some c =>
    match s.titles.get c.title with
    | some t => t.braille.getD []
    | none => []
  | none => []

/-- The live group of a TOGETHER order: the group of its parcels (R117). -/
def liveGroup (s : State) (order : Nat) : Option Nat :=
  (s.parcels.find? (fun e => e.2.order == order)).map (fun e => e.2.group)

/-- The parcels of a group, in creation order. -/
def groupParcels (s : State) (g : Nat) : List Nat :=
  ((s.groups.get g).map DispatchGroup.parcels).getD []

/-- Whether a parcel is FORMING, of cartridges, and holds fewer than 4 (R115). -/
def roomForCart (s : State) (n : Nat) : Bool :=
  match s.parcels.get n with
  | some { state := .forming, contents := .cartridges serials, .. } => serials.length < Config.parcelPieces
  | _ => false

/-- The first FORMING cartridge parcel of an order with room, in creation order (R115). -/
def joinableParcel (s : State) (order : Nat) : Option Nat :=
  match liveGroup s order with
  | some g => (groupParcels s g).find? (roomForCart s)
  | none => none

/-- The parcel records an item needs (R113). -/
def parcelsNeeded (s : State) (order : Nat) (mode : Mode) : ItemObject → Nat
  | .copySet n => (packVolumes (setWeights s n)).length
  | .cart _ =>
    match mode with
    | .asReady => 1
    | .together => if (joinableParcel s order).isSome then 0 else 1
  | .job _ => 0

/-- Whether an item's parcels can be made whole with the records free (R113). -/
def canParcel (s : State) (order : Nat) (mode : Mode) (o : ItemObject) : Bool :=
  s.parcels.length + parcelsNeeded s order mode o ≤ Config.maxParcels

/-- A new group record, numbered as R2 gives (R117). -/
def newGroup (band : Band) (s : State) : State × Nat :=
  let g := freshNumber s.groups s.counters.group
  ({ s.putGroup g { band := band, parcels := [], begun := false } with
      counters := { s.counters with group := nextNumber g } }, g)

/-- A new FORMING parcel at the tail of a group's parcels, numbered as R2 gives (R117). -/
def newParcel (order g : Nat) (contents : Contents) (s : State) : State :=
  let n := freshNumber s.parcels s.counters.parcel
  let s1 := s.putParcel n { order := order, group := g, contents := contents, state := .forming }
  { s1 with
    groups := s1.groups.modify g (fun r => { r with parcels := r.parcels ++ [n] })
    counters := { s1.counters with parcel := nextNumber n } }

/-- The contents of an item's new parcels, in the order they are started (R114, R115). -/
def newContents (s : State) : ItemObject → List Contents
  | .copySet n => (packVolumes (setWeights s n)).map (Contents.volumes n)
  | .cart serial => [.cartridges [serial]]
  | .job _ => []

/-- New parcels of an item in a group. -/
def newParcels (order g : Nat) (o : ItemObject) (s : State) : State :=
  (newContents s o).foldl (fun acc c => newParcel order g c acc) s

/-- The place of the item of an order that holds a cartridge. -/
def placeOfCart (s : State) (order serial : Nat) : Nat :=
  match s.orders.get order with
  | some o => ((o.items.find? (fun i => i.object == .cart serial)).map Item.place).getD 0
  | none => 0

/-- A cartridge joins a parcel at its place by item order (R115). -/
def joinParcel (order serial n : Nat) (s : State) : State :=
  let before := fun a b => decide (placeOfCart s order a < placeOfCart s order b)
  { s with
    parcels := s.parcels.modify n (fun p =>
      match p.contents with
      | .cartridges serials => { p with contents := .cartridges (insertBefore before serial serials) }
      | .volumes _ _ => p) }

/-- Put a released group's parcels into the dispatch queue at the tail of its band, adjacent and in creation order (R118,
R125). -/
def queueGroup (s : State) (band : Band) (ps : List Nat) : List Nat :=
  let urgent := fun n =>
    match s.parcels.get n with
    | some p => ((s.groups.get p.group).map DispatchGroup.band) == some .urgent
    | none => false
  match band with
  | .normal => s.dispatchQueue ++ ps
  | .urgent => s.dispatchQueue.takeWhile urgent ++ ps ++ s.dispatchQueue.dropWhile urgent

/-- Make some parcels READY. -/
def readyParcels (ps : List Nat) (s : State) : State :=
  { s with parcels := s.parcels.mapAll (fun n p => if n ∈ ps then { p with state := .ready } else p) }

/-- Release a group (R118): all its parcels go READY together and join the dispatch queue. -/
def releaseGroup (g : Nat) (s : State) : State :=
  match s.groups.get g with
  | some r => { readyParcels r.parcels s with dispatchQueue := queueGroup s r.band r.parcels }
  | none => s

/-- Whether a TOGETHER order's group is due for release (R118): it has FORMING parcels, and every item that remains, not
counting dispatched ones, is ready and has its parcels. -/
def releaseDueFor (s : State) (order : Nat) (o : Order) : Bool :=
  o.mode == .together
    && o.items.all (fun i => i.dispatched || (i.ready && hasParcels s order i))
    && s.parcels.any (fun e => e.2.order == order && e.2.state == .forming)

/-- Release a TOGETHER order's group where it is due (R118). -/
def releaseTogether (order : Nat) (s : State) : State :=
  match s.orders.get order, liveGroup s order with
  | some o, some g => if releaseDueFor s order o then releaseGroup g s else s
  | _, _ => s

/-- The group a TOGETHER order's next parcel belongs to: its live group, or a new one of the order's band (R117). -/
def togetherGroup (order : Nat) (o : Order) (s : State) : State × Nat :=
  match liveGroup s order with
  | some g => (s, g)
  | none => newGroup o.band s

/-- Make an item's parcels (R113 to R117). An AS-READY item's parcels are a group of their own, released at once; a TOGETHER
item's join the order's group, a cartridge in a FORMING parcel with room where there is one. -/
def makeParcels (order : Nat) (o : Order) (i : Item) (s : State) : State :=
  match o.mode with
  | .asReady =>
    let r := newGroup i.band s
    releaseGroup r.2 (newParcels order r.2 i.object r.1)
  | .together =>
    match i.object, joinableParcel s order with
    | .cart serial, some n => joinParcel order serial n s
    | obj, _ =>
      let r := togetherGroup order o s
      newParcels order r.2 obj r.1

/-- The parcel backlog in its serving order: items of URGENT orders first, then by order number, then by item order
(R113). It is read from the order records: the ready, undispatched items without parcels. -/
def backlog (s : State) : List (Nat × Nat) :=
  let waiting := fun (e : Nat × Order) =>
    (e.2.items.filter (fun i => i.ready && !i.dispatched && !hasParcels s e.1 i)).map (fun i => (e.1, i.place))
  (s.orders.filter (fun e => e.2.band == .urgent)).flatMap waiting
    ++ (s.orders.filter (fun e => e.2.band == .normal)).flatMap waiting

/-- Make the parcels of backlog items from the head, stopping at the first that cannot be made whole (R113). -/
def serveList : List (Nat × Nat) → State → State
  | [], s => s
  | (order, place) :: rest, s =>
    match s.orders.get order with
    | none => serveList rest s
    | some o =>
      match o.item place with
      | none => serveList rest s
      | some i =>
        if canParcel s order o.mode i.object then serveList rest (makeParcels order o i s) else s

/-- Serve the parcel backlog (R113); the TOGETHER groups it completes are released at the end (R118; log entry 13). -/
def serveBacklog (s : State) : State :=
  (backlog s).foldl (fun acc e => releaseTogether e.1 acc) (serveList (backlog s) s)

/-- An item becomes ready (R105): its flag is set, which puts it on the backlog, and the backlog is served as part of the same
event (R113). With the backlog empty before, the item's parcels are made at once where the records free are enough; otherwise
it waits, unless it stands ahead of every waiting item and can be made (log entry 11). -/
def itemReady (order place : Nat) (s : State) : State :=
  serveBacklog (onItem order place (fun i => { i with ready := true }) s)

end Sys2Proof.Machine
end

