-- ==== Sys2Proof/Machine/DispatchDay.lean ====
section
/-! DEFINITION. The Dispatch Scheduler (chapter 7): NEXT-PARCEL, PACKED and UNPACK when taken, and the creation of a
group's loans (R131, R132). -/

namespace Sys2Proof.Machine

/-- The number of PACKING parcels (R126). -/
def packingCount (s : State) : Nat :=
  countOf (fun e => e.2.state == .packing) s.parcels

/-- The number of begun groups (R137). -/
def begunCount (s : State) : Nat :=
  countOf (fun e => e.2.begun) s.groups

/-- Whether any parcel is PACKING or any group is begun: NEW-DAY is refused while it holds (R134). -/
def dispatchOpen (s : State) : Bool :=
  s.parcels.any (fun e => e.2.state == .packing) || s.groups.any (fun e => e.2.begun)

/-- Whether a group qualifies for a handout (R127): begun; or it fits the day; or the day is unopened. -/
def qualifies (s : State) (g : DispatchGroup) : Bool :=
  g.begun
    || g.parcels.length + s.todayCount + s.reservedCap ≤ s.settings.limitInForce
    || (s.todayCount == 0 && !s.groups.any (fun e => e.2.begun))

/-- Whether a parcel of the dispatch queue may be handed out: READY, and its group qualifies (R127). -/
def mayHandOut (s : State) (n : Nat) : Bool :=
  match s.parcels.get n with
  | some p =>
    p.state == .ready &&
      match s.groups.get p.group with
      | some g => qualifies s g
      | none => false
  | none => false

/-- A parcel's weight in grams (R128). -/
def parcelGrams (s : State) (set : Nat) (vols : List Nat) : Nat :=
  10 * sumOf (fun v => (setWeights s set).getD (v - 1) 0) vols

/-- A parcel's kind and contents as NEXT-PARCEL gives them (R128). DESIGN CHOICE, unsafe: the weight in grams takes 2 bytes (log
entry 32). -/
def contentsFields (s : State) : Contents → List AnsField
  | .cartridges serials => f1 1 :: serials.map f4
  | .volumes set vols =>
    [f1 2, f2 set, f2 ((titleOfSet s set).getD 0)] ++ vols.map f1 ++ [f2 (parcelGrams s set vols)]

/-- The number of some parcels in a state. -/
def inState (s : State) (st : ParcelState) (ps : List Nat) : Nat :=
  countOf (fun n => parcelState s n == some st) ps

/-- Set a parcel's state. -/
def setParcelState (n : Nat) (st : ParcelState) (s : State) : State :=
  { s with parcels := s.parcels.modify n (fun p => { p with state := st }) }

/-- Handing out a parcel (R128): PACKING at its place; its group begun, and the reserved capacity moved. -/
def handOut (n : Nat) (p : Parcel) (g : DispatchGroup) (s : State) : State :=
  { setParcelState n .packing s with
    groups := s.groups.put p.group { g with begun := true }
    todayCount := s.todayCount + 1
    reservedCap := if g.begun then s.reservedCap - 1 else s.reservedCap + (g.parcels.length - 1) }

/-- NEXT-PARCEL taken (R127, R128). -/
def takeNextParcel (s : State) : Taken :=
  if Config.maxPacking ≤ packingCount s then refused s .limit
  else if ¬ hasReadyParcel s then refused s .none
  else
    match s.dispatchQueue.find? (mayHandOut s) with
    | none => refused s .dayFull
    | some n =>
      match s.parcels.get n with
      | none => refused s .dayFull
      | some p =>
        match s.groups.get p.group with
        | none => refused s .dayFull
        | some g =>
          let s1 := handOut n p g s
          ⟨s1, .done, f3 n :: contentsFields s p.contents
            ++ [f3 p.group, f1 (bandCode g.band), fFlag (!g.begun), f2 (inState s1 .ready g.parcels),
                f3 p.order, f2 (orderPatron s p.order), f2 s1.todayCount, f2 s1.reservedCap]⟩

/-- The loan an item becomes: its object, with a cartridge's titles as its attached entries name them (R131). -/
def loanObject (i : Item) : Option LoanObject :=
  match i.object with
  | .cart serial => some (.cartridge serial (i.entries.map WishEntry.title))
  | .copySet n => some (.copySet n)
  | .job _ => none

/-- The term in force for a loan's kind (R131). -/
def termFor (g : Settings) : LoanObject → Nat
  | .cartridge _ _ => g.cartTerm
  | .copySet _ => g.brailleTerm

/-- A loan's object goes ON-LOAN, linked or tied to the loan (R132). -/
def lendObject (loan : Nat) (o : LoanObject) (s : State) : State :=
  match o with
  | .cartridge serial _ => { s with carts := s.carts.modify serial (fun c => { c with state := .onLoan loan }) }
  | .copySet n => { s with copySets := s.copySets.modify n (fun c => { c with state := .onLoan loan }) }

/-- One item becomes one loan (R131, R132 steps 1 and 2); the loan numbers made are collected. -/
def lendItem (order : Nat) (o : Order) (i : Item) (acc : State × List Nat) : State × List Nat :=
  match loanObject i with
  | none => acc
  | some obj =>
    let s := acc.1
    let n := freshNumber s.loans s.counters.loan
    let term := termFor s.settings obj
    let s1 :=
      { s with
        loans := s.loans.put n
          { patron := o.patron, object := obj, term := term, daysLeft := term, renewals := 0, state := .out }
        counters := { s.counters with loan := nextNumber n } }
    (onItem order i.place (fun x => { x with dispatched := true, entries := [] }) (lendObject n obj s1), acc.2 ++ [n])

/-- The items of an order whose parcels are in a group, in item order (R131). -/
def groupItems (s : State) (order : Nat) (o : Order) (g : Nat) : List Item :=
  o.items.filter (fun i => !i.dispatched &&
    (itemParcels s order i.object).any (fun n => (s.parcels.get n).map Parcel.group == some g))

/-- A group's parcels are freed and the tally takes them over; the group record is freed (R132 step 3). -/
def freeGroup (g : Nat) (ps : List Nat) (s : State) : State :=
  { s with
    parcels := s.parcels.filter (fun e => e.1 ∉ ps)
    groups := s.groups.del g
    tally := s.tally + ps.length }

/-- Create the loans of a dispatched group, without the serving of the backlog that ends the event (R131, R132 steps 1 to 4);
the loans made, in creation order. -/
def createLoans (g : Nat) (s : State) : State × List Nat :=
  match s.groups.get g with
  | none => (s, [])
  | some r =>
    match r.parcels with
    | [] => (s, [])
    | n :: _ =>
      match s.parcels.get n with
      | none => (s, [])
      | some p =>
        match s.orders.get p.order with
        | none => (freeGroup g r.parcels s, [])
        | some o =>
          let made := (groupItems s p.order o g).foldl (fun acc i => lendItem p.order o i acc) (s, [])
          (completeOrder p.order (freeGroup g r.parcels made.1), made.2)

/-- Whether every parcel a group holds is DISPATCHED (R129, R131). -/
def allDispatched (s : State) (ps : List Nat) : Bool :=
  ps.all (fun n => parcelState s n == some .dispatched)

/-- A loan as PACKED's answer gives it (R129). -/
def newLoanFields (s : State) (n : Nat) : List AnsField :=
  match (s.loans.get n).map Loan.object with
  | some (.cartridge serial _) => [f3 n, f1 1, f4 serial]
  | some (.copySet set) => [f3 n, f1 2, f2 set]
  | none => []

/-- PACKED taken (R129, R131, R132). -/
def takePacked (n : Nat) (s : State) : Taken :=
  match s.parcels.get n with
  | none => refused s .noSuch
  | some p =>
    if p.state ≠ .packing then refused s .state
    else
      let s1 := { setParcelState n .dispatched s with dispatchQueue := s.dispatchQueue.erase n }
      let ps := groupParcels s1 p.group
      if allDispatched s1 ps then
        let r := createLoans p.group s1
        let s2 := serveBacklog r.1
        ⟨s2, .done, [f3 n, f2 0] ++ r.2.flatMap (newLoanFields s2)⟩
      else ⟨s1, .done, [f3 n, f2 (ps.length - inState s1 .dispatched ps)]⟩

/-- UNPACK taken (R130): READY at its place in the queue, its group still begun. -/
def takeUnpack (n : Nat) (s : State) : Taken :=
  match s.parcels.get n with
  | none => refused s .noSuch
  | some p =>
    if p.state ≠ .packing then refused s .state
    else
      let s1 := { setParcelState n .ready s with todayCount := s.todayCount - 1, reservedCap := s.reservedCap + 1 }
      ⟨s1, .done, [f2 s1.todayCount, f2 s1.reservedCap]⟩

end Sys2Proof.Machine
end

