-- ==== Sys2Proof/Machine/Orders.lean ====
section
/-! DEFINITION. The Parcel Builder's orders and pulls (sections 6.1 to 6.3 and 6.6): NEXT-PULL, PULLED, NOT-FOUND and
ORDER-CANCEL when taken, the dropping of an item (R111, R112), and PATRON-CLOSE, which cancels as ORDER-CANCEL does (R29,
R123). -/

namespace Sys2Proof.Machine

/-- The number of HANDED pull tasks (R106). -/
def handedCount (s : State) : Nat :=
  countOf (fun e => e.2.state == .handed) s.tasks

/-- Whether a pull task is QUEUED. -/
def taskQueued (s : State) (n : Nat) : Bool :=
  (s.tasks.get n).map PullTask.state == some .queued

/-- A copy set's tie to the order item that holds it, as its state gives it (R8). -/
def SetState.tie : SetState → Nat × Nat
  | .reserved o p => (o, p)
  | .pulling o p => (o, p)
  | .inDispatch o p => (o, p)
  | _ => (0, 0)

/-- Set a copy set's state. -/
def setSetState (n : Nat) (st : SetState) (s : State) : State :=
  { s with copySets := s.copySets.modify n (fun c => { c with state := st }) }

/-- The tie of a copy set. -/
def setTie (s : State) (n : Nat) : Nat × Nat :=
  ((s.copySets.get n).map (fun c => c.state.tie)).getD (0, 0)

/-- The pull a HANDED task answers with (R108). -/
def pullFields (s : State) (n : Nat) (t : PullTask) : List AnsField :=
  let title := (titleOfSet s t.copySet).getD 0
  [f3 n, f1 (bandCode t.band), f3 t.order, f2 (orderPatron s t.order), f2 t.copySet, f2 title,
   f2 (volumeCount s title)]

/-- NEXT-PULL taken (R108). -/
def takeNextPull (s : State) : Taken :=
  if Config.maxHanded ≤ handedCount s then refused s .limit
  else
    match s.pullQueue.find? (taskQueued s) with
    | none => refused s .none
    | some n =>
      match s.tasks.get n with
      | none => refused s .none
      | some t =>
        let tie := setTie s t.copySet
        let s1 := { s with tasks := s.tasks.put n { t with state := .handed } }
        ⟨setSetState t.copySet (.pulling tie.1 tie.2) s1, .done, pullFields s n t⟩

/-- A pull task is freed and leaves the pull queue (R106). -/
def freeTask (n : Nat) (s : State) : State :=
  { s with tasks := s.tasks.del n, pullQueue := s.pullQueue.erase n }

/-- The volumes of a braille parcel. -/
def Contents.vols : Contents → List Nat
  | .volumes _ vols => vols
  | .cartridges _ => []

/-- A set item's parcels as PULLED's answer gives them: number and volumes, in the order they were made (R109). -/
def madeFields (s : State) (order set : Nat) : List AnsField :=
  let mine := itemParcels s order (.copySet set)
  let g := ((mine.head?.bind s.parcels.get).map Parcel.group).getD 0
  ((groupParcels s g).filter (· ∈ mine)).flatMap (fun n =>
    match s.parcels.get n with
    | some p => f3 n :: p.contents.vols.map f1
    | none => [])

/-- The mode of an order, as a code. -/
def orderModeCode (s : State) (o : Nat) : Nat :=
  ((s.orders.get o).map (fun r => modeCode r.mode)).getD 0

/-- PULLED taken (R109). DESIGN CHOICE, unsafe: the flag that says whether the item waits on the parcel backlog is always there
and stands before the parcels, where the rule names it after them (log entry 8). -/
def takePulled (n : Nat) (s : State) : Taken :=
  match s.tasks.get n with
  | none => refused s .noSuch
  | some t =>
    if t.state = .queued then refused s .state
    else
      let tie := setTie s t.copySet
      let s1 := itemReady tie.1 tie.2 (setSetState t.copySet (.inDispatch tie.1 tie.2) (freeTask n s))
      let waits := (itemParcels s1 t.order (.copySet t.copySet)).isEmpty
      ⟨s1, .done, [f2 t.copySet, f3 t.order, f1 (orderModeCode s t.order), fFlag waits]
        ++ madeFields s1 t.order t.copySet⟩

/-- The effects of a drop on the patron (R111 steps 2 to 6). -/
def dropForPatron (patron : Nat) (entries : List WishEntry) (s : State) : State :=
  let s1 := lowerHeld patron 1 s
  let s2 := if notClosing s1 patron then appendPass patron (returnEntries patron entries s1) else s1
  freeIfDone patron (raise .order .itemDropped s2)

/-- An item is dropped (R111), and its order and group are settled (R112). -/
def dropItem (order place : Nat) (s : State) : State :=
  match s.orders.get order with
  | none => s
  | some o =>
    match o.item place with
    | none => s
    | some i =>
      releaseTogether order (completeOrder order (dropForPatron o.patron i.entries (removeItem order place s)))

/-- NOT-FOUND taken (R110). -/
def takeNotFound (n : Nat) (s : State) : Taken :=
  match s.tasks.get n with
  | none => refused s .noSuch
  | some t =>
    if t.state = .queued then refused s .state
    else
      let tie := setTie s t.copySet
      let missing := volumesTo (volumeCount s ((titleOfSet s t.copySet).getD 0))
      ⟨dropItem tie.1 tie.2 (makeIncomplete t.copySet missing (freeTask n s)), .done, []⟩

/-! ### Cancellation -/

/-- Whether an undispatched item is cancellable: none of its parcels is PACKING or DISPATCHED (R120). -/
def cancellable (s : State) (order : Nat) (i : Item) : Bool :=
  (itemParcels s order i.object).all (fun n =>
    parcelState s n != some .packing && parcelState s n != some .dispatched)

/-- A parcel leaves its group; a group left with none is freed (R117). -/
def leaveGroup (g n : Nat) (s : State) : State :=
  match s.groups.get g with
  | some r =>
    if (r.parcels.erase n).isEmpty then { s with groups := s.groups.del g }
    else s.putGroup g { r with parcels := r.parcels.erase n }
  | none => s

/-- Whether a group is begun. -/
def groupBegun (s : State) (g : Nat) : Bool :=
  ((s.groups.get g).map DispatchGroup.begun).getD false

/-- A parcel is removed and freed by a cancellation (R120); a READY parcel of a begun group gives its reserved place back
(R126). -/
def removeParcel (n : Nat) (s : State) : State :=
  match s.parcels.get n with
  | none => s
  | some p =>
    leaveGroup p.group n
      { s with
        parcels := s.parcels.del n
        dispatchQueue := s.dispatchQueue.erase n
        reservedCap := if p.state = .ready ∧ groupBegun s p.group then s.reservedCap - 1 else s.reservedCap }

/-- A parcel loses a cancelled cartridge: left with none it is removed, otherwise it keeps the rest (R120). -/
def takeCartFromParcel (serial n : Nat) (s : State) : State :=
  match s.parcels.get n with
  | some p =>
    match p.contents with
    | .cartridges serials =>
      if (serials.erase serial).isEmpty then removeParcel n s
      else s.putParcel n { p with contents := .cartridges (serials.erase serial) }
    | .volumes _ _ => s
  | none => s

/-- A QUEUED job's reservation is released, and the starved claim of that event follows (R72, R74). -/
def releaseReservation (c : Cls) (s : State) : State :=
  claimStarved c { s with reserved := s.reserved.set c (s.reserved.get c - 1) }

/-- Cancellation's effect on a write job, by its state (R120): a QUEUED or STARVED one is freed, with the blocked-list
releases of that event (R50, R51, R74), an ASSIGNED one enters CANCEL-PENDING. -/
def cancelJob (n : Nat) (s : State) : State :=
  match s.jobs.get n with
  | none => s
  | some j =>
    match j.state with
    | .queued => releaseLists s (releaseReservation j.cls (freeJob n { s with jobQueue := s.jobQueue.erase n }))
    | .starved => releaseLists s (freeJob n { s with starved := s.starved.set j.cls ((s.starved.get j.cls).erase n) })
    | .assigned bay serial => s.putJob n { j with state := .cancelPending bay serial }
    | .cancelPending _ _ => s

/-- The pull task of a copy set, if one is live. -/
def taskOfSet (s : State) (n : Nat) : Option Nat :=
  (s.tasks.select (fun _ t => t.copySet == n)).head?

/-- A set item's pull task, where it has one, is freed (R120). -/
def freeTaskOfSet (n : Nat) (s : State) : State :=
  match taskOfSet s n with
  | some t => freeTask t s
  | none => s

/-- Cancellation's effect on an item's job, cartridge, task, set and parcels (R120). -/
def cancelObject (order : Nat) (o : ItemObject) (s : State) : State :=
  match o with
  | .job n => cancelJob n s
  | .cart serial =>
    toUnwiped serial ((itemParcels s order o).foldl (fun acc n => takeCartFromParcel serial n acc) s)
  | .copySet n =>
    makeAvailable n (freeTaskOfSet n ((itemParcels s order o).foldl (fun acc m => removeParcel m acc) s))

/-- An undispatched, cancellable item is cancelled (R120): its object, then its place in the order and its unit. -/
def cancelItem (order patron : Nat) (i : Item) (s : State) : State :=
  lowerHeld patron 1 (removeItem order i.place (cancelObject order i.object s))

/-- The begun groups of an order whose every remaining parcel is DISPATCHED (R121 step 3). -/
def finishedGroups (s : State) (order : Nat) : List Nat :=
  s.groups.select (fun _ g =>
    g.begun && !g.parcels.isEmpty && allDispatched s g.parcels
      && (g.parcels.head?.bind s.parcels.get).map Parcel.order == some order)

/-- With restore, the entries of an order's cancelled items return as one block, and the patron is appended to the pass
queue unless it is CLOSING (R121 steps 1 and 2). -/
def restoreEntries (patron : Nat) (entries : List WishEntry) (s : State) : State :=
  appendPassOpen patron (returnEntries patron entries s)

/-- The settlement of an order's groups, the order and a CLOSING patron (R121 steps 3 to 5). -/
def settleOrder (order patron : Nat) (s : State) : State :=
  let s1 := releaseTogether order s
  let s2 := (finishedGroups s1 order).foldl (fun acc g => (createLoans g acc).1) s1
  freeIfDone patron (completeOrder order s2)

/-- What ORDER-CANCEL did to one order: its number, the items cancelled, the items not cancellable. -/
structure CancelCount where
  order : Nat
  cancelled : Nat
  left : Nat
deriving DecidableEq, Repr

/-- One order cancelled item by item, in item order (R119, R120), and then settled, the pass-queue append with it (R121). -/
def cancelOrder (restore : Bool) (order : Nat) (s : State) : State × CancelCount :=
  match s.orders.get order with
  | none => (s, ⟨order, 0, 0⟩)
  | some o =>
    let open' := o.items.filter (fun i => !i.dispatched)
    let gone := open'.filter (cancellable s order)
    let s1 := gone.foldl (fun acc i => cancelItem order o.patron i acc) s
    let s2 := if restore then restoreEntries o.patron (gone.flatMap Item.entries) s1 else s1
    (settleOrder order o.patron s2, ⟨order, gone.length, open'.length - gone.length⟩)

/-- Orders cancelled one after another, each settled before the next (R121). -/
def cancelOrders (restore : Bool) : List Nat → State → State × List CancelCount
  | [], s => (s, [])
  | n :: rest, s =>
    let r := cancelOrder restore n s
    let r' := cancelOrders restore rest r.1
    (r'.1, r.2 :: r'.2)

/-- A cancellation's whole effect: the orders, and then the parcel backlog, which is served once (R120, R121, R113). -/
def cancelAll (restore : Bool) (orders : List Nat) (s : State) : State × List CancelCount :=
  let r := cancelOrders restore orders s
  (serveBacklog r.1, r.2)

/-- A patron's H; 0 once its record is freed. -/
def heldOf (s : State) (n : Nat) : Nat :=
  ((s.patrons.get n).map Patron.held).getD 0

/-- Whether any item was not cancellable. -/
def anyLeft (cs : List CancelCount) : Bool :=
  cs.any (fun c => 0 < c.left)

/-- The orders a patron has, ascending. -/
def ordersOf (s : State) (n : Nat) : List Nat :=
  s.orders.select (fun _ o => o.patron == n)

/-- ORDER-CANCEL's answer (R119). -/
def cancelFields (s : State) (patron : Nat) (cs : List CancelCount) : List AnsField :=
  cs.flatMap (fun c => [f3 c.order, f2 c.cancelled, f2 c.left, fFlag (s.orders.get c.order).isNone])
    ++ [f1 (heldOf s patron)]

/-- ORDER-CANCEL taken (R119 to R121). The order of its releases and appends on the pass queue is log entry 12. -/
def takeOrderCancel (n order flag : Nat) (s : State) : Taken :=
  match findPatron s n with
  | none => refused s .noSuch
  | some p =>
    if order ≠ 0 ∧ (s.orders.get order).map Order.patron ≠ some n then refused s .noSuch
    else
      let orders := if order = 0 then ordersOf s n else [order]
      let restore := flag ≠ 0 ∧ p.state ≠ .closing
      let r := cancelAll restore orders s
      ⟨r.1, if anyLeft r.2 then .partly else .done, cancelFields r.1 n r.2⟩

/-- A patron leaves the pass queue and every blocked list (R29 step 3). -/
def leaveQueues (n : Nat) (s : State) : State :=
  { s with
    passQueue := s.passQueue.erase n
    blocked := ⟨s.blocked.c1.erase n, s.blocked.c2.erase n, s.blocked.c3.erase n⟩
    stays := ⟨s.stays.c1.erase n, s.stays.c2.erase n, s.stays.c3.erase n⟩ }

/-- PATRON-CLOSE's steps 2 to 4 (R29). -/
def closeRecord (n : Nat) (s : State) : State :=
  match s.patrons.get n with
  | none => s
  | some p =>
    leaveQueues n ((leaveWaitingAll n p.wishes s).putPatron n { p with wishes := [], state := .closing })

/-- The record that PATRON-CLOSE's answer carries where the patron holds nothing and so is freed (R29), as R31 gives it. -/
def lastRecord (n : Nat) (s : State) : List AnsField :=
  if heldOf s n = 0 then (patronAnswer s n .done).fields else []

/-- PATRON-CLOSE taken (R29, R30, R123). DESIGN CHOICE, unsafe: the answer holds the count of items left, where there are any, then
H, and at an H of 0 then the record as it stood when it was freed, in R31's layout (log entry 8). -/
def takePatronClose (n : Nat) (s : State) : Taken :=
  match findPatron s n with
  | none => refused s .noSuch
  | some p =>
    if p.state = .closing then refused s .already
    else
      let r := cancelAll false (ordersOf s n) s
      let s1 := closeRecord n r.1
      let left := sumOf CancelCount.left r.2
      let last := f1 (heldOf s1 n) :: lastRecord n s1
      ⟨freeIfDone n s1, if anyLeft r.2 then .partly else .done, if anyLeft r.2 then f2 left :: last else last⟩

end Sys2Proof.Machine
end

