-- ==== Sys2Proof/Machine/Bays.lean ====
section
/-! DEFINITION. The Bay Controller (chapter 5): the bay requests when taken, the work arbiter (R87 to R89), the endings of
writes and wipes (R90 to R96), qualification, strikes and rests (R97 to R99), the halt and the restart of duplication
(R101, R102), and the minute time base (R80). -/

namespace Sys2Proof.Machine

/-- Write a bay record. -/
def State.putBay (s : State) (n : Nat) (b : Bay) : State :=
  { s with bays := s.bays.set n b }

/-- The record of a bay number, 0 to 31 (R78, R79). -/
def State.bay (s : State) (n : Nat) : Option Bay :=
  if n < Config.bayCount then s.bays[n]? else none

/-- Whether a bay is in SERVICE. -/
def Bay.inService (b : Bay) : Bool :=
  b.condition.code == 2

/-- Whether a bay is RESTING. -/
def Bay.isResting (b : Bay) : Bool :=
  b.condition.code == 3

/-- What a bay is doing; IDLE outside SERVICE (R78). -/
def Bay.activity (b : Bay) : Activity :=
  match b.condition with
  | .service _ _ _ a => a
  | _ => .idle

/-- A bay as it enters SERVICE: QUALIFYING, streak 0, strikes 0, IDLE (R82, R84, R99, R103). -/
def freshService : Condition := .service .qualifying 0 0 .idle

/-- The number of bays in a condition, by its code. -/
def baysIn (s : State) (code : Nat) : Nat :=
  countOf (fun b => b.condition.code == code) s.bays

/-- The number of bays in each of OFFLINE, SERVICE, RESTING and FAILED (R81, R102). -/
def bayCounts (s : State) : List AnsField :=
  [f2 (baysIn s 1), f2 (baysIn s 2), f2 (baysIn s 3), f2 (baysIn s 4)]

/-- The fields of a bay present in its condition (R81). -/
def conditionFields : Condition → List AnsField
  | .offline => []
  | .service st streak strikes a =>
    [f1 st.code, f1 streak, f1 strikes] ++
      match a with
      | .idle => []
      | .writing job serial minutes => [f3 job, f4 serial, f1 minutes]
      | .wiping serial minutes => [f4 serial, f1 minutes]
  | .resting minutes => [f1 minutes]
  | .failed => []

/-- A last activity's fields: kind, serial, job number for a write, ending (R78, R81). -/
def lastFields : Option LastActivity → List AnsField
  | none => []
  | some l =>
    match l.kind with
    | .write job => [f1 1, f4 l.serial, f3 job, f1 l.ending.code]
    | .wipe => [f1 2, f4 l.serial, f1 l.ending.code]

/-- A bay's record as BAY-READ gives it (R81). -/
def bayFields (s : State) (n : Nat) : List AnsField :=
  match s.bay n with
  | none => []
  | some b =>
    [f1 b.condition.code, f1 b.activity.code, f1 b.restsToday] ++ conditionFields b.condition ++ lastFields b.last
      ++ [f1 s.standing.code, f2 s.jobQueue.length] ++ bayCounts s

/-- The answer of a bay request that is taken: the bay record as it stands after it (R79). -/
def bayTaken (n : Nat) (o : OutcomeCode) (s : State) : Taken :=
  ⟨s, o, bayFields s n⟩

/-- The checks every bay request but BAY-ONLINE and BAY-READ meets (R79). -/
def bayCheck (n : Nat) (s : State) (take : Bay → Taken) : Taken :=
  match s.bay n with
  | none => refused s .noSuch
  | some b => if b.condition = .offline then refused s .state else take b

/-- BAY-READ taken (R81). -/
def takeBayRead (n : Nat) (s : State) : Taken :=
  match s.bay n with
  | none => refused s .noSuch
  | some _ => bayTaken n .done s

/-- BAY-ONLINE taken (R82). -/
def takeBayOnline (n : Nat) (s : State) : Taken :=
  match s.bay n with
  | none => refused s .noSuch
  | some b =>
    match b.condition with
    | .service _ _ _ _ => refused s .already
    | .resting _ => refused s .state
    | .failed => refused s .state
    | .offline => bayTaken n .done (s.putBay n { b with condition := freshService })

/-- BAY-RESTORE taken (R84). -/
def takeBayRestore (n : Nat) (s : State) : Taken :=
  bayCheck n s fun b =>
    if b.condition = .failed then
      bayTaken n .done (s.putBay n { b with condition := freshService, restsToday := 0 })
    else refused s .state

/-! ### Good and bad outcomes (section 5.6) -/

/-- The halt check at a bay entering FAILED (R101): no bay in SERVICE or RESTING halts a RUNNING standing. -/
def haltCheck (s : State) : State :=
  if s.standing = .running ∧ ¬ s.bays.any (fun b => b.inService || b.isResting) then
    raise .duplication .dupHalted (raise .order .dupHalted { s with standing := .halted })
  else s

/-- A rest starts (R98): RESTING below two rests today, else FAILED with the halt check. -/
def startRest (n : Nat) (b : Bay) (s : State) : State :=
  if b.restsToday < Config.maxRests then
    raise .duplication .bayResting
      (s.putBay n { b with condition := .resting s.settings.restInterval, restsToday := b.restsToday + 1 })
  else haltCheck (raise .duplication .bayFailed (s.putBay n { b with condition := .failed }))

/-- A good outcome's standing, streak and strikes (R97). -/
def goodCount : Standing → Nat → Nat → Standing × Nat × Nat
  | .qualifying, streak, strikes =>
    if Config.qualifyStreak ≤ streak + 1 then (.qualified, 0, 0) else (.qualifying, streak + 1, strikes)
  | .qualified, streak, strikes =>
    if Config.clearStreak ≤ streak + 1 then (.qualified, 0, 0) else (.qualified, streak + 1, strikes)

/-- A good outcome counts at a bay in SERVICE (R97). -/
def countGood (n : Nat) (s : State) : State :=
  match s.bay n with
  | some b =>
    match b.condition with
    | .service st streak strikes a =>
      let r := goodCount st streak strikes
      s.putBay n { b with condition := .service r.1 r.2.1 r.2.2 a }
    | _ => s
  | none => s

/-- A bad outcome counts at a bay in SERVICE (R97): a rest in QUALIFYING, a strike in QUALIFIED and a rest at the second. -/
def countBadOutcome (n : Nat) (s : State) : State :=
  match s.bay n with
  | some b =>
    match b.condition with
    | .service .qualifying _ _ _ => startRest n b s
    | .service .qualified _ strikes a =>
      if Config.maxStrikes ≤ strikes + 1 then startRest n b s
      else s.putBay n { b with condition := .service .qualified 0 (strikes + 1) a }
    | _ => s
  | none => s

/-- An outcome counts (R97). -/
def countOutcome (good : Bool) (n : Nat) (s : State) : State :=
  if good then countGood n s else countBadOutcome n s

/-! ### The ends of writes and wipes (section 5.5) -/

/-- A bay's activity ends: IDLE, and the last activity records how (R78, R90). -/
def idleBay (n : Nat) (kind : WorkKind) (serial : Nat) (e : Ending) (s : State) : State :=
  match s.bay n with
  | some b =>
    match b.condition with
    | .service st streak strikes _ =>
      s.putBay n { b with condition := .service st streak strikes .idle, last := some ⟨kind, serial, e⟩ }
    | _ => s
  | none => s

/-- The place of the item of an order that holds a write job. -/
def placeOfJob (s : State) (order job : Nat) : Nat :=
  match s.orders.get order with
  | some o => ((o.items.find? (fun i => i.object == .job job)).map Item.place).getD 0
  | none => 0

/-- A job of an event that began at `s0` is freed, with the releases of R51. -/
def freeJobIn (s0 : State) (job : Nat) (s : State) : State :=
  releaseLists s0 (freeJob job s)

/-- A good write of an ASSIGNED job (R91): the cartridge WRITTEN for the job's item, the item recording its serial, the job
freed, and the item ready (R105). -/
def writeCompletes (s0 : State) (job serial : Nat) (j : Job) (s : State) : State :=
  let place := placeOfJob s j.order job
  let s1 := { s with carts := s.carts.modify serial (fun c => { c with state := .written j.order place }) }
  let s2 := onItem j.order place (fun i => { i with object := .cart serial }) s1
  itemReady j.order place (freeJobIn s0 job s2)

/-- A bad outcome of an ASSIGNED job's write (R92), in the rule's order: cartridge, attempts, then abandonment with the drop
of its item at the fourth, or a new blank. -/
def writeFails (s0 : State) (job serial : Nat) (j : Job) (s : State) : State :=
  let s1 := faultCart serial s
  if Config.maxAttempts ≤ j.attempts + 1 then
    dropItem j.order (placeOfJob s1 j.order job) (freeJobIn s0 job s1)
  else needBlank job (s1.putJob job { j with attempts := j.attempts + 1 })

/-- What the end of a write does to the cartridge and the job, by the job's state (R91, R92, R95). -/
def writeEffects (s0 : State) (good : Bool) (job serial : Nat) (s : State) : State :=
  match s.jobs.get job with
  | none => s
  | some j =>
    match j.state, good with
    | .assigned _ _, true => writeCompletes s0 job serial j s
    | .assigned _ _, false => writeFails s0 job serial j s
    | .cancelPending _ _, true => freeJobIn s0 job (toUnwiped serial s)
    | .cancelPending _ _, false => freeJobIn s0 job (faultCart serial s)
    | _, _ => s

/-- What the end of a wipe does to the cartridge (R93, R74). -/
def wipeEffects (s0 : State) (good : Bool) (serial : Nat) (s : State) : State :=
  if good then releaseLists s0 (wipedCart serial s) else faultCart serial s

/-- A write ends with an outcome (R90 to R92, R94 to R97). -/
def finishWrite (n job serial : Nat) (good : Bool) (e : Ending) (s : State) : State :=
  countOutcome good n (writeEffects s good job serial (idleBay n (.write job) serial e s))

/-- A wipe ends with an outcome (R90, R93, R94, R96, R97). -/
def finishWipe (n serial : Nat) (good : Bool) (e : Ending) (s : State) : State :=
  countOutcome good n (wipeEffects s good serial (idleBay n .wipe serial e s))

/-- WRITE-DONE's outcome codes (section 10.7). -/
def writeOutcome : Nat → Option Ending
  | 1 => some .good
  | 2 => some .verifyFail
  | 3 => some .writeFail
  | _ => none

/-- WIPE-DONE's outcome codes (section 10.7). -/
def wipeOutcome : Nat → Option Ending
  | 1 => some .good
  | 2 => some .fail
  | _ => none

/-- WRITE-DONE taken, or LATE (R90). -/
def takeWriteDone (n serial code : Nat) (s : State) : Taken :=
  bayCheck n s fun b =>
    match writeOutcome code with
    | none => refused s .noSuch
    | some e =>
      match b.activity with
      | .writing job c _ =>
        if c = serial then bayTaken n .done (finishWrite n job serial (e == .good) e s) else refused s .late
      | _ => refused s .late

/-- WIPE-DONE taken, or LATE (R90, R93). -/
def takeWipeDone (n serial code : Nat) (s : State) : Taken :=
  bayCheck n s fun b =>
    match wipeOutcome code with
    | none => refused s .noSuch
    | some e =>
      match b.activity with
      | .wiping c _ =>
        if c = serial then bayTaken n .done (finishWipe n serial (e == .good) e s) else refused s .late
      | _ => refused s .late

/-- BAY-FAULT's effect on a bay in SERVICE (R96): the activity under way ends as a bad outcome, which counts once; an idle
bay counts one bad outcome. -/
def faultBay (n : Nat) (b : Bay) (s : State) : State :=
  match b.activity with
  | .writing job serial _ => finishWrite n job serial false .fault s
  | .wiping serial _ => finishWipe n serial false .fault s
  | .idle => countOutcome false n s

/-- BAY-FAULT taken (R96). -/
def takeBayFault (n : Nat) (s : State) : Taken :=
  bayCheck n s fun b =>
    if b.inService then bayTaken n .done (faultBay n b s) else refused s .state

/-- A write abandoned by BAY-OFFLINE (R83): the cartridge to the UNWIPED tail; an ASSIGNED job needs a new blank, a
CANCEL-PENDING one is freed. -/
def abandonWrite (s0 : State) (job serial : Nat) (s : State) : State :=
  let s1 := toUnwiped serial s
  match s1.jobs.get job with
  | some { state := .cancelPending _ _, .. } => freeJobIn s0 job s1
  | _ => needBlank job s1

/-- BAY-OFFLINE's effect on the activity under way (R83). -/
def abandonActivity (n : Nat) (b : Bay) (s : State) : State :=
  match b.activity with
  | .writing job serial _ => abandonWrite s job serial (idleBay n (.write job) serial .abandoned s)
  | .wiping serial _ => toUnwiped serial (idleBay n .wipe serial .abandoned s)
  | .idle => s

/-- A bay's condition is set, its other fields kept. -/
def setCondition (n : Nat) (c : Condition) (s : State) : State :=
  match s.bay n with
  | some b => s.putBay n { b with condition := c }
  | none => s

/-- BAY-OFFLINE taken (R83). -/
def takeBayOffline (n : Nat) (s : State) : Taken :=
  bayCheck n s fun b => bayTaken n .done (setCondition n .offline (abandonActivity n b s))

/-! ### The work arbiter (section 5.4) -/

/-- The class of a cartridge. -/
def cartCls (s : State) (serial : Nat) : Option Cls :=
  (s.carts.get serial).map Cart.cls

/-- The UNWIPED cartridge of a needy class nearest the head (R87 choice 1). -/
def needyWipe (s : State) : Option Nat :=
  s.unwiped.find? (fun n => match cartCls s n with | some c => needy s c | none => false)

/-- The write the arbiter may give: while RUNNING, the head job and the head blank of its class (R87 choice 2, R88). -/
def headWrite (s : State) : Option (Nat × Job × Nat) :=
  if s.standing = .running then
    match s.jobQueue.head? with
    | some n =>
      match s.jobs.get n with
      | some j => ((s.blank.get j.cls).head?).map (fun serial => (n, j, serial))
      | none => none
    | none => none
  else none

/-- A wipe assignment (R89). -/
def assignWipe (n : Nat) (b : Bay) (serial : Nat) (s : State) : State :=
  match b.condition with
  | .service st streak strikes _ =>
    { s.putBay n { b with condition := .service st streak strikes (.wiping serial s.settings.wipeDeadline) } with
      unwiped := s.unwiped.erase serial
      carts := s.carts.modify serial (fun c => { c with state := .wiping }) }
  | _ => s

/-- A write assignment (R68, R88). -/
def assignWrite (n : Nat) (b : Bay) (job : Nat) (j : Job) (serial : Nat) (s : State) : State :=
  match b.condition with
  | .service st streak strikes _ =>
    { s.putBay n { b with condition := .service st streak strikes (.writing job serial s.settings.writeDeadline) } with
      jobQueue := s.jobQueue.erase job
      jobs := s.jobs.put job { j with state := .assigned n serial }
      blank := s.blank.set j.cls ((s.blank.get j.cls).drop 1)
      reserved := s.reserved.set j.cls (s.reserved.get j.cls - 1)
      carts := s.carts.modify serial (fun c =>
        { c with state := .loaded job, writes := if c.writes < Config.maxWrites then c.writes + 1 else c.writes }) }
  | _ => s

/-- The work of a write assignment, as WORK's answer gives it (R88). -/
def writeWork (s : State) (job : Nat) (j : Job) (serial : Nat) : List AnsField :=
  [f1 1, f3 job, f1 (bandCode j.band), f1 (clsCode j.cls), f4 serial, f1 s.settings.writeDeadline]
    ++ j.titles.flatMap (fun t => [f2 t.title, f1 t.revision, f2 t.footprint])

/-- The work of a wipe assignment (R89). -/
def wipeWork (s : State) (serial : Nat) : List AnsField :=
  [f1 2, f4 serial, f1 (((cartCls s serial).map clsCode).getD 0), f1 s.settings.wipeDeadline]

/-- The answer that hands out work, with the bay record (R88, R89). -/
def workTaken (n : Nat) (work : List AnsField) (s : State) : Taken :=
  ⟨s, .done, work ++ bayFields s n⟩

/-- The arbiter's choice for an idle SERVICE bay (R87): a needy wipe, a write, any wipe, nothing. -/
def arbitrate (n : Nat) (b : Bay) (s : State) : Taken :=
  match needyWipe s, headWrite s, s.unwiped.head? with
  | some serial, _, _ => workTaken n (wipeWork s serial) (assignWipe n b serial s)
  | none, some (job, j, serial), _ => workTaken n (writeWork s job j serial) (assignWrite n b job j serial s)
  | none, none, some serial => workTaken n (wipeWork s serial) (assignWipe n b serial s)
  | none, none, none => bayTaken n .none s

/-- WORK taken (R87). -/
def takeWork (n : Nat) (s : State) : Taken :=
  bayCheck n s fun b =>
    if b.inService ∧ b.activity = .idle then arbitrate n b s else refused s .state

/-! ### The standing and the clocks -/

/-- DUP-RESTART taken (R102): RUNNING, and the three blocked lists released in class order with the marks cleared (R52). -/
def takeDupRestart (s : State) : Taken :=
  if s.standing = .halted ∧ s.bays.any Bay.inService then
    let s1 := releaseList .c3 (releaseList .c2 (releaseList .c1 { s with standing := .running }))
    let s2 := { s1 with marks := ⟨false, false, false⟩ }
    ⟨s2, .done, bayCounts s2 ++ [f2 s2.jobQueue.length]⟩
  else refused s .state

/-- One minute off a running deadline or rest (R80). -/
def Condition.tick : Condition → Condition
  | .service st streak strikes (.writing job serial m) => .service st streak strikes (.writing job serial (m - 1))
  | .service st streak strikes (.wiping serial m) => .service st streak strikes (.wiping serial (m - 1))
  | .resting m => .resting (m - 1)
  | c => c

/-- The minute event at every bay (R80). -/
def minuteTick (s : State) : State :=
  { s with bays := s.bays.map (fun b => { b with condition := b.condition.tick }) }

/-- The expiry of a bay's deadline (R94): taken where its minutes left have reached 0. -/
def expireDeadline (n : Nat) (s : State) : State :=
  match s.bay n with
  | some b =>
    match b.activity with
    | .writing job serial 0 => finishWrite n job serial false .expired s
    | .wiping serial 0 => finishWipe n serial false .expired s
    | _ => s
  | none => s

/-- The expiry of a bay's rest (R99): taken where its minutes left have reached 0. -/
def expireRest (n : Nat) (s : State) : State :=
  match s.bay n with
  | some b => if b.condition = .resting 0 then s.putBay n { b with condition := freshService } else s
  | none => s

end Sys2Proof.Machine
end

