-- ==== Sys2Proof/Machine/Calendar.lean ====
section
/-! DEFINITION. The Calendar Unit (chapter 8): NEW-DAY, RENEW and LOAN-READ when taken, and the closing of a loan, which the
Check-in Unit shares (R151). -/

namespace Sys2Proof.Machine

/-- A loan record is freed and its patron's H falls by 1; a CLOSING patron whose H is then 0 is freed (R141, R151 steps 1, 2
and 4). -/
def closeLoan (n patron : Nat) (s : State) : State :=
  freeIfDone patron (lowerHeld patron 1 { s with loans := s.loans.del n })

/-! ### The new day -/

/-- A loan's clock on an open day (R138), and its grace day (R159). -/
def Loan.tick (l : Loan) : Loan :=
  match l.state with
  | .out =>
    if l.daysLeft ≤ 1 then { l with daysLeft := 0, state := .overdue 0 } else { l with daysLeft := l.daysLeft - 1 }
  | .overdue e => { l with state := .overdue (e + 1) }
  | .part vols grace => { l with state := .part vols (grace - 1) }

/-- Whether a loan is closed as LOST: OVERDUE with E at or above lost-after (R140). -/
def Loan.lostAt (after : Nat) (l : Loan) : Bool :=
  match l.state with
  | .overdue e => after ≤ e
  | _ => false

/-- Whether a PARTIAL loan's grace has run out (R159). -/
def Loan.graceEnded (l : Loan) : Bool :=
  match l.state with
  | .part _ grace => grace == 0
  | _ => false

/-- The volumes of a PARTIAL loan that are back. -/
def Loan.returned (l : Loan) : List Nat :=
  match l.state with
  | .part vols _ => vols
  | _ => []

/-- What a LOST closure does to the loan's object (R141). -/
def loseObject (o : LoanObject) (s : State) : State :=
  match o with
  | .cartridge serial _ => { s with carts := s.carts.modify serial (fun c => { c with state := .lost }) }
  | .copySet n => makeIncomplete n (volumesTo (volumeCount s ((titleOfSet s n).getD 0))) s

/-- A LOST closure, without the pass-queue append (R141). -/
def closeLost (n : Nat) (s : State) : State :=
  match s.loans.get n with
  | some l => closeLoan n l.patron (loseObject l.object s)
  | none => s

/-- What the end of a partial grace does to the loan's set (R159). -/
def missObject (l : Loan) (s : State) : State :=
  match l.object with
  | .copySet n =>
    makeIncomplete n ((volumesTo (volumeCount s ((titleOfSet s n).getD 0))).filter (fun v => v ∉ l.returned)) s
  | .cartridge _ _ => s

/-- A closure at the end of a partial grace, without the pass-queue append (R159). -/
def closeGrace (n : Nat) (s : State) : State :=
  match s.loans.get n with
  | some l => closeLoan n l.patron (missObject l s)
  | none => s

/-- The loans a NEW-DAY closes as LOST (R140). -/
def lostLoans (s : State) : List Nat :=
  s.loans.select (fun _ l => l.lostAt s.settings.lostAfter)

/-- The loans a NEW-DAY closes at the end of their grace (R159). -/
def gracedLoans (s : State) : List Nat :=
  s.loans.select (fun _ l => l.graceEnded)

/-- The patrons of some loans. -/
def patronsOf (s : State) (ns : List Nat) : List Nat :=
  ns.filterMap (fun n => (s.loans.get n).map Loan.patron)

/-- An open day's clocks (R138, R159). -/
def tickLoans (s : State) : State :=
  { s with loans := s.loans.mapAll (fun _ l => l.tick) }

/-- The closures of an open day, once its clocks have moved (R140, R141, R159). -/
def closeDue (s : State) : State :=
  (gracedLoans s).foldl (fun acc n => closeGrace n acc) ((lostLoans s).foldl (fun acc n => closeLost n acc) s)

/-- What a NEW-DAY does to one patron: a pause that ends on the new day (R26), the suspension check of a patron that had an
open loan (R143), and the append of a patron whose loan closed (R141, R151, R43). -/
def dayPatron (day : Nat) (checked closers : List Nat) (n : Nat) (s : State) : State :=
  match s.patrons.get n with
  | none => s
  | some p =>
    let s1 := if p.state = .paused day then endPause n p s else s
    let s2 := if n ∈ checked then suspensionCheck n s1 else s1
    if n ∈ closers then appendPassOpen n s2 else s2

/-- The patrons' part of a NEW-DAY, in ascending patron number, which is the order of its appends (R43). -/
def dayPatrons (day : Nat) (checked closers : List Nat) (s : State) : State :=
  s.patrons.numbers.foldl (fun acc n => dayPatron day checked closers n acc) s

/-- The service day record, the rests today and the dispatch day (R100, R135, R137). -/
def turnDay (isOpen : Bool) (s : State) : State :=
  { s with
    day := (s.day + 1) % Config.dayModulus
    dayOpen := isOpen
    bays := s.bays.map (fun b => { b with restsToday := 0 })
    todayCount := 0
    tally := 0
    settings := { s.settings with limitInForce := s.settings.limitNext } }

/-- The patrons with an open loan. -/
def borrowers (s : State) : List Nat :=
  s.loans.map (fun e => e.2.patron)

/-- A NEW-DAY's effects on loans, patrons and the day, before its notices (R137). -/
def advanceDay (isOpen : Bool) (s : State) : State :=
  let s1 := turnDay isOpen s
  if isOpen then
    let s2 := tickLoans s1
    dayPatrons s1.day (borrowers s) (patronsOf s2 (lostLoans s2 ++ gracedLoans s2)) (closeDue s2)
  else dayPatrons s1.day [] [] s1

/-- Whether a loan is OVERDUE. -/
def Loan.isOverdue (l : Loan) : Bool :=
  match l.state with
  | .overdue _ => true
  | _ => false

/-- The number of patrons in a state now that were in another before. -/
def movedTo (s0 s : State) (was now : PatronState → Bool) : Nat :=
  countOf (fun e => now e.2.state &&
    match s0.patrons.get e.1 with
    | some p => was p.state
    | none => false) s.patrons

/-- The loan counts of an open day (R148): entered OVERDUE, closed as LOST, closed at the end of their grace. -/
def loanCounts (isOpen : Bool) (s : State) : Nat × Nat × Nat :=
  if isOpen then
    let s2 := tickLoans s
    (countOf (fun e => e.2.state == .out && e.2.tick.isOverdue) s.loans, (lostLoans s2).length,
      (gracedLoans s2).length)
  else (0, 0, 0)

/-- NEW-DAY's answer (R148), from the state before it and the state after it. -/
def newDayFields (isOpen : Bool) (s0 s : State) : List AnsField :=
  let c := loanCounts isOpen s0
  [f2 s.day, fFlag s.dayOpen, f2 s.settings.limitInForce, f2 c.1, f2 c.2.1, f2 c.2.2,
   f2 (movedTo s0 s (· != .suspended) (· == .suspended)),
   f2 (movedTo s0 s (· == .suspended) (· == .active)),
   f2 (countOf (fun e => e.2.state == .paused s.day) s0.patrons)]

/-- The notices a NEW-DAY raises for the loans it closed (R141, R159). -/
def dayNotices (lost graced : Nat) (s : State) : State :=
  let s1 := raiseIf (0 < lost) .order .loansLost s
  let s2 := raiseIf (0 < lost) .returns .loansLost s1
  raiseIf (0 < graced) .returns .missingVolumes s2

/-- NEW-DAY's day kind: 1 OPEN, 2 CLOSED, any other code CLOSED with a CLAMPED answer (R137). -/
def dayKind (code : Nat) : Bool × OutcomeCode :=
  if code = 1 then (true, .done) else (false, doneOr (code != 2))

/-- NEW-DAY taken (R134, R137). -/
def takeNewDay (code : Nat) (s : State) : Taken :=
  if dispatchOpen s then ⟨s, .dispatchOpen, [f2 (packingCount s), f2 (begunCount s)]⟩
  else
    let k := dayKind code
    let c := loanCounts k.1 s
    let s1 := advanceDay k.1 s
    ⟨dayNotices c.2.1 c.2.2 s1, k.2, newDayFields k.1 s s1⟩

/-! ### Renewals and reading -/

/-- A loan's renewal window W (R139). -/
def Loan.window (l : Loan) : Nat :=
  l.term / 4

/-- Whether a loan is a SET loan whose title has a waiting list that is not empty (R144 check 5). -/
def wanted (s : State) (l : Loan) : Bool :=
  match l.object with
  | .copySet n =>
    match (titleOfSet s n).bind s.titles.get with
    | some t => !t.waiting.isEmpty
    | none => false
  | .cartridge _ _ => false

/-- The outcome RENEW gives a loan (R144, R145). -/
def renewOutcome (s : State) (l : Loan) : OutcomeCode :=
  match l.state with
  | .overdue _ => .late
  | .part _ _ => .state
  | .out =>
    if s.settings.renewalMax ≤ l.renewals then .limit
    else if l.window < l.daysLeft then .tooEarly
    else if wanted s l then .wanted
    else .done

/-- RENEW taken or refused (R144, R145). -/
def takeRenew (n : Nat) (s : State) : Taken :=
  match s.loans.get n with
  | none => refused s .noSuch
  | some l =>
    if renewOutcome s l = .done then
      let l' := { l with daysLeft := l.daysLeft + l.term, renewals := l.renewals + 1 }
      ⟨{ s with loans := s.loans.put n l' }, .done, [f3 n, f1 l'.daysLeft, f1 l'.renewals]⟩
    else
      ⟨s, renewOutcome s l, [f1 l.state.code, f1 l.daysLeft, f1 l.renewals, f1 l.term, f1 l.window]⟩

/-- A loan's kind and object as LOAN-READ gives them (R147). -/
def objectFields (s : State) : LoanObject → List AnsField
  | .cartridge serial titles => [f1 1, f4 serial] ++ titles.map f2
  | .copySet n => [f1 2, f2 n, f2 ((titleOfSet s n).getD 0)]

/-- The fields of a loan's state: E in OVERDUE, the returned volumes and grace days left in PARTIAL (R11, R147). -/
def LoanState.fields : LoanState → List AnsField
  | .out => []
  | .overdue e => [f1 e]
  | .part vols grace => vols.map f1 ++ [f1 grace]

/-- A loan as LOAN-READ gives it (R147). -/
def loanFields (s : State) (n : Nat) (l : Loan) : List AnsField :=
  [f3 n, f2 l.patron] ++ objectFields s l.object
    ++ [f1 l.term, f1 l.daysLeft, f1 l.window, f1 l.renewals, f1 l.state.code] ++ l.state.fields
    ++ [f1 (renewOutcome s l).code]

/-- The calendar that ends every LOAN-READ answer (R147). -/
def calendarFields (s : State) : List AnsField :=
  [f2 s.day, fFlag s.dayOpen, f2 s.settings.renewalMax, f2 s.settings.suspendAfter, f2 s.settings.lostAfter]

/-- What LOAN-READ selects (R147). -/
inductive LoanSelector where
  | byLoan (loan : Nat)
  | byPatron (patron start : Nat)
deriving DecidableEq, Repr

/-- LOAN-READ's body; none is BAD-LENGTH (R147, R169). -/
def parseLoanRead : List Byte → Option LoanSelector
  | [] => none
  | sel :: rest =>
    match sel.toNat, readFields [3] rest, readFields [2, 3] rest with
    | 1, some [loan], _ => some (.byLoan loan)
    | 2, _, some [patron, start] => some (.byPatron patron start)
    | _, _, _ => none

/-- The open loans of a patron at or above a number, ascending (R147). -/
def loansFrom (s : State) (patron start : Nat) : Table Loan :=
  s.loans.filter (fun e => e.2.patron == patron && start ≤ e.1)

/-- LOAN-READ taken (R147); the calendar ends every answer of it, a NO-SUCH too (log entry 17). -/
def takeLoanRead (sel : LoanSelector) (s : State) : Taken :=
  match sel with
  | .byLoan n =>
    match s.loans.get n with
    | none => ⟨s, .noSuch, calendarFields s⟩
    | some l => ⟨s, .done, loanFields s n l ++ calendarFields s⟩
  | .byPatron n start =>
    match findPatron s n with
    | none => ⟨s, .noSuch, calendarFields s⟩
    | some _ =>
      let page := (loansFrom s n start).take Config.loanPage
      ⟨s, .done, page.flatMap (fun e => loanFields s e.1 e.2)
        ++ [f2 ((loansFrom s n start).length - Config.loanPage)] ++ calendarFields s⟩

end Sys2Proof.Machine
end

