-- ==== Sys2Proof/Machine/Returns.lean ====
section
/-! DEFINITION. The Check-in Unit (chapter 9): CART-IN, VOL-IN and SET-FOUND when taken. The end of a partial grace is part of
NEW-DAY and is in Sys2Proof/Machine/Calendar.lean. -/

namespace Sys2Proof.Machine

/-- A loan closes at check-in (R151): freed, H down, the patron appended or freed, and the suspension check for a loan that
was OVERDUE. -/
def checkInLoan (n : Nat) (l : Loan) (s : State) : State :=
  let s1 := appendPassOpen l.patron (closeLoan n l.patron s)
  if l.isOverdue then suspensionCheck l.patron s1 else s1

/-- E, for an OVERDUE loan. -/
def overdueFields : LoanState → List AnsField
  | .overdue e => [f1 e]
  | _ => []

/-- The titles of a cartridge loan. -/
def LoanObject.titles : LoanObject → List Nat
  | .cartridge _ ts => ts
  | .copySet _ => []

/-- A patron's H and state after its loan closed (R153). DESIGN CHOICE, unsafe: of a CLOSING patron that the closure freed, H 0
and the state CLOSING, 4 (log entry 31). -/
def afterClosing (s : State) (patron : Nat) : List AnsField :=
  match s.patrons.get patron with
  | some p => [f1 p.held, f1 p.state.code]
  | none => [f1 0, f1 PatronState.closing.code]

/-- CART-IN of an ON-LOAN cartridge (R153). -/
def cartInOnLoan (serial : Nat) (c : Cart) (n : Nat) (l : Loan) (s : State) : Taken :=
  let s1 := checkInLoan n l (toUnwiped serial s)
  ⟨s1, .done, [f3 n, f2 l.patron, f1 l.state.code] ++ overdueFields l.state ++ [f1 l.renewals]
    ++ l.object.titles.map f2 ++ [f1 (clsCode c.cls)] ++ afterClosing s1 l.patron⟩

/-- A cartridge's class, write count and fault count (R152, R154). -/
def wearFields (c : Cart) : List AnsField :=
  [f1 (clsCode c.cls), f2 c.writes, f1 c.faults]

/-- CART-IN taken (R152 to R154). -/
def takeCartIn (serial : Nat) (s : State) : Taken :=
  match s.carts.get serial with
  | none => refused s .noSuch
  | some c =>
    match c.state with
    | .onLoan n =>
      match s.loans.get n with
      | some l => cartInOnLoan serial c n l s
      | none => refused s .noSuch
    | .lost => ⟨toUnwiped serial s, .found, wearFields c⟩
    | .retired => ⟨s, .retired, wearFields c⟩
    | _ => ⟨s, .notOnLoan, [f1 c.state.code, f1 (clsCode c.cls)]⟩

/-- The fields of a copy set's state in a VOL-IN answer (R155): an ON-LOAN set's loan, an INCOMPLETE set's missing list. -/
def volStateFields (s : State) : SetState → List AnsField
  | .onLoan n =>
    match s.loans.get n with
    | some l =>
      [f3 n, f1 l.state.code] ++ l.returned.map f1 ++
        (match l.state with
         | .part _ grace => [f1 grace]
         | _ => [])
    | none => []
  | .incomplete missing => missing.map f1
  | _ => []

/-- The answer of R156 to R158 and R161, from the state after the request (R155; log entry 8 for the two flags). -/
def volAnswer (s : State) (n : Nat) (o : OutcomeCode) (closed madeAvailable : Bool) : Answer :=
  match s.copySets.get n with
  | some c =>
    ⟨o, [f2 n, f2 c.title, f2 (volumeCount s c.title), f1 c.state.code] ++ volStateFields s c.state
      ++ [fFlag closed, fFlag madeAvailable]⟩
  | none => refuse o

/-- A VOL-IN taken, with its answer. -/
def volTaken (s : State) (n : Nat) (o : OutcomeCode) (closed madeAvailable : Bool) : Taken :=
  ⟨s, volAnswer s n o closed madeAvailable⟩

/-- A SET loan closes at its last volume (R158). -/
def closeSetLoan (set n : Nat) (l : Loan) (s : State) : State :=
  checkInLoan n l (makeAvailable set s)

/-- A volume at its place in an ascending list. -/
def insertVolume (v : Nat) (vols : List Nat) : List Nat :=
  insertBefore (fun a b => decide (a < b)) v vols

/-- A loan enters PARTIAL with its first volume (R156): D kept, E removed; for one that was OVERDUE the suspension check
follows. -/
def firstVolume (n : Nat) (l : Loan) (v : Nat) (s : State) : State :=
  let l' := { l with state := .part [v] s.settings.partialGrace }
  let s1 := { s with loans := s.loans.put n l' }
  if l.isOverdue then suspensionCheck l.patron s1 else s1

/-- VOL-IN for an ON-LOAN set, by its loan (R156, R157); `count` is the title's volume count. -/
def volInOnLoan (set n : Nat) (l : Loan) (v count : Nat) (s : State) : Taken :=
  match l.state with
  | .part vols grace =>
    if v ∈ vols then volTaken s set .already false false
    else if vols.length + 1 ≥ count then volTaken (closeSetLoan set n l s) set .done true true
    else
      let l' := { l with state := .part (insertVolume v vols) grace }
      volTaken { s with loans := s.loans.put n l' } set .done false false
  | _ =>
    if count = 1 then volTaken (closeSetLoan set n l s) set .done true true
    else volTaken (firstVolume n l v s) set .done false false

/-- VOL-IN for an INCOMPLETE set (R161). -/
def volInIncomplete (set : Nat) (c : CopySet) (missing : List Nat) (v : Nat) (s : State) : Taken :=
  if v ∉ missing then volTaken s set .already false false
  else if (missing.erase v).isEmpty then volTaken (makeAvailable set s) set .done false true
  else volTaken (s.putSet set { c with state := .incomplete (missing.erase v) }) set .done false false

/-- VOL-IN taken (R155 to R158, R161). -/
def takeVolIn (set v : Nat) (s : State) : Taken :=
  match s.copySets.get set with
  | none => refused s .noSuch
  | some c =>
    let count := volumeCount s c.title
    if v = 0 ∨ count < v then refused s .noSuch
    else
      match c.state with
      | .onLoan n =>
        match s.loans.get n with
        | some l => volInOnLoan set n l v count s
        | none => refused s .noSuch
      | .incomplete missing => volInIncomplete set c missing v s
      | st => ⟨s, .notOnLoan, [f1 st.code]⟩

/-- SET-FOUND taken (R162). -/
def takeSetFound (set : Nat) (s : State) : Taken :=
  match s.copySets.get set with
  | none => refused s .noSuch
  | some c =>
    match c.state with
    | .incomplete missing => ⟨makeAvailable set s, .done, missing.map f1⟩
    | st => ⟨s, .state, [f1 st.code]⟩

end Sys2Proof.Machine
end

