-- ==== Sys2Proof/Machine/Selection.lean ====
section
/-! DEFINITION. The Selection Engine (chapter 3): footprints and the fill computation (R53, R56, R57), the walk (R54 to
R58), the end of a pass (R59, R60, R49), passes from the pass queue (R44) and copy-set offers (R46). -/

namespace Sys2Proof.Machine

/-- The footprint of a title: its image size rounded up to a multiple of 8, plus 4 (R53). -/
def footprint (size : Nat) : Nat :=
  (size + 7) / 8 * 8 + Config.directoryOverhead

/-- A class's capacity in AU (R53). -/
def capacity : Cls → Nat
  | .c1 => 3840
  | .c2 => 7680
  | .c3 => 15360

/-- The class a new cartridge is drawn from, by the footprint of the title that opens it (R57). -/
def chooseClass (k : Cls) (fp : Nat) : Cls :=
  if Config.tableReserve + fp ≤ capacity k then k
  else if Config.tableReserve + fp ≤ capacity .c1 then .c1
  else if Config.tableReserve + fp ≤ capacity .c2 then .c2
  else .c3

/-- A cartridge opened in a pass (R54), with the entries of its titles in placing order. -/
structure Opened where
  cls : Cls
  titles : List JobTitle
  use : Nat
  band : Band
  entries : List WishEntry
deriving DecidableEq, Repr

/-- An item of a plan: an opened cartridge or a taken copy set (R54). -/
inductive PlanItem where
  | cart (o : Opened)
  | copySet (set : Nat) (entry : WishEntry)
deriving DecidableEq, Repr

/-- The plan of a pass (R54): items in placement order, free units F, the entries skipped so far in list order, and the
classes the walk noted as blocked. -/
structure Plan where
  items : List PlanItem
  free : Nat
  left : List WishEntry
  noted : PerClass Bool
deriving DecidableEq, Repr

/-- What a walk reads that does not change in it: the patron's T and K, the number its order will take, and the set of the
offer, for an offer's pass. -/
structure WalkFrame where
  limit : Nat
  cls : Cls
  order : Nat
  offered : Option Nat
deriving DecidableEq, Repr

/-- Whether a placement that uses a unit is possible (R54). -/
def canUseUnit (s : State) (p : Plan) : Bool :=
  0 < p.free && s.heldTotal + p.items.length < Config.maxHeldTotal
    && (!p.items.isEmpty || s.orders.length < Config.maxOrders)

/-- Whether a plan item is a cartridge. -/
def PlanItem.isCart : PlanItem → Bool
  | .cart _ => true
  | .copySet _ _ => false

/-- The cartridges a plan has opened: its count of write-job records. -/
def Plan.openedCount (p : Plan) : Nat :=
  countOf PlanItem.isCart p.items

/-- The copy sets a plan has taken: its count of pull-task records. -/
def Plan.takenCount (p : Plan) : Nat :=
  countOf (fun i => !i.isCart) p.items

/-- Whether a copy set is an AVAILABLE set of a title. -/
def usable (s : State) (t n : Nat) : Bool :=
  match s.copySets.get n with
  | some c => c.title == t && c.state == .available
  | none => false

/-- The usable set of a BRAILLE entry's title (R55): the offered set where it is one of the title's and AVAILABLE, otherwise
the title's lowest-numbered AVAILABLE set. -/
def usableSet (s : State) (offered : Option Nat) (t : Nat) (r : Title) : Option Nat :=
  match offered with
  | some n => if usable s t n then some n else r.copySets.find? (usable s t)
  | none => r.copySets.find? (usable s t)

/-- An entry is skipped and keeps its place (R58). -/
def Plan.skip (p : Plan) (w : WishEntry) : Plan :=
  { p with left := p.left ++ [w] }

/-- A BRAILLE entry takes a set (R55): AVAILABLE to RESERVED, tied to the item the plan will create; one unit used. -/
def takeSet (fr : WalkFrame) (n : Nat) (w : WishEntry) (p : Plan) (s : State) : State × Plan :=
  ({ s with copySets := s.copySets.modify n (fun c => { c with state := .reserved fr.order (p.items.length + 1) }) },
    { p with items := p.items ++ [.copySet n w], free := p.free - 1 })

/-- The walk at a BRAILLE entry (R55). -/
def walkBraille (fr : WalkFrame) (w : WishEntry) (r : Title) (p : Plan) (s : State) : State × Plan :=
  if canUseUnit s p && s.tasks.length + p.takenCount < Config.maxTasks then
    match usableSet s fr.offered w.title r with
    | some n => takeSet fr n w p s
    | none => (s, p.skip w)
  else (s, p.skip w)

/-- Whether a title fits an opened cartridge (R56): its footprint within the capacity, and the count of titles below T. -/
def Opened.fits (o : Opened) (limit fp : Nat) : Bool :=
  o.use + fp ≤ capacity o.cls && o.titles.length < limit

/-- A title placed on an opened cartridge (R56). -/
def Opened.add (o : Opened) (t : JobTitle) (w : WishEntry) : Opened :=
  { o with
    titles := o.titles ++ [t]
    use := o.use + t.footprint
    band := if w.band = .urgent then .urgent else o.band
    entries := o.entries ++ [w] }

/-- First-fit in opening order (R56): the items with the title placed on the first cartridge that takes it, or none. -/
def firstFit (limit : Nat) (t : JobTitle) (w : WishEntry) : List PlanItem → Option (List PlanItem)
  | [] => none
  | .cart o :: rest =>
    if o.fits limit t.footprint then some (.cart (o.add t w) :: rest)
    else (firstFit limit t w rest).map (.cart o :: ·)
  | i :: rest => (firstFit limit t w rest).map (i :: ·)

/-- Conditions 1 and 2 of opening a cartridge (R48): RUNNING, and free blanks above the critical level. -/
def blankOpenable (s : State) (c : Cls) : Bool :=
  s.standing == .running && !criticalHolds s c

/-- Condition 3 (R48): a write-job record free beyond those the pass has counted. -/
def jobRecordFree (s : State) (p : Plan) : Bool :=
  s.jobs.length + p.openedCount < Config.maxJobs

/-- A cartridge opened for a title (R57): one unit, one job record, and one blank reserved at once. -/
def openCart (c : Cls) (t : JobTitle) (w : WishEntry) (p : Plan) (s : State) : State × Plan :=
  (reserveBlank c s,
    { p with
      items := p.items ++
        [.cart { cls := c, titles := [t], use := Config.tableReserve + t.footprint, band := w.band, entries := [w] }]
      free := p.free - 1 })

/-- A CARTRIDGE entry skipped because class c could not be opened (R57): the class is noted, and where only condition 3
failed its job-record mark is set (R48). -/
def noteBlocked (c : Cls) (w : WishEntry) (p : Plan) (s : State) : State × Plan :=
  (if blankOpenable s c then { s with marks := s.marks.set c true } else s,
    { p.skip w with noted := p.noted.set c true })

/-- The walk at a CARTRIDGE entry that fits no opened cartridge (R57). -/
def walkOpen (fr : WalkFrame) (t : JobTitle) (w : WishEntry) (p : Plan) (s : State) : State × Plan :=
  let c := chooseClass fr.cls t.footprint
  if canUseUnit s p then
    if blankOpenable s c && jobRecordFree s p then openCart c t w p s else noteBlocked c w p s
  else (s, p.skip w)

/-- The walk at a CARTRIDGE entry (R56, R57). -/
def walkCartridge (fr : WalkFrame) (w : WishEntry) (i : Image) (p : Plan) (s : State) : State × Plan :=
  let t : JobTitle := { title := w.title, revision := i.revision, footprint := footprint i.size }
  match firstFit fr.limit t w p.items with
  | some items => (s, { p with items := items })
  | none => walkOpen fr t w p s

/-- The walk at one entry (R54): skipped where its title is withdrawn or lacks the entry's format. -/
def walkEntry (fr : WalkFrame) (acc : State × Plan) (w : WishEntry) : State × Plan :=
  match acc.1.titles.get w.title with
  | none => (acc.1, acc.2.skip w)
  | some r =>
    if r.withdrawn then (acc.1, acc.2.skip w)
    else
      match w.format, r.image, r.braille with
      | .cartridge, some i, _ => walkCartridge fr w i acc.2 acc.1
      | .braille, _, some _ => walkBraille fr w r acc.2 acc.1
      | _, _, _ => (acc.1, acc.2.skip w)

/-- The walk over a wish list from head to tail (section 3.5). -/
def walk (fr : WalkFrame) (free : Nat) (wishes : List WishEntry) (s : State) : State × Plan :=
  wishes.foldl (walkEntry fr) (s, { items := [], free := free, left := [], noted := ⟨false, false, false⟩ })

/-- The settlement of one blocked list at the end of a pass that walked (R49): a patron whom the walk skipped for no entry of the
class leaves the list, but for one that R24 keeps on it until its release. DEDUCED, unsafe: R24, the rule of the particular case, holds
there against R49's general one (log entry 33). -/
def settleBlocked (n : Nat) (noted : Bool) (stays l : List Nat) : List Nat :=
  if noted then appendNew l n else if n ∈ stays then l else l.erase n

/-- The settlement of the three blocked lists (R49). -/
def settleAll (n : Nat) (p : Plan) (s : State) : State :=
  { s with
    blocked :=
      ⟨settleBlocked n p.noted.c1 s.stays.c1 s.blocked.c1, settleBlocked n p.noted.c2 s.stays.c2 s.blocked.c2,
        settleBlocked n p.noted.c3 s.stays.c3 s.blocked.c3⟩ }

/-- Living write jobs by stamp, oldest first. -/
def jobsByStamp (s : State) : List Nat :=
  sortBy (stampBefore s) s.jobs.numbers

/-- The stamp counter made ready for a new job: at 4,294,967,295 the living jobs are first restamped 1, 2, 3 and so on in
their stamp order (R2). DESIGN CHOICE, unsafe: with no living job the counter becomes 0 (log entry 28). -/
def restampIfFull (s : State) : State :=
  if Config.maxStamp ≤ s.counters.stamp then
    let order := jobsByStamp s
    { s with
      jobs := s.jobs.mapAll (fun n j => { j with stamp := order.idxOf n + 1 })
      counters := { s.counters with stamp := order.length } }
  else s

/-- A new write job of an opened cartridge (R59), QUEUED at the place its band and stamp give; its number. -/
def createJob (order patron : Nat) (o : Opened) (s : State) : State × Nat :=
  let s1 := restampIfFull s
  let n := freshNumber s1.jobs s1.counters.job
  let stamp := s1.counters.stamp + 1
  let s2 := s1.putJob n
    { stamp := stamp, order := order, patron := patron, cls := o.cls, titles := o.titles, band := o.band,
      state := .queued, attempts := 0 }
  (enqueueJob n { s2 with counters := { s2.counters with job := nextNumber n, stamp := stamp } }, n)

/-- Whether one pull task goes ahead of another: an URGENT task ahead of NORMAL ones, at the tail of its band (R106). -/
def taskBefore (s : State) (a b : Nat) : Bool :=
  (s.tasks.get a).map PullTask.band == some .urgent && (s.tasks.get b).map PullTask.band == some .normal

/-- A new pull task (R59), QUEUED at the tail of its band (R106). -/
def createTask (order set : Nat) (band : Band) (s : State) : State :=
  let n := freshNumber s.tasks s.counters.task
  let s1 :=
    { s with
      tasks := s.tasks.put n { copySet := set, order := order, band := band, state := .queued }
      counters := { s.counters with task := nextNumber n } }
  { s1 with pullQueue := insertBefore (taskBefore s1) n s1.pullQueue }

/-- One plan item made into an order item, with its job or its pull task (R59); items are collected in placement order. -/
def createItem (order patron : Nat) (acc : State × List Item) (i : PlanItem) : State × List Item :=
  let place := acc.2.length + 1
  match i with
  | .cart o =>
    let r := createJob order patron o acc.1
    (r.1, acc.2 ++ [{ place := place, object := .job r.2, band := o.band, entries := o.entries,
                      ready := false, dispatched := false }])
  | .copySet n w =>
    (createTask order n w.band acc.1,
      acc.2 ++ [{ place := place, object := .copySet n, band := w.band, entries := [w],
                  ready := false, dispatched := false }])

/-- The band of the order a plan becomes: URGENT if any entry placed was URGENT (R59). -/
def planBand (items : List Item) : Band :=
  if items.any (fun i => i.entries.any (fun w => w.band == .urgent)) then .urgent else .normal

/-- The patron after a pass that placed (R60): the placed entries gone from its list, and H up by the units used. -/
def chargePatron (n : Nat) (p : Patron) (plan : Plan) (placed : List WishEntry) (s : State) : State :=
  let s1 := s.putPatron n { p with wishes := plan.left, held := p.held + plan.items.length }
  leaveWaitingAll n placed { s1 with heldTotal := s1.heldTotal + plan.items.length }

/-- What a pass that placed anything creates (R59, R60). -/
def createOrder (order n : Nat) (p : Patron) (plan : Plan) (s : State) : State :=
  let made := plan.items.foldl (createItem order n) (s, [])
  let s1 := made.1
  let s2 :=
    { s1 with
      orders := s1.orders.put order
        { patron := n, mode := p.mode, band := planBand made.2, items := made.2 }
      counters := { s1.counters with order := nextNumber order } }
  chargePatron n p plan (made.2.flatMap Item.entries) s2

/-- A pass that walks (R54 to R60, R49). -/
def walkPass (n : Nat) (p : Patron) (offered : Option Nat) (s : State) : State :=
  let order := freshNumber s.orders s.counters.order
  let r := walk { limit := p.limit, cls := p.cls, order := order, offered := offered } (p.allowance - p.held) p.wishes s
  settleAll n r.2 (if r.2.items.isEmpty then r.1 else createOrder order n p r.2 r.1)

/-- One pass for a patron (R44): it ends at once for a patron not ACTIVE, with no free units, or with the loan records spoken
for. -/
def runPass (n : Nat) (offered : Option Nat) (s : State) : State :=
  match s.patrons.get n with
  | none => s
  | some p =>
    if p.wants ∧ s.heldTotal < Config.maxHeldTotal then walkPass n p offered s else s

/-- Whether a waiter is given a pass by an offer: ACTIVE with H below A (R46). -/
def eligible (s : State) (n : Nat) : Bool :=
  match s.patrons.get n with
  | some p => p.wants
  | none => false

/-- The waiting list of an offer's title, as it now stands. -/
def offerWaiting (s : State) (set : Nat) : List Nat :=
  match s.copySets.get set with
  | some c =>
    match s.titles.get c.title with
    | some r => r.waiting
    | none => []
  | none => []

/-- The waiters of an offer not yet considered, in waiting-list order (R46). -/
def unconsidered (s : State) (o : Offer) : List Nat :=
  (offerWaiting s o.set).filter (fun n => n ∉ o.considered)

/-- The offer in progress looks for its next waiter (R46): waiters that are not eligible are marked considered without a pass,
and with none left to consider the offer ends. -/
def advanceOffer (s : State) : State :=
  match s.offer with
  | none => s
  | some o =>
    let passed := (unconsidered s o).takeWhile (fun n => !eligible s n)
    let o' := { o with considered := o.considered ++ passed }
    if (unconsidered s o').isEmpty then { s with offer := none } else { s with offer := some o' }

/-- Whether an offer of a set ends at once (R46): it is no longer AVAILABLE, or its title is withdrawn. -/
def offerVoid (s : State) (set : Nat) : Bool :=
  match s.copySets.get set with
  | some c =>
    c.state != .available ||
      (match s.titles.get c.title with
       | some r => r.withdrawn
       | none => true)
  | none => true

/-- Begin an offer of a pending set, which is then looked through for its first waiter (R46). -/
def beginOffer (set : Nat) (s : State) : State :=
  if offerVoid s set then s else advanceOffer { s with offer := some { set := set, considered := [] } }

/-- Take the oldest pending offer and begin it, where no offer is in progress (R46). -/
def beginNextOffer (s : State) : State :=
  match s.offer, s.pendingOffers with
  | none, n :: rest => beginOffer n { s with pendingOffers := rest }
  | _, _ => s

/-- Bring the engine to an offer that calls for a pass, if the offer in progress or a pending one does (R44, R46): the offer in
progress first, then the pending ones from the oldest. `fuel` is the number of pending offers. -/
def settleOffers : Nat → State → State
  | 0, s => s
  | fuel + 1, s => if s.offer.isSome then s else settleOffers fuel (beginNextOffer s)

/-- The end of an offer's pass (R46): the offer ends when its set is no longer AVAILABLE, or when the waiting list holds no
patron not yet considered. -/
def endOfferPass (o : Offer) (s : State) : State :=
  if offerVoidSet s o.set || (unconsidered s o).isEmpty then { s with offer := none } else { s with offer := some o }
where
  /-- Whether a set is no longer AVAILABLE. -/
  offerVoidSet (s : State) (set : Nat) : Bool :=
    (s.copySets.get set).map CopySet.state != some .available

/-- An offer's pass for a waiter begins (R46): the waiter is marked considered and leaves the pass queue. -/
def startOfferPass (o : Offer) (n : Nat) (s : State) : State :=
  { s with
    offer := some { o with considered := o.considered ++ [n] }
    passQueue := s.passQueue.erase n
    running := some { patron := n, offered := some o.set } }

/-- The pass of the patron at the head of the pass queue begins, if there is one: the patron leaves the queue (R42, R44). DEDUCED,
unsafe: an event between this moment and the pass's SELECTION_PASS that appends the patron puts it on the queue again (log
entry 4). -/
def startQueuePass (s : State) : State :=
  match s.passQueue with
  | [] => s
  | n :: rest => { s with passQueue := rest, running := some { patron := n, offered := none } }

/-- The Selection Engine's next pass begins (R44): an offer's, where the offers call for one, otherwise the pass queue's. -/
def startNext (s : State) : State :=
  let s1 := settleOffers s.pendingOffers.length (advanceOffer s)
  match s1.offer with
  | some o =>
    match (unconsidered s1 o).head? with
    | some n => startOfferPass o n s1
    | none => startQueuePass s1
  | none => startQueuePass s1

/-- The engine, which runs one pass at a time, starts its next where none is running (R44). -/
def startPass (s : State) : State :=
  if s.running.isSome then s else startNext s

/-- The running pass is taken whole, and for an offer's pass the offer is settled (R44, R46). DEDUCED, unsafe: it sees the events
since it began, and leaves its patron on the pass queue where one of them has appended it (log entry 4). -/
def finishPass (s : State) : State :=
  match s.running with
  | none => s
  | some r =>
    let s1 := runPass r.patron r.offered { s with running := none }
    match r.offered, s1.offer with
    | some _, some o => endOfferPass o s1
    | _, _ => s1

/-- The Selection Engine's pass (R44): the running one is taken, or the next one where none is running. -/
def takePass (s : State) : State :=
  finishPass (startPass s)

/-- COPY_SET_OFFER (R46): with no offer in progress the oldest pending set's offer begins; an offer in progress looks for its
next waiter. The waiter's pass is a SELECTION_PASS. While a pass is running the engine does neither. -/
def workOffer (s : State) : State :=
  if s.running.isSome then s else if s.offer.isSome then advanceOffer s else beginNextOffer s

end Sys2Proof.Machine
end

