-- ==== Sys2Proof/Machine/Store.lean ====
section
/-! DEFINITION. The Record Store's two whole-part events: STORE-CLEAR when taken (R19, R62) and the start-up scan with every
block's restart effects (R20, R21, R61, R77, R103, R124, R136, R175). -/

namespace Sys2Proof.Machine

/-- A bay after STORE-CLEAR (R19, R78): FAILED becomes a fresh SERVICE, rests today 0, no last activity. -/
def Bay.cleared (b : Bay) : Bay :=
  { condition := if b.condition = .failed then freshService else b.condition, restsToday := 0, last := none }

/-- The empty library STORE-CLEAR leaves (R19, R62): every record, collection, counter, setting and day figure as at reset;
the bays, the ports and the restart line kept. -/
def clearStore (s : State) : State :=
  { State.reset with
    restartAsserted := s.restartAsserted, virgin := s.virgin, bays := s.bays.map Bay.cleared, ports := s.ports
    pending := s.pending }

/-- Whether STORE-CLEAR is refused (R19): a bay's activity under way, a PACKING parcel or a HANDED pull task. -/
def handlingUnderWay (s : State) : Bool :=
  s.bays.any (fun b => b.activity != .idle) || s.parcels.any (fun e => e.2.state == .packing)
    || s.tasks.any (fun e => e.2.state == .handed)

/-- The level notices of a class made pending on the links that carry them (R19, R75). -/
def raisePoolLevels (c : Cls) (s : State) : State :=
  raise .duplication (.poolCritical c) (raise .order (.poolCritical c) (raise .duplication (.poolLow c) s))

/-- STORE-CLEAR taken (R19). -/
def takeStoreClear (s : State) : Taken :=
  if handlingUnderWay s then refused s .state
  else ⟨allClasses.foldl (fun acc c => raisePoolLevels c acc) (clearStore s), .done, []⟩

/-! ### The start-up scan -/

/-- A job a bay was writing when it is taken back (R103): one in CANCEL-PENDING is freed, one in ASSIGNED waits for its new
blank. -/
def giveUpJob (n : Nat) (s : State) : State :=
  match s.jobs.get n with
  | some { state := .cancelPending _ _, .. } => freeJob n s
  | _ => s

/-- One bay's activity is taken back (R103, R77 step 1). -/
def takeBackBay (n : Nat) (s : State) : State :=
  match s.bay n with
  | some b =>
    match b.activity with
    | .writing job serial _ => giveUpJob job (toUnwiped serial (idleBay n (.write job) serial .takenBack s))
    | .wiping serial _ => toUnwiped serial (idleBay n .wipe serial .takenBack s)
    | .idle => s
  | none => s

/-- Every bay's activity is taken back, in ascending bay number (R103). -/
def takeBackBays (s : State) : State :=
  (List.range Config.bayCount).foldl (fun acc n => takeBackBay n acc) s

/-- A bay's condition brought back (R103): SERVICE and RESTING to a fresh SERVICE, the rest kept. -/
def Condition.broughtBack : Condition → Condition
  | .service _ _ _ _ => freshService
  | .resting _ => freshService
  | .failed => .failed
  | .offline => .offline

/-- Every bay's condition brought back, its rests today kept (R103). -/
def bringBackBays (s : State) : State :=
  { s with bays := s.bays.map (fun b => { b with condition := b.condition.broughtBack }) }

/-- The number of a class's QUEUED write jobs. -/
def queuedOf (s : State) (c : Cls) : Nat :=
  countOf (fun e => e.2.cls == c && e.2.state == .queued) s.jobs

/-- The reserved counts recomputed (R77 step 2). -/
def recountReserved (s : State) : State :=
  { s with reserved := ⟨queuedOf s .c1, queuedOf s .c2, queuedOf s .c3⟩ }

/-- Whether a job is ASSIGNED. -/
def Job.isAssigned (j : Job) : Bool :=
  match j.state with
  | .assigned _ _ => true
  | _ => false

/-- The jobs returned from bays, in ascending creation stamp across all classes (R77 step 3). -/
def returnedJobs (s : State) : List Nat :=
  sortBy (stampBefore s) (s.jobs.select (fun _ j => j.isAssigned))

/-- Each returned job is given a new blank (R77 step 3). -/
def reissueJobs (s : State) : State :=
  (returnedJobs s).foldl (fun acc n => needBlank n acc) s

/-- A HANDED pull task is QUEUED again (R124). -/
def PullTask.returnedTask (t : PullTask) : PullTask :=
  { t with state := .queued }

/-- A PULLING copy set is RESERVED again (R124). -/
def SetState.unpulled : SetState → SetState
  | .pulling o p => .reserved o p
  | st => st

/-- The pulls returned (R124). -/
def returnPulls (s : State) : State :=
  { s with
    tasks := s.tasks.mapAll (fun _ t => t.returnedTask)
    copySets := s.copySets.mapAll (fun _ c => { c with state := c.state.unpulled }) }

/-- A PACKING parcel is READY again (R136). -/
def Parcel.unpacked (p : Parcel) : Parcel :=
  if p.state = .packing then { p with state := .ready } else p

/-- The number of READY parcels that belong to begun groups (R126, R136). -/
def readyOfBegun (s : State) : Nat :=
  countOf (fun e => e.2.state == .ready && groupBegun s e.2.group) s.parcels

/-- The number of DISPATCHED parcels still held in their records (R126). -/
def dispatchedCount (s : State) : Nat :=
  countOf (fun e => e.2.state == .dispatched) s.parcels

/-- The parcels returned (R136). -/
def returnParcels (s : State) : State :=
  { s with parcels := s.parcels.mapAll (fun _ p => p.unpacked) }

/-- The Dispatch Scheduler's figures computed from the records (R136). -/
def recountDay (s : State) : State :=
  { s with todayCount := s.tally + dispatchedCount s, reservedCap := readyOfBegun s }

/-- The Selection Engine's state emptied, and its pass queue rebuilt (R61). -/
def rebuildEngine (s : State) : State :=
  { s with
    blocked := ⟨[], [], []⟩, stays := ⟨[], [], []⟩, marks := ⟨false, false, false⟩, pendingOffers := [], offer := none, running := none
    passQueue := s.patrons.select (fun _ p => p.wants && !p.wishes.isEmpty) }

/-- The total of held units recomputed from the patron records (R20). -/
def recountHeld (s : State) : State :=
  { s with heldTotal := sumOf (fun e => e.2.held) s.patrons }

/-- Every block's restart effects (R20). -/
def scanRecords (s : State) : State :=
  rebuildEngine (recountDay (returnParcels (returnPulls (reissueJobs (recountReserved (bringBackBays (takeBackBays
    (recountHeld s))))))))

/-- The records as the scan finds them: a memory that has never held the part's records is taken as what STORE-CLEAR leaves,
with every bay as never brought online (R20). -/
def scanned (s : State) : State :=
  if s.virgin then { clearStore s with virgin := false, bays := List.replicate Config.bayCount Bay.initial } else s

/-- The level kinds of a link whose conditions hold, in ascending code and class (R21, R174). -/
def levelsHolding (s : State) (l : Link) : List Notice :=
  (kindsOfLink l).filter (fun n => levelCondition s n == some true)

/-- Every port as it starts (R21, R175): empty, with the level kinds that hold pending and their NOTICE frames made. -/
def startPorts (s : State) : State :=
  { s with
    ports :=
      { order := Port.started (levelsHolding s .order)
        duplication := Port.started (levelsHolding s .duplication)
        mailroom := Port.started (levelsHolding s .mailroom)
        returns := Port.started (levelsHolding s .returns) } }

/-- The restart line released and the scan run to its end (R20, R21). -/
def runScan (s : State) : State :=
  startPorts { scanRecords (scanned s) with restartAsserted := false }

/-- Every port while the restart line is asserted (R175): no request in progress, nothing to send, WAIT-IDLE. -/
def stopPorts (s : State) : State :=
  { s with ports := ⟨Port.started [], Port.started [], Port.started [], Port.started []⟩ }

/-- The part at its first power-on: the restart line asserted over a record memory that has never held its records. -/
def State.powerOn : State :=
  stopPorts { State.reset with restartAsserted := true, virgin := true }

end Sys2Proof.Machine
end

