-- ==== Sys2Proof/Machine/LinkPorts.lean ====
section
/-! DEFINITION. The Link Ports and the Notice Unit (chapter 10): STATUS and NOTICE-ACK when taken (R172, R173), each kind's
body read and delivered to its block (R169), a good frame (R168, R169), the receiver (R164 to R167), the send list
(R170), and link restart (R174). -/

namespace Sys2Proof.Machine

/-- A notice set in the form STATUS gives it (R172): the number of kinds, then each kind's code, class and, for a level kind,
whether its condition holds. -/
def noticeFields (s : State) (kinds : List Notice) : List AnsField :=
  f2 kinds.length :: kinds.flatMap (fun n => [f1 n.code, f1 n.cls, fFlag (levelCondition s n == some true)])

/-- Whether a kind is an event kind (R171). -/
def isEvent (s : State) (n : Notice) : Bool :=
  (levelCondition s n).isNone

/-- STATUS taken (R172): the bad-frame count and the event kinds are reported and cleared. -/
def takeStatus (l : Link) (s : State) : Taken :=
  let p := s.port l
  ⟨s.onPort l (fun q => { q with badFrames := 0, notices := q.notices.filter (fun n => !isEvent s n) }),
    .done, f2 p.badFrames :: noticeFields s p.notices⟩

/-- The kind of a link that a notice code and class name (R173 check 1). -/
def noticeNamed (l : Link) (code cls : Nat) : Option Notice :=
  (kindsOfLink l).find? (fun n => n.code == code && n.cls == cls)

/-- NOTICE-ACK's answer: the outcome, and the link's notice set after the request (R173). -/
def ackAnswer (s : State) (l : Link) (o : OutcomeCode) : Taken :=
  ⟨s, o, noticeFields s (s.port l).notices⟩

/-- NOTICE-ACK taken (R173). -/
def takeNoticeAck (l : Link) (code cls : Nat) (s : State) : Taken :=
  match noticeNamed l code cls with
  | none => ackAnswer s l .noSuch
  | some n =>
    if n ∉ (s.port l).notices then ackAnswer s l .already
    else if levelCondition s n = some true then ackAnswer s l .still
    else ackAnswer (s.onPort l (fun q => { q with notices := q.notices.erase n })) l .done

/-! ### The bodies of the request kinds (R169, section 10.7) -/

/-- A body without fields. -/
def noBody (take : State → Taken) (body : List Byte) : Option (State → Taken) :=
  if body.isEmpty then some take else none

/-- A body of one field. -/
def oneField (w : Nat) (take : Nat → State → Taken) (body : List Byte) : Option (State → Taken) :=
  match readFields [w] body with
  | some [a] => some (take a)
  | _ => none

/-- A body of two fields. -/
def twoFields (w1 w2 : Nat) (take : Nat → Nat → State → Taken) (body : List Byte) : Option (State → Taken) :=
  match readFields [w1, w2] body with
  | some [a, b] => some (take a b)
  | _ => none

/-- A body of three fields. -/
def threeFields (w1 w2 w3 : Nat) (take : Nat → Nat → Nat → State → Taken) (body : List Byte) :
    Option (State → Taken) :=
  match readFields [w1, w2, w3] body with
  | some [a, b, c] => some (take a b c)
  | _ => none

/-- A body of four fields. -/
def fourFields (w1 w2 w3 w4 : Nat) (take : Nat → Nat → Nat → Nat → State → Taken) (body : List Byte) :
    Option (State → Taken) :=
  match readFields [w1, w2, w3, w4] body with
  | some [a, b, c, d] => some (take a b c d)
  | _ => none

/-- A body of five fields. -/
def fiveFields (w1 w2 w3 w4 w5 : Nat) (take : Nat → Nat → Nat → Nat → Nat → State → Taken) (body : List Byte) :
    Option (State → Taken) :=
  match readFields [w1, w2, w3, w4, w5] body with
  | some [a, b, c, d, e] => some (take a b c d e)
  | _ => none

/-- A request's body read for the block that takes it; none is BAD-LENGTH (R169 check 3). -/
def bodyOf (l : Link) : Kind → List Byte → Option (State → Taken)
  | .status => noBody (takeStatus l)
  | .noticeAck => twoFields 1 1 (takeNoticeAck l)
  | .patronSet => fiveFields 2 1 1 1 1 takePatronSet
  | .patronPause => twoFields 2 2 takePatronPause
  | .patronResume => oneField 2 takePatronResume
  | .patronClose => oneField 2 takePatronClose
  | .patronRead => oneField 2 takePatronRead
  | .wishAdd => fourFields 2 2 1 1 takeWishAdd
  | .wishDrop => threeFields 2 2 1 takeWishDrop
  | .wishMove => fiveFields 2 2 1 1 1 takeWishMove
  | .wishRead => oneField 2 takeWishRead
  | .titleSet => fun body => (parseTitleSet body).map (fun r => takeTitleSet r.1 r.2.1 r.2.2)
  | .titleWithdraw => oneField 2 takeTitleWithdraw
  | .copysetAdd => oneField 2 takeCopysetAdd
  | .loanRead => fun body => (parseLoanRead body).map takeLoanRead
  | .renew => oneField 3 takeRenew
  | .orderCancel => threeFields 2 3 1 takeOrderCancel
  | .newDay => oneField 1 takeNewDay
  | .serviceSet => twoFields 1 2 takeServiceSet
  | .storeClear => noBody takeStoreClear
  | .cartEnrol => twoFields 4 1 takeCartEnrol
  | .cartForget => oneField 4 takeCartForget
  | .poolSet => threeFields 1 2 2 takePoolSet
  | .bayOnline => oneField 1 takeBayOnline
  | .bayOffline => oneField 1 takeBayOffline
  | .bayRestore => oneField 1 takeBayRestore
  | .dupRestart => noBody takeDupRestart
  | .work => oneField 1 takeWork
  | .writeDone => threeFields 1 4 1 takeWriteDone
  | .wipeDone => threeFields 1 4 1 takeWipeDone
  | .bayFault => oneField 1 takeBayFault
  | .bayRead => oneField 1 takeBayRead
  | .nextPull => noBody takeNextPull
  | .pulled => oneField 3 takePulled
  | .notFound => oneField 3 takeNotFound
  | .setFound => oneField 2 takeSetFound
  | .nextParcel => noBody takeNextParcel
  | .packed => oneField 3 takePacked
  | .unpack => oneField 3 takeUnpack
  | .cartIn => oneField 4 takeCartIn
  | .volIn => twoFields 2 1 takeVolIn
  | .copysetRead => oneField 2 takeCopysetRead

/-! ### A good frame (R168, R169) -/

/-- Whether a port delivers a request kind: its own link's role, or a kind of every link (R169 check 2). -/
def roleOk (l : Link) (k : Kind) : Bool :=
  match k.role with
  | none => true
  | some r => r == l

/-- The three checks of the port in their order, then the block (R169). -/
def deliver (l : Link) (f : RxFrame) (s : State) : Taken :=
  match kindOfCode f.kind with
  | none => refused s .unknownKind
  | some k =>
    if roleOk l k then
      match bodyOf l k f.body with
      | none => refused s .badLength
      | some take => take s
    else refused s .wrongLink

/-- A good frame becomes the request in progress (R168). -/
def startRequest (l : Link) (f : RxFrame) (s : State) : State :=
  s.onPort l (fun p => { p with inProgress := some ⟨f.tag, f.kind⟩ })

/-- A frame joins the tail of a link's send list (R170). -/
def sendFrame (l : Link) (f : OutFrame) (s : State) : State :=
  s.onPort l (fun p => { p with sendList := p.sendList ++ [f] })

/-- A good frame meets a request in progress (R168, R170): a BUSY answer, or a receive error where the send list is full. -/
def answerBusy (f : RxFrame) (p : Port) : Port :=
  if p.full then p.countBad else { p with sendList := p.sendList ++ [.busy f.tag f.kind] }

/-- The patron a request's body names, for the kinds that wait for a pass of that patron: the nine of the Wish List Unit
(R22), ORDER-CANCEL (R119), and LOAN-READ by patron (R44; log entry 4). -/
def patronNamed (k : Kind) (body : List Byte) : Option Nat :=
  match k with
  | .patronSet | .patronPause | .patronResume | .patronClose | .patronRead | .wishAdd | .wishDrop | .wishMove | .wishRead
  | .orderCancel => some (leValue (body.take 2))
  | .loanRead =>
    match parseLoanRead body with
    | some (.byPatron n _) => some n
    | _ => none
  | _ => none

/-- Whether a request that passes the port's checks names the patron of the running pass, and so waits for its end (R22,
R44). -/
def mustWait (l : Link) (f : RxFrame) (s : State) : Bool :=
  match s.running, kindOfCode f.kind with
  | some r, some k => roleOk l k && (bodyOf l k f.body).isSome && patronNamed k f.body == some r.patron
  | _, _ => false

/-- The request in progress of a port waits for its block (R22, R168). -/
def Port.wait (body : List Byte) (p : Port) : Port :=
  { p with waiting := some body }

/-- A request in progress taken and answered, and its event, which began at `s0`, ended (R168 to R171). -/
def answerRequest (l : Link) (f : RxFrame) (s0 s : State) : State :=
  let r := deliver l f s
  endEvent s0 (sendFrame l (.answer f.tag f.kind r.answer) r.state)

/-- A request admitted: it waits for the running pass of the patron it names, or is taken and answered at once (R22, R168). -/
def takeRequest (l : Link) (f : RxFrame) (s : State) : State :=
  if mustWait l f s then (startRequest l f s).onPort l (Port.wait f.body) else answerRequest l f s (startRequest l f s)

/-- The request that waits on a port, if there is one, is taken and answered (R22). -/
def takeWaiting (l : Link) (s : State) : State :=
  match (s.port l).inProgress, (s.port l).waiting with
  | some r, some body => answerRequest l ⟨r.kind, r.tag, body⟩ s (s.onPort l (fun p => { p with waiting := none }))
  | _, _ => s

/-- A good frame received (R168). -/
def goodFrame (l : Link) (f : RxFrame) (s : State) : State :=
  if (s.port l).inProgress.isSome then s.onPort l (answerBusy f) else takeRequest l f s

/-! ### The receiver (R164 to R167) -/

/-- Set a port's receive state. -/
def setRx (l : Link) (rx : RxState) (s : State) : State :=
  s.onPort l (fun p => { p with rx := rx })

/-- A receive error, and the receive state it leaves (R167). -/
def rxError (l : Link) (rx : RxState) (s : State) : State :=
  s.onPort l (fun p => { p.countBad with rx := rx })

/-- A complete frame is judged (R164, R166): a good one is taken on, a bad one counted; either way WAIT-IDLE follows. -/
def judge (l : Link) (bs : List Byte) (s : State) : State :=
  match judgeFrame bs with
  | some f => goodFrame l f (setRx l (.waitIdle true) s)
  | none => rxError l (.waitIdle true) s

/-- The bytes collected after a start byte, with one more (R164, R165). -/
def collect (l : Link) (bs : List Byte) (s : State) : State :=
  if bs.length < 2 then setRx l (.frame bs) s
  else if bs.length = 2 ∧ ¬ lengthOk (lengthField bs) then rxError l (.waitIdle false) s
  else if frameComplete bs then judge l bs s
  else setRx l (.frame bs) s

/-- One received character (R164). -/
def rxChar (l : Link) (c : RxChar) (s : State) : State :=
  match (s.port l).rx, c with
  | .waitIdle true, _ => rxError l (.waitIdle false) s
  | .waitIdle false, _ => s
  | .hunt, .data b => if b = 0xA5 then setRx l (.frame []) s else rxError l (.waitIdle false) s
  | .hunt, .badStop => rxError l (.waitIdle false) s
  | .frame bs, .data b => collect l (bs ++ [b]) s
  | .frame _, .badStop => rxError l (.waitIdle false) s

/-- A run of received characters with no frame-separating idle between them (R164). -/
def receiveRun (l : Link) (cs : List RxChar) (s : State) : State :=
  cs.foldl (fun acc c => rxChar l c acc) s

/-- An idle of 2 character times (R164). -/
def rxIdle (l : Link) (s : State) : State :=
  match (s.port l).rx with
  | .waitIdle _ => setRx l .hunt s
  | .hunt => s
  | .frame _ => rxError l .hunt s

/-- A whole frame with a good check arrives on a link (R164 to R169). A port between frames takes it on as it stands; any
other port meets its characters (log entry 5). A body above 1,024 bytes has no length in range: a receive error (R165, log
entry 24). While the restart line is asserted nothing is received (R175). -/
def request (l : Link) (f : RxFrame) (s : State) : State :=
  if s.restartAsserted then s
  else if (s.port l).rx = .hunt then
    if f.body.length ≤ Config.maxBody then goodFrame l f (setRx l (.waitIdle true) s)
    else rxError l (.waitIdle false) s
  else receiveRun l (f.bytes.map .data) s

/-! ### The send list and link restart -/

/-- The oldest frame of a send list has left whole (R168, R170): an answer ends the request in progress. -/
def Port.sent (p : Port) : Port :=
  match p.sendList with
  | [] => p
  | f :: rest => { p with sendList := rest, inProgress := if f.isAnswer then none else p.inProgress }

/-- A link restart (R174): the port as it starts, with the level kinds that hold. A request that waits is withdrawn with it, and
one that was taken has its effects and no answer. -/
def restartLink (l : Link) (s : State) : State :=
  s.onPort l (fun _ => Port.started (levelsHolding s l))

/-- An event of the part that no frame brings (R175, log entry 7): nothing while the restart line is asserted, otherwise its
effects and its end. -/
def ownEvent (f : State → State) (s : State) : State :=
  if s.restartAsserted then s else endEvent s (f s)

end Sys2Proof.Machine
end

