-- ==== Sys2Proof/Machine/Events.lean ====
section
/-! DEFINITION. The meanings of the 15 commands that are not requests of their own kind: frames the port answers itself,
receive errors, the send list, the restarts, the minute time base and the expiries, and the part's own engines. An event
whose condition does not hold leaves the part as it is (log entry 6), and only START_UP_SCAN does anything while the restart
line is asserted (R175, log entry 7). -/

namespace Sys2Proof.Machine

/-- UNKNOWN_KIND (R169 check 1): a good frame whose kind is no request kind. -/
def execUnknownKind (l : Link) (kind : Byte) (tag : Half) (body : List Byte) (s : State) :
    Host.Outcome State Fault Refusal :=
  .next (request l ⟨kind, tag, body⟩ s)

/-- BUSY (R168): a good frame that meets a request in progress. Where none is in progress the frame becomes the request in
progress, as any good frame does (log entry 25). -/
def execBusy (l : Link) (kind : Byte) (tag : Half) (body : List Byte) (s : State) :
    Host.Outcome State Fault Refusal :=
  .next (request l ⟨kind, tag, body⟩ s)

/-- RECEIVE_ERROR (R164 to R167): a run of characters through the receiver, which counts each error among them. -/
def execReceiveError (l : Link) (chars : List RxChar) (s : State) : Host.Outcome State Fault Refusal :=
  .next (if s.restartAsserted then s else receiveRun l chars s)

/-- FRAME_SENT (R170, R168). -/
def execFrameSent (l : Link) (s : State) : Host.Outcome State Fault Refusal :=
  .next (if s.restartAsserted then s else s.onPort l Port.sent)

/-- LINK_RESTART (R174). -/
def execLinkRestart (l : Link) (s : State) : Host.Outcome State Fault Refusal :=
  .next (if s.restartAsserted then s else restartLink l s)

/-- RESTART_LINE (R175, R1): asserted; the ports stop, and the records are as the last whole step left them. -/
def execRestartLine (s : State) : Host.Outcome State Fault Refusal :=
  .next (stopPorts { s with restartAsserted := true })

/-- START_UP_SCAN (R20, R21): the line is released and the scan runs whole. -/
def execStartUpScan (s : State) : Host.Outcome State Fault Refusal :=
  .next (if s.restartAsserted then runScan s else s)

/-- MINUTE_EVENT (R80): every running deadline and rest loses a minute. -/
def execMinuteEvent (s : State) : Host.Outcome State Fault Refusal :=
  .next (ownEvent minuteTick s)

/-- DEADLINE_EXPIRY of a bay (R94): taken where the bay's minutes left have reached 0. -/
def execDeadlineExpiry (bay : Nat) (s : State) : Host.Outcome State Fault Refusal :=
  .next (ownEvent (expireDeadline bay) s)

/-- REST_EXPIRY of a bay (R99): taken where the bay's minutes left have reached 0. -/
def execRestExpiry (bay : Nat) (s : State) : Host.Outcome State Fault Refusal :=
  .next (ownEvent (expireRest bay) s)

/-- SELECTION_PASS (R44): the engine's pass is taken whole, the one that is running or else its next, an offer's or the pass
queue's; the request that waited for its end is then taken (R22). -/
def execSelectionPass (s : State) : Host.Outcome State Fault Refusal :=
  .next (if s.restartAsserted then s else takeWaiting .order (endEvent s (takePass s)))

/-- A moment in which no command is there: the Selection Engine, where it runs no pass and has one to run, begins it (R44; log
entry 4). -/
def idle (s : State) : State :=
  ownEvent startPass s

/-- COPY_SET_OFFER (R46): an offer begins, or the one in progress looks for its next waiter. -/
def execCopySetOffer (s : State) : Host.Outcome State Fault Refusal :=
  .next (ownEvent workOffer s)

/-- STARVED_CLAIM of a class (R74): the claim, then the critical comparison of R50. -/
def execStarvedClaim (c : Cls) (s : State) : Host.Outcome State Fault Refusal :=
  .next (ownEvent (fun x => releaseLists x (claimStarved c x)) s)

/-- PARCEL_BACKLOG_SERVE (R113). -/
def execParcelBacklogServe (s : State) : Host.Outcome State Fault Refusal :=
  .next (ownEvent serveBacklog s)

/-- FRAME_SEPARATING_IDLE (R164). -/
def execFrameSeparatingIdle (l : Link) (s : State) : Host.Outcome State Fault Refusal :=
  .next (if s.restartAsserted then s else rxIdle l s)

end Sys2Proof.Machine
end

