-- ==== Sys2Proof/Machine/Requests.lean ====
section
/-! DEFINITION. The meanings of the 42 request commands: a good frame of the kind arrives whole on a link. The port admits it
or answers BUSY (R168), makes the checks of R169, and delivers it to its block (`bodyOf`), whose `take` definition is the
request's own effect; the answer and the notices follow (R170, R171). Each meaning is a definition of its own. -/

namespace Sys2Proof.Machine

/-! ### Requests of every link -/

/-- STATUS (R172): its effect is `takeStatus`. -/
def execStatus (l : Link) (tag : Half) (body : List Byte) (s : State) : Host.Outcome State Fault Refusal :=
  .next (request l ⟨Kind.status.code, tag, body⟩ s)

/-- NOTICE_ACK (R173): its effect is `takeNoticeAck`. -/
def execNoticeAck (l : Link) (tag : Half) (body : List Byte) (s : State) : Host.Outcome State Fault Refusal :=
  .next (request l ⟨Kind.noticeAck.code, tag, body⟩ s)

/-! ### Requests of the Order link -/

/-- PATRON_SET (R23): its effect is `takePatronSet`. -/
def execPatronSet (l : Link) (tag : Half) (body : List Byte) (s : State) : Host.Outcome State Fault Refusal :=
  .next (request l ⟨Kind.patronSet.code, tag, body⟩ s)

/-- PATRON_PAUSE (R25): its effect is `takePatronPause`. -/
def execPatronPause (l : Link) (tag : Half) (body : List Byte) (s : State) : Host.Outcome State Fault Refusal :=
  .next (request l ⟨Kind.patronPause.code, tag, body⟩ s)

/-- PATRON_RESUME (R26): its effect is `takePatronResume`. -/
def execPatronResume (l : Link) (tag : Half) (body : List Byte) (s : State) : Host.Outcome State Fault Refusal :=
  .next (request l ⟨Kind.patronResume.code, tag, body⟩ s)

/-- PATRON_CLOSE (R29): its effect is `takePatronClose`. -/
def execPatronClose (l : Link) (tag : Half) (body : List Byte) (s : State) : Host.Outcome State Fault Refusal :=
  .next (request l ⟨Kind.patronClose.code, tag, body⟩ s)

/-- PATRON_READ (R31): its effect is `takePatronRead`. -/
def execPatronRead (l : Link) (tag : Half) (body : List Byte) (s : State) : Host.Outcome State Fault Refusal :=
  .next (request l ⟨Kind.patronRead.code, tag, body⟩ s)

/-- WISH_ADD (R35): its effect is `takeWishAdd`. -/
def execWishAdd (l : Link) (tag : Half) (body : List Byte) (s : State) : Host.Outcome State Fault Refusal :=
  .next (request l ⟨Kind.wishAdd.code, tag, body⟩ s)

/-- WISH_DROP (R37): its effect is `takeWishDrop`. -/
def execWishDrop (l : Link) (tag : Half) (body : List Byte) (s : State) : Host.Outcome State Fault Refusal :=
  .next (request l ⟨Kind.wishDrop.code, tag, body⟩ s)

/-- WISH_MOVE (R38): its effect is `takeWishMove`. -/
def execWishMove (l : Link) (tag : Half) (body : List Byte) (s : State) : Host.Outcome State Fault Refusal :=
  .next (request l ⟨Kind.wishMove.code, tag, body⟩ s)

/-- WISH_READ (R39): its effect is `takeWishRead`. -/
def execWishRead (l : Link) (tag : Half) (body : List Byte) (s : State) : Host.Outcome State Fault Refusal :=
  .next (request l ⟨Kind.wishRead.code, tag, body⟩ s)

/-- TITLE_SET (R12): its effect is `takeTitleSet`. -/
def execTitleSet (l : Link) (tag : Half) (body : List Byte) (s : State) : Host.Outcome State Fault Refusal :=
  .next (request l ⟨Kind.titleSet.code, tag, body⟩ s)

/-- TITLE_WITHDRAW (R14): its effect is `takeTitleWithdraw`. -/
def execTitleWithdraw (l : Link) (tag : Half) (body : List Byte) (s : State) : Host.Outcome State Fault Refusal :=
  .next (request l ⟨Kind.titleWithdraw.code, tag, body⟩ s)

/-- COPYSET_ADD (R15): its effect is `takeCopysetAdd`. -/
def execCopysetAdd (l : Link) (tag : Half) (body : List Byte) (s : State) : Host.Outcome State Fault Refusal :=
  .next (request l ⟨Kind.copysetAdd.code, tag, body⟩ s)

/-- LOAN_READ (R147): its effect is `takeLoanRead`. -/
def execLoanRead (l : Link) (tag : Half) (body : List Byte) (s : State) : Host.Outcome State Fault Refusal :=
  .next (request l ⟨Kind.loanRead.code, tag, body⟩ s)

/-- RENEW (R144): its effect is `takeRenew`. -/
def execRenew (l : Link) (tag : Half) (body : List Byte) (s : State) : Host.Outcome State Fault Refusal :=
  .next (request l ⟨Kind.renew.code, tag, body⟩ s)

/-- ORDER_CANCEL (R119): its effect is `takeOrderCancel`. -/
def execOrderCancel (l : Link) (tag : Half) (body : List Byte) (s : State) : Host.Outcome State Fault Refusal :=
  .next (request l ⟨Kind.orderCancel.code, tag, body⟩ s)

/-- NEW_DAY (R137): its effect is `takeNewDay`. -/
def execNewDay (l : Link) (tag : Half) (body : List Byte) (s : State) : Host.Outcome State Fault Refusal :=
  .next (request l ⟨Kind.newDay.code, tag, body⟩ s)

/-- SERVICE_SET (R17): its effect is `takeServiceSet`. -/
def execServiceSet (l : Link) (tag : Half) (body : List Byte) (s : State) : Host.Outcome State Fault Refusal :=
  .next (request l ⟨Kind.serviceSet.code, tag, body⟩ s)

/-- STORE_CLEAR (R19): its effect is `takeStoreClear`. -/
def execStoreClear (l : Link) (tag : Half) (body : List Byte) (s : State) : Host.Outcome State Fault Refusal :=
  .next (request l ⟨Kind.storeClear.code, tag, body⟩ s)

/-! ### Requests of the Duplication link -/

/-- CART_ENROL (R65): its effect is `takeCartEnrol`. -/
def execCartEnrol (l : Link) (tag : Half) (body : List Byte) (s : State) : Host.Outcome State Fault Refusal :=
  .next (request l ⟨Kind.cartEnrol.code, tag, body⟩ s)

/-- CART_FORGET (R66): its effect is `takeCartForget`. -/
def execCartForget (l : Link) (tag : Half) (body : List Byte) (s : State) : Host.Outcome State Fault Refusal :=
  .next (request l ⟨Kind.cartForget.code, tag, body⟩ s)

/-- POOL_SET (R76): its effect is `takePoolSet`. -/
def execPoolSet (l : Link) (tag : Half) (body : List Byte) (s : State) : Host.Outcome State Fault Refusal :=
  .next (request l ⟨Kind.poolSet.code, tag, body⟩ s)

/-- BAY_ONLINE (R82): its effect is `takeBayOnline`. -/
def execBayOnline (l : Link) (tag : Half) (body : List Byte) (s : State) : Host.Outcome State Fault Refusal :=
  .next (request l ⟨Kind.bayOnline.code, tag, body⟩ s)

/-- BAY_OFFLINE (R83): its effect is `takeBayOffline`. -/
def execBayOffline (l : Link) (tag : Half) (body : List Byte) (s : State) : Host.Outcome State Fault Refusal :=
  .next (request l ⟨Kind.bayOffline.code, tag, body⟩ s)

/-- BAY_RESTORE (R84): its effect is `takeBayRestore`. -/
def execBayRestore (l : Link) (tag : Half) (body : List Byte) (s : State) : Host.Outcome State Fault Refusal :=
  .next (request l ⟨Kind.bayRestore.code, tag, body⟩ s)

/-- DUP_RESTART (R102): its effect is `takeDupRestart`. -/
def execDupRestart (l : Link) (tag : Half) (body : List Byte) (s : State) : Host.Outcome State Fault Refusal :=
  .next (request l ⟨Kind.dupRestart.code, tag, body⟩ s)

/-- WORK (R87): its effect is `takeWork`. -/
def execWork (l : Link) (tag : Half) (body : List Byte) (s : State) : Host.Outcome State Fault Refusal :=
  .next (request l ⟨Kind.work.code, tag, body⟩ s)

/-- WRITE_DONE (R90): its effect is `takeWriteDone`. -/
def execWriteDone (l : Link) (tag : Half) (body : List Byte) (s : State) : Host.Outcome State Fault Refusal :=
  .next (request l ⟨Kind.writeDone.code, tag, body⟩ s)

/-- WIPE_DONE (R90, R93): its effect is `takeWipeDone`. -/
def execWipeDone (l : Link) (tag : Half) (body : List Byte) (s : State) : Host.Outcome State Fault Refusal :=
  .next (request l ⟨Kind.wipeDone.code, tag, body⟩ s)

/-- BAY_FAULT (R96): its effect is `takeBayFault`. -/
def execBayFault (l : Link) (tag : Half) (body : List Byte) (s : State) : Host.Outcome State Fault Refusal :=
  .next (request l ⟨Kind.bayFault.code, tag, body⟩ s)

/-- BAY_READ (R81): its effect is `takeBayRead`. -/
def execBayRead (l : Link) (tag : Half) (body : List Byte) (s : State) : Host.Outcome State Fault Refusal :=
  .next (request l ⟨Kind.bayRead.code, tag, body⟩ s)

/-! ### Requests of the Mailroom link -/

/-- NEXT_PULL (R108): its effect is `takeNextPull`. -/
def execNextPull (l : Link) (tag : Half) (body : List Byte) (s : State) : Host.Outcome State Fault Refusal :=
  .next (request l ⟨Kind.nextPull.code, tag, body⟩ s)

/-- PULLED (R109): its effect is `takePulled`. -/
def execPulled (l : Link) (tag : Half) (body : List Byte) (s : State) : Host.Outcome State Fault Refusal :=
  .next (request l ⟨Kind.pulled.code, tag, body⟩ s)

/-- NOT_FOUND (R110): its effect is `takeNotFound`. -/
def execNotFound (l : Link) (tag : Half) (body : List Byte) (s : State) : Host.Outcome State Fault Refusal :=
  .next (request l ⟨Kind.notFound.code, tag, body⟩ s)

/-- SET_FOUND (R162): its effect is `takeSetFound`. -/
def execSetFound (l : Link) (tag : Half) (body : List Byte) (s : State) : Host.Outcome State Fault Refusal :=
  .next (request l ⟨Kind.setFound.code, tag, body⟩ s)

/-- NEXT_PARCEL (R127): its effect is `takeNextParcel`. -/
def execNextParcel (l : Link) (tag : Half) (body : List Byte) (s : State) : Host.Outcome State Fault Refusal :=
  .next (request l ⟨Kind.nextParcel.code, tag, body⟩ s)

/-- PACKED (R129): its effect is `takePacked`. -/
def execPacked (l : Link) (tag : Half) (body : List Byte) (s : State) : Host.Outcome State Fault Refusal :=
  .next (request l ⟨Kind.packed.code, tag, body⟩ s)

/-- UNPACK (R130): its effect is `takeUnpack`. -/
def execUnpack (l : Link) (tag : Half) (body : List Byte) (s : State) : Host.Outcome State Fault Refusal :=
  .next (request l ⟨Kind.unpack.code, tag, body⟩ s)

/-! ### Requests of the Returns link -/

/-- CART_IN (R152): its effect is `takeCartIn`. -/
def execCartIn (l : Link) (tag : Half) (body : List Byte) (s : State) : Host.Outcome State Fault Refusal :=
  .next (request l ⟨Kind.cartIn.code, tag, body⟩ s)

/-- VOL_IN (R155): its effect is `takeVolIn`. -/
def execVolIn (l : Link) (tag : Half) (body : List Byte) (s : State) : Host.Outcome State Fault Refusal :=
  .next (request l ⟨Kind.volIn.code, tag, body⟩ s)

/-- COPYSET_READ (R16): its effect is `takeCopysetRead`. -/
def execCopysetRead (l : Link) (tag : Half) (body : List Byte) (s : State) : Host.Outcome State Fault Refusal :=
  .next (request l ⟨Kind.copysetRead.code, tag, body⟩ s)

end Sys2Proof.Machine
end

