-- ==== Sys2Proof/Machine/Dispatch.lean ====
section
/-! DEFINITION. One arm per command: a direct call of its meaning. -/

namespace Sys2Proof.Machine

/-- What a command does to the part (everything but the queue of waiting commands). -/
def exec (i : Instr) (s : State) : Host.Outcome State Fault Refusal :=
  match i with
  | .status link tag body => Sys2Proof.Machine.execStatus link tag body s
  | .noticeAck link tag body => Sys2Proof.Machine.execNoticeAck link tag body s
  | .patronSet link tag body => Sys2Proof.Machine.execPatronSet link tag body s
  | .patronPause link tag body => Sys2Proof.Machine.execPatronPause link tag body s
  | .patronResume link tag body => Sys2Proof.Machine.execPatronResume link tag body s
  | .patronClose link tag body => Sys2Proof.Machine.execPatronClose link tag body s
  | .patronRead link tag body => Sys2Proof.Machine.execPatronRead link tag body s
  | .wishAdd link tag body => Sys2Proof.Machine.execWishAdd link tag body s
  | .wishDrop link tag body => Sys2Proof.Machine.execWishDrop link tag body s
  | .wishMove link tag body => Sys2Proof.Machine.execWishMove link tag body s
  | .wishRead link tag body => Sys2Proof.Machine.execWishRead link tag body s
  | .titleSet link tag body => Sys2Proof.Machine.execTitleSet link tag body s
  | .titleWithdraw link tag body => Sys2Proof.Machine.execTitleWithdraw link tag body s
  | .copysetAdd link tag body => Sys2Proof.Machine.execCopysetAdd link tag body s
  | .loanRead link tag body => Sys2Proof.Machine.execLoanRead link tag body s
  | .renew link tag body => Sys2Proof.Machine.execRenew link tag body s
  | .orderCancel link tag body => Sys2Proof.Machine.execOrderCancel link tag body s
  | .newDay link tag body => Sys2Proof.Machine.execNewDay link tag body s
  | .serviceSet link tag body => Sys2Proof.Machine.execServiceSet link tag body s
  | .storeClear link tag body => Sys2Proof.Machine.execStoreClear link tag body s
  | .cartEnrol link tag body => Sys2Proof.Machine.execCartEnrol link tag body s
  | .cartForget link tag body => Sys2Proof.Machine.execCartForget link tag body s
  | .poolSet link tag body => Sys2Proof.Machine.execPoolSet link tag body s
  | .bayOnline link tag body => Sys2Proof.Machine.execBayOnline link tag body s
  | .bayOffline link tag body => Sys2Proof.Machine.execBayOffline link tag body s
  | .bayRestore link tag body => Sys2Proof.Machine.execBayRestore link tag body s
  | .dupRestart link tag body => Sys2Proof.Machine.execDupRestart link tag body s
  | .work link tag body => Sys2Proof.Machine.execWork link tag body s
  | .writeDone link tag body => Sys2Proof.Machine.execWriteDone link tag body s
  | .wipeDone link tag body => Sys2Proof.Machine.execWipeDone link tag body s
  | .bayFault link tag body => Sys2Proof.Machine.execBayFault link tag body s
  | .bayRead link tag body => Sys2Proof.Machine.execBayRead link tag body s
  | .nextPull link tag body => Sys2Proof.Machine.execNextPull link tag body s
  | .pulled link tag body => Sys2Proof.Machine.execPulled link tag body s
  | .notFound link tag body => Sys2Proof.Machine.execNotFound link tag body s
  | .setFound link tag body => Sys2Proof.Machine.execSetFound link tag body s
  | .nextParcel link tag body => Sys2Proof.Machine.execNextParcel link tag body s
  | .packed link tag body => Sys2Proof.Machine.execPacked link tag body s
  | .unpack link tag body => Sys2Proof.Machine.execUnpack link tag body s
  | .cartIn link tag body => Sys2Proof.Machine.execCartIn link tag body s
  | .volIn link tag body => Sys2Proof.Machine.execVolIn link tag body s
  | .copysetRead link tag body => Sys2Proof.Machine.execCopysetRead link tag body s
  | .unknownKind link kind tag body => Sys2Proof.Machine.execUnknownKind link kind tag body s
  | .busy link kind tag body => Sys2Proof.Machine.execBusy link kind tag body s
  | .receiveError link chars => Sys2Proof.Machine.execReceiveError link chars s
  | .frameSent link => Sys2Proof.Machine.execFrameSent link s
  | .linkRestart link => Sys2Proof.Machine.execLinkRestart link s
  | .restartLine => Sys2Proof.Machine.execRestartLine s
  | .startUpScan => Sys2Proof.Machine.execStartUpScan s
  | .minuteEvent => Sys2Proof.Machine.execMinuteEvent s
  | .deadlineExpiry bay => Sys2Proof.Machine.execDeadlineExpiry bay s
  | .restExpiry bay => Sys2Proof.Machine.execRestExpiry bay s
  | .selectionPass => Sys2Proof.Machine.execSelectionPass s
  | .copySetOffer => Sys2Proof.Machine.execCopySetOffer s
  | .starvedClaim cls => Sys2Proof.Machine.execStarvedClaim cls s
  | .parcelBacklogServe => Sys2Proof.Machine.execParcelBacklogServe s
  | .frameSeparatingIdle link => Sys2Proof.Machine.execFrameSeparatingIdle link s

end Sys2Proof.Machine
end

