-- ==== Sys2Proof/Safety.lean ====
section
/-! DEFINITION. The terms claims are stated in: a port that is ready for a request and what an answer leaves at the ports; the
effects several statements share, written from the rules (a bad outcome, a freed job record, the parcels of a ready item, a
cancellation); and the invariants a safe run keeps: the canonical form of the record tables, the ranges of settings, bays,
counters and day, and the bookkeeping of the ports. The part has no stop: a step is safe when it answers a next state. -/

namespace Sys2Proof.Machine

/-- An outcome is safe when the part goes on. -/
def goesOn (o : Host.Outcome State Fault Refusal) : Prop :=
  ∃ t, o = .next t

/-! ### Requests and answers -/

/-- A port that takes the next good frame as its request in progress: the restart line released, between frames, and no
request in progress (R164, R168, R175). -/
structure Ready (l : Link) (s : State) : Prop where
  released : s.restartAsserted = false
  hunting : (s.port l).rx = .hunt
  free : (s.port l).inProgress = none

/-- The Selection Engine is not running a pass for a patron, so that a request which names the patron need not wait (R22). -/
def NoPassFor (n : Nat) (s : State) : Prop :=
  ∀ r, s.running = some r → r.patron ≠ n

/-- A port after a request of a kind code was answered and no notice was raised on it. -/
def Port.answered (p : Port) (tag : Half) (kind : Byte) (a : Answer) : Port :=
  { p with
    rx := .waitIdle true
    inProgress := some ⟨tag, kind⟩
    sendList := p.sendList ++ [.answer tag kind a] }

/-- The ports after a request was answered on a link and no notice was raised on any. -/
def State.answered (s : State) (l : Link) (tag : Half) (kind : Byte) (a : Answer) : PerLink Port :=
  s.ports.set l ((s.port l).answered tag kind a)

/-- A port that an event left alone but for notices: some kinds more may be pending, with NOTICE frames at the tail of the send
list. -/
structure Port.Noticed (p q : Port) : Prop where
  rx : q.rx = p.rx
  inProgress : q.inProgress = p.inProgress
  badFrames : q.badFrames = p.badFrames
  notices : ∀ n ∈ p.notices, n ∈ q.notices
  sendList : ∃ ns : List Notice, q.sendList = p.sendList ++ ns.map .notice

/-- The ports of a state after an event that raised notices and did nothing else to them. -/
def Noticed (p q : PerLink Port) : Prop :=
  ∀ l, (p.get l).Noticed (q.get l)

/-- A request on a link was answered: its answer first, then NOTICE frames only, and the other ports left alone but for
notices (R168, R170). -/
def Answered (s t : State) (l : Link) (tag : Half) (kind : Byte) (a : Answer) : Prop :=
  Noticed (s.answered l tag kind a) t.ports

/-- The state with one port as given and everything else as it is. -/
def State.withPort (s : State) (l : Link) (p : Port) : State :=
  { s with ports := s.ports.set l p }

/-- Field values that fit the widths they are sent at (section 10.7). -/
def Fits (widths vals : List Nat) : Prop :=
  List.Forall₂ (fun w v => v < 256 ^ w) widths vals

/-- The bytes that spell an image action (R12, section 10.7). -/
def ImageAction.bytes : ImageAction → List Byte
  | .keep => [0]
  | .set size revision => 1 :: writeFields [2, 1] [size, revision]
  | .remove => [2]

/-- The bytes that spell a braille action (R12, section 10.7). -/
def BrailleAction.bytes : BrailleAction → List Byte
  | .keep => [0]
  | .set ws => 1 :: ws.flatMap (leBytes 2)
  | .remove => [2]

/-- A test's kinds, where it holds. -/
def dueIf (b : Bool) (ns : List (Link × Notice)) : List (Link × Notice) :=
  if b then ns else []

/-- The kinds an event's conditions make pending, from the states before and after it: WORK-WAITING (R67, R86), PULL-WAITING
(R107), PARCEL-WAITING (R118, R125; log entry 30), and each class's POOL-LOW and POOL-CRITICAL (R75). -/
def dueNotices (s0 s : State) : List (Link × Notice) :=
  dueIf (workWaitingDue s0 s) [(.duplication, .workWaiting)]
    ++ dueIf (pullWaitingDue s0 s) [(.mailroom, .pullWaiting)]
    ++ dueIf (parcelWaitingDue s0 s) [(.mailroom, .parcelWaiting)]
    ++ allClasses.flatMap (fun c =>
        dueIf (!lowHolds s0 c && lowHolds s c) [(.duplication, .poolLow c)]
          ++ dueIf (!criticalHolds s0 c && criticalHolds s c) [(.order, .poolCritical c), (.duplication, .poolCritical c)])

/-- Kinds made pending one after another. -/
def raiseAll (ns : List (Link × Notice)) (s : State) : State :=
  ns.foldl (fun acc e => raise e.1 e.2 acc) s

/-- The state an event leaves: `s'` before its notices, then the kinds its rule raises and those its conditions make pending,
with a NOTICE frame for each kind that was not pending at its start, but where the 128 places of the port's send list are full
(R170, R171; log entries 10 and 34 for what takes a place). -/
def State.ended (s : State) (raised : List (Link × Notice)) (s' : State) : State :=
  noticeFrames s (raiseAll (raised ++ dueNotices s s') s')

/-- The state a request leaves: `s'` with its answer in the port's send list and no other change at the ports, then its
notices (R168 to R171). -/
def State.after (s : State) (l : Link) (tag : Half) (k : Kind) (a : Answer) (raised : List (Link × Notice)) (s' : State) :
    State :=
  s.ended raised { s' with ports := s.answered l tag k.code a }

/-- The state a request leaves that makes no kind pending: `s'` with its answer in the port's send list and no other change at
the ports (R168, R170). -/
def State.reply (s : State) (l : Link) (tag : Half) (k : Kind) (a : Answer) (s' : State) : State :=
  { s' with ports := s.answered l tag k.code a }

/-! ### Effects several statements share -/

/-- Every record table in its canonical form. -/
def State.tablesWf (s : State) : Bool :=
  s.patrons.wf && s.titles.wf && s.copySets.wf && s.carts.wf && s.jobs.wf && s.orders.wf && s.tasks.wf && s.parcels.wf
    && s.groups.wf && s.loans.wf

/-- The state once a write-job record was freed: the blocked lists of the marked classes released to the pass queue's tail in
class order, with none left to stay on them, and every mark cleared (R24, R51). -/
def State.jobRecordFreed (s : State) : State :=
  let marked := fun (c : Cls) => if s.marks.get c then s.blocked.get c else []
  let kept := fun (lists : PerClass (List Nat)) (c : Cls) => if s.marks.get c then [] else lists.get c
  { s with
    passQueue := (marked .c1 ++ marked .c2 ++ marked .c3).foldl appendNew s.passQueue
    blocked := ⟨kept s.blocked .c1, kept s.blocked .c2, kept s.blocked .c3⟩
    stays := ⟨kept s.stays .c1, kept s.stays .c2, kept s.stays .c3⟩
    marks := ⟨false, false, false⟩ }

/-- Whether a bay works: SERVICE or RESTING (R101). -/
def Bay.works (b : Bay) : Bool :=
  match b.condition with
  | .service _ _ _ _ => true
  | .resting _ => true
  | .offline => false
  | .failed => false

/-- A bad outcome counted at bay `n`, in SERVICE with record `b` and left with the last activity given: a strike for a QUALIFIED
bay without one, otherwise a rest while the day has room for it, otherwise FAILED, and HALTED with no bay left that works; with
the kinds that raises (R97, R98, R101). -/
def State.badAt (s : State) (n : Nat) (b : Bay) (last : Option LastActivity) : State × List (Link × Notice) :=
  let put := fun (c : Condition) (rests : Nat) =>
    { s with bays := s.bays.set n { condition := c, restsToday := rests, last := last } }
  match b.condition with
  | .service .qualified _ 0 _ => (put (.service .qualified 0 1 .idle) b.restsToday, [])
  | _ =>
    if b.restsToday < 2 then
      (put (.resting s.settings.restInterval) (b.restsToday + 1), [(.duplication, .bayResting)])
    else if s.standing = .halted ∨ (put .failed b.restsToday).bays.any Bay.works then
      (put .failed b.restsToday, [(.duplication, .bayFailed)])
    else
      ({ put .failed b.restsToday with standing := .halted },
        [(.duplication, .bayFailed), (.order, .dupHalted), (.duplication, .dupHalted)])

/-- A cartridge after a bad outcome of an activity on it: its fault count up by 1, on the UNWIPED tail below 3 and RETIRED at 3
(R69). -/
def State.cartFaulted (s : State) (serial : Nat) (r : Cart) : State :=
  if r.faults < 2 then
    { s with
      carts := s.carts.put serial { r with faults := r.faults + 1, state := .unwiped }
      unwiped := s.unwiped ++ [serial] }
  else { s with carts := s.carts.put serial { r with faults := 3, state := .retired } }

/-- Entries put back into a wish list as one block, as many as its 64 places take, at the heads of their bands (R40). -/
def entriesBack (back wishes : List WishEntry) : List WishEntry :=
  let taken := back.take (64 - wishes.length)
  let inBand := fun (b : Band) (l : List WishEntry) => l.filter (fun w => w.band == b)
  inBand .urgent taken ++ inBand .urgent wishes ++ inBand .normal taken ++ inBand .normal wishes

/-- Whether a parcel in the dispatch queue belongs to a group of a band. -/
def inBandOf (s : State) (b : Band) (n : Nat) : Prop :=
  ∃ p g, s.parcels.get n = some p ∧ s.groups.get p.group = some g ∧ g.band = b

/-- The dispatch queue of a state parted at the tail of a band: the URGENT parcels stand ahead of the NORMAL ones (R125). -/
structure TailOf (s : State) (b : Band) (front back : List Nat) : Prop where
  parts : s.dispatchQueue = front ++ back
  normal : b = .normal → back = []
  urgent : b = .urgent → (∀ m ∈ front, inBandOf s .urgent m) ∧ ∀ m ∈ back.head?, ¬ inBandOf s .urgent m

/-- Parcels that joined the dispatch queue of a state at the tail of a band (R125). -/
def JoinedAtTail (s : State) (b : Band) (ps queue : List Nat) : Prop :=
  ∃ front back, TailOf s b front back ∧ queue = front ++ ps ++ back

/-- Parcels made for an item of order `o` in group `g`, which holds the parcels `old` already: they take the next parcel
numbers and stand behind the old ones; where the group is released all of its parcels are READY and join the dispatch queue,
and otherwise the new ones are FORMING (R114, R117, R118). A new group has no old parcels and takes the next group number. -/
structure Parcelled (s t : State) (o g : Nat) (old : List Nat) (band : Band) (contents : List Contents) (released : Prop) :
    Prop where
  group : t.groups = s.groups.put g
    { band := band, parcels := old ++ List.range' s.counters.parcel contents.length, begun := false }
  counters : t.counters = { s.counters with
    parcel := s.counters.parcel + contents.length
    group := t.counters.group }
  groupNumber : t.counters.group = if old = [] then g + 1 else s.counters.group
  fresh : ∀ k c, contents[k]? = some c → ∃ st, (released → st = .ready) ∧ (¬ released → st = .forming)
    ∧ t.parcels.get (s.counters.parcel + k) = some { order := o, group := g, contents := c, state := st }
  others : ∀ m, m ∉ List.range' s.counters.parcel contents.length →
    (released → m ∈ old → t.parcels.get m = (s.parcels.get m).map (fun p => { p with state := .ready }))
      ∧ (¬ released ∨ m ∉ old → t.parcels.get m = s.parcels.get m)
  waits : ¬ released → t.dispatchQueue = s.dispatchQueue
  joins : released → JoinedAtTail s band (old ++ List.range' s.counters.parcel contents.length) t.dispatchQueue

/-- The state has room for new parcels and, where it is new, for their group: the record and its numbers are free, no wrap of a
counter is near, and the dispatch queue names live parcels of live groups only. -/
structure ParcelRoom (s : State) (count : Nat) : Prop where
  records : s.parcels.length + count ≤ 16384
  numbers : s.counters.parcel + count ≤ 16777215
  parcelsFree : ∀ k, k < count → s.parcels.get (s.counters.parcel + k) = none
  groupNumber : s.counters.group < 16777215
  groupFree : s.groups.get s.counters.group = none
  queueLive : ∀ m ∈ s.dispatchQueue, ∃ p, s.parcels.get m = some p ∧ s.groups.get p.group ≠ none

/-- An item of order `o` that becomes ready with an empty backlog behind it: undispatched, the only one at its place and of its
object, with no parcel that holds the object, in an order whose groups hold its parcels only (R105, R113). -/
structure NewlyReady (s : State) (o : Nat) (r : Order) (i : Item) (obj : ItemObject) : Prop where
  backlog : backlog s = []
  orders : s.orders.wf = true
  undispatched : i.dispatched = false
  places : r.items.Pairwise (fun a b => a.place ≠ b.place)
  objects : r.items.Pairwise (fun a b => a.object ≠ b.object)
  alone : ∀ x ∈ r.items, x.place ≠ i.place → x.object ≠ obj
  unparcelled : ∀ e ∈ s.parcels, e.2.order = o → e.2.contents.holds obj = false
  linked : ∀ e ∈ s.parcels, e.2.order = o → ∀ rg, s.groups.get e.2.group = some rg →
    ∀ m ∈ rg.parcels, ∃ p, s.parcels.get m = some p ∧ p.order = o

/-- Whether every other item that remains in an order is ready and has its parcels, or is dispatched (R118). -/
def othersParcelled (s : State) (o : Nat) (r : Order) (i : Item) : Prop :=
  ∀ x ∈ r.items, x.place ≠ i.place → x.dispatched = true
    ∨ (x.ready = true ∧ ∃ e ∈ s.parcels, e.2.order = o ∧ e.2.contents.holds x.object = true)

/-- The live group of an order, and its record: the group of all of the order's parcels, not begun (R117). -/
structure LiveGroup (s : State) (o g : Nat) (rg : DispatchGroup) : Prop where
  all : ∀ e ∈ s.parcels, e.2.order = o → e.2.group = g
  some : ∃ e ∈ s.parcels, e.2.order = o
  record : s.groups.get g = Option.some rg
  waiting : rg.begun = false
  parcels : rg.parcels ≠ []

/-- A FORMING parcel of an order that holds cartridges, fewer than 4 (R115). -/
def roomToJoin (s : State) (o : Nat) : Prop :=
  ∃ m p serials, s.parcels.get m = some p ∧ p.order = o ∧ p.state = .forming ∧ p.contents = .cartridges serials
    ∧ serials.length < 4

/-- What the parcels of a newly ready item that joins no parcel become, with their contents given: none where the records free
are too few; for an AS-READY order a group of its own band, released at once; for a TOGETHER order a new group of the order's
band, or the live one, released where every other item has its parcels (R113, R115, R117, R118). -/
def ParcelsMade (s t : State) (o : Nat) (r : Order) (i : Item) (contents : List Contents) : Prop :=
  (16384 < s.parcels.length + contents.length →
    t.parcels = s.parcels ∧ t.groups = s.groups ∧ t.counters = s.counters ∧ t.dispatchQueue = s.dispatchQueue)
  ∧ (r.mode = .asReady → ParcelRoom s contents.length → Parcelled s t o s.counters.group [] i.band contents True)
  ∧ (r.mode = .together → (∀ e ∈ s.parcels, e.2.order ≠ o) → ParcelRoom s contents.length →
      Parcelled s t o s.counters.group [] r.band contents (othersParcelled s o r i))
  ∧ ∀ g rg, r.mode = .together → LiveGroup s o g rg → ParcelRoom s contents.length →
      Parcelled s t o g rg.parcels rg.band contents (othersParcelled s o r i)

/-! ### The end of an event: groups released and the backlog served -/

/-- Whether a parcel of order `o` holds an item's object. -/
def hasParcel (s : State) (o : Nat) (i : Item) : Prop :=
  ∃ e ∈ s.parcels, e.2.order = o ∧ e.2.contents.holds i.object = true

/-- Nothing is to be released for an order: it is AS-READY, an item that remains undispatched is not ready or has no parcels, or
no parcel of it is FORMING (R112, R118). -/
def groupWaits (s : State) (o : Nat) (r : Order) : Prop :=
  r.mode = .asReady ∨ (∃ i ∈ r.items, i.dispatched = false ∧ (i.ready = false ∨ ¬ hasParcel s o i))
    ∨ ∀ e ∈ s.parcels, e.2.order = o → e.2.state ≠ .forming

/-- The group of a TOGETHER order is due for release: every item that remains, not counting dispatched ones, is ready and has
its parcels, and one of the group's parcels is FORMING (R118). -/
structure GroupDue (s : State) (o g : Nat) (r : Order) (rg : DispatchGroup) : Prop where
  order : s.orders.get o = some r
  mode : r.mode = .together
  group : LiveGroup s o g rg
  parcelled : ∀ i ∈ r.items, i.dispatched = true ∨ (i.ready = true ∧ hasParcel s o i)
  forming : ∃ e ∈ s.parcels, e.2.order = o ∧ e.2.state = .forming

/-- The state once a group was released: its parcels READY together, and adjacent in the dispatch queue between the parts given
(R118, R125). -/
def State.groupReleased (s : State) (ps front back : List Nat) : State :=
  { s with
    parcels := s.parcels.map (fun e => if e.1 ∈ ps then (e.1, { e.2 with state := .ready }) else e)
    dispatchQueue := front ++ ps ++ back }

/-- What the end of an event leaves of a state for order `o`: its group released to the tail of its band where that is due, and
otherwise the state as it is, as for an order that is no longer live (R112, R118). -/
def GroupSettled (s : State) (o : Nat) (t : State) : Prop :=
  ((∀ r, s.orders.get o = some r → groupWaits s o r) ∧ t = s)
    ∨ ∃ g r rg front back, GroupDue s o g r rg ∧ TailOf s rg.band front back ∧ t = s.groupReleased rg.parcels front back

/-- The contents of an item's parcels where each is new: a cartridge in one of its own, a set's volumes by next-fit (R114,
R115). -/
def State.parcelContents (s : State) : ItemObject → List Contents
  | .cart serial => [.cartridges [serial]]
  | .copySet k =>
    match (s.copySets.get k).bind (fun c => s.titles.get c.title) with
    | some ti => (packVolumes (ti.braille.getD [])).map (.volumes k)
    | none => []
  | .job _ => []

/-- The state with new parcels of order `o` behind the parcels `old` of group `g`, which is a new one where it has none. They take
the next parcel numbers (R2, R117). -/
def State.withParcels (s : State) (o g : Nat) (old : List Nat) (band : Band) (contents : List Contents) (st : ParcelState) :
    State :=
  let new := List.range' s.counters.parcel contents.length
  { s with
    groups := s.groups.put g { band := band, parcels := old ++ new, begun := false }
    parcels := (new.zip contents).foldl
      (fun tb e => tb.put e.1 { order := o, group := g, contents := e.2, state := st }) s.parcels
    counters := { s.counters with
      parcel := s.counters.parcel + contents.length
      group := if old = [] then g + 1 else s.counters.group } }

/-- Whether parcel `m` is FORMING, of cartridges, and holds fewer than 4 (R115). -/
def hasRoom (s : State) (m : Nat) : Prop :=
  ∃ p serials, s.parcels.get m = some p ∧ p.state = .forming ∧ p.contents = .cartridges serials ∧ serials.length < 4

/-- The group that a TOGETHER order's next parcel belongs to, with its parcels so far and its band: the live one, or a new one of
the order's band (R117). -/
def NextGroup (s : State) (o : Nat) (r : Order) (g : Nat) (old : List Nat) (band : Band) : Prop :=
  ((∀ e ∈ s.parcels, e.2.order ≠ o) ∧ g = s.counters.group ∧ old = [] ∧ band = r.band)
    ∨ ∃ rg, LiveGroup s o g rg ∧ old = rg.parcels ∧ band = rg.band

/-- A TOGETHER order's item needs parcels of its own: it is a set, or none of the parcels of the order's group has room for its
cartridge (R115). -/
def needsNew (s : State) (old : List Nat) (i : Item) : Prop :=
  ∀ serial, i.object = .cart serial → ∀ m ∈ old, ¬ hasRoom s m

/-- What making the parcels of item `i` of order `o` whole leaves of a state (R113 to R115, R117). -/
inductive ItemParcelled (s : State) (o : Nat) (r : Order) (i : Item) : State → Prop
  /-- AS-READY: a group of the item's own, of its band, released at once. -/
  | asReady (front back : List Nat) : r.mode = .asReady → s.parcelContents i.object ≠ [] →
      ParcelRoom s (s.parcelContents i.object).length → TailOf s i.band front back →
      ItemParcelled s o r i
        { s.withParcels o s.counters.group [] i.band (s.parcelContents i.object) .ready with
          dispatchQueue := front ++ List.range' s.counters.parcel (s.parcelContents i.object).length ++ back }
  /-- TOGETHER: new FORMING parcels in the order's group. -/
  | together (g : Nat) (old : List Nat) (band : Band) : r.mode = .together → s.parcelContents i.object ≠ [] →
      NextGroup s o r g old band → needsNew s old i → ParcelRoom s (s.parcelContents i.object).length →
      ItemParcelled s o r i (s.withParcels o g old band (s.parcelContents i.object) .forming)
  /-- TOGETHER: a cartridge joins the first FORMING parcel with room, at its place by item order. -/
  | joins (g serial m : Nat) (rg : DispatchGroup) (before after front back : List Nat) (p : Parcel) :
      r.mode = .together → i.object = .cart serial → s.parcels.length ≤ 16384 → LiveGroup s o g rg →
      rg.parcels = before ++ m :: after → (∀ k ∈ before, ¬ hasRoom s k) → s.parcels.get m = some p → p.order = o →
      p.state = .forming → p.contents = .cartridges (front ++ back) → (front ++ back).length < 4 →
      r.items.Pairwise (fun a b => a.object ≠ b.object) → i ∈ r.items →
      (∀ c ∈ front, ∃ x ∈ r.items, x.object = .cart c ∧ x.place < i.place) →
      (∀ c ∈ back, ∃ x ∈ r.items, x.object = .cart c ∧ i.place < x.place) →
      ItemParcelled s o r i
        { s with parcels := s.parcels.put m { p with contents := .cartridges (front ++ serial :: back) } }

/-- Parcels made for a list of waiting items from its head, and the items left: all are made, or serving stops at the first that
cannot be made whole with the records free (R113). -/
inductive Served : List (Nat × Nat) → List (Nat × Nat) → State → State → Prop
  /-- No item is left to serve. -/
  | done (s : State) : Served [] [] s s
  /-- The first item needs more records than are free. -/
  | stops (s : State) (o p : Nat) (rest : List (Nat × Nat)) (r : Order) (i : Item) :
      s.orders.get o = some r → r.items.find? (fun x => x.place == p) = some i → s.parcelContents i.object ≠ [] →
      (r.mode = .together → ∃ g old band, NextGroup s o r g old band ∧ needsNew s old i) →
      16384 < s.parcels.length + (s.parcelContents i.object).length →
      Served ((o, p) :: rest) ((o, p) :: rest) s s
  /-- The first item's parcels are made, and the rest are served. -/
  | makes (s u t : State) (o p : Nat) (rest left : List (Nat × Nat)) (r : Order) (i : Item) :
      s.orders.get o = some r → r.items.find? (fun x => x.place == p) = some i → ItemParcelled s o r i u →
      Served rest left u t → Served ((o, p) :: rest) left s t

/-- The groups of some items' orders settled one after another (R118; log entry 13). -/
inductive GroupsSettled : List (Nat × Nat) → State → State → Prop
  /-- No order is left. -/
  | done (s : State) : GroupsSettled [] s s
  /-- The first order's group is settled, and then the rest. -/
  | settles (s u t : State) (o p : Nat) (rest : List (Nat × Nat)) :
      GroupSettled s o u → GroupsSettled rest u t → GroupsSettled ((o, p) :: rest) s t

/-- What serving its parcel backlog leaves of a state (R113, R118; log entry 13). -/
def BacklogServed (s t : State) : Prop :=
  ∃ left u, Served (backlog s) left s u ∧ GroupsSettled (backlog s) u t

/-- Whether one waiting item is served before another: items of URGENT orders first, then by order number, then by item order
within the order (R113). -/
def servedBefore (s : State) (a b : Nat × Nat) : Prop :=
  ∃ r r', s.orders.get a.1 = some r ∧ s.orders.get b.1 = some r'
    ∧ (r.band = .urgent ∧ r'.band = .normal
      ∨ r.band = r'.band ∧ (a.1 < b.1
        ∨ a.1 = b.1 ∧ (r.items.map Item.place).idxOf a.2 < (r.items.map Item.place).idxOf b.2))

/-! ### The loans of a group -/

/-- The undispatched items of order `o` whose parcels group `g` holds, in item order (R131). -/
def lentItems (s : State) (o g : Nat) (r : Order) : List Item :=
  r.items.filter (fun i => !i.dispatched
    && s.parcels.any (fun e => e.2.order == o && e.2.group == g && e.2.contents.holds i.object))

/-- The loan an item becomes, OUT at its kind's term (R131). -/
def State.loanMade (s : State) (patron : Nat) (i : Item) : Option Loan :=
  match i.object with
  | .cart serial => some
      { patron := patron, object := .cartridge serial (i.entries.map (fun w => w.title))
        term := s.settings.cartTerm, daysLeft := s.settings.cartTerm, renewals := 0, state := .out }
  | .copySet set => some
      { patron := patron, object := .copySet set, term := s.settings.brailleTerm
        daysLeft := s.settings.brailleTerm, renewals := 0, state := .out }
  | .job _ => none

/-- What creating the loans of group `g`, with record `rg`, of order `o`, with record `r`, leaves of a state in which its parcels
are DISPATCHED: one loan for each item, in item order and with the next numbers; the cartridges and sets ON-LOAN; the items
dispatched, and the order freed where nothing undispatched remains; parcels and group freed, and the tally up by the parcels
(R131, R132). -/
structure GroupLent (s t : State) (o g : Nat) (r : Order) (rg : DispatchGroup) : Prop where
  loans : ∀ k i, (lentItems s o g r)[k]? = some i → t.loans.get (s.counters.loan + k) = s.loanMade r.patron i
  otherLoans : ∀ m, m < s.counters.loan ∨ s.counters.loan + (lentItems s o g r).length ≤ m → t.loans.get m = s.loans.get m
  carts : ∀ serial, t.carts.get serial =
    match (lentItems s o g r).findIdx? (fun i => i.object == .cart serial) with
    | some k => (s.carts.get serial).map (fun c => { c with state := .onLoan (s.counters.loan + k) })
    | none => s.carts.get serial
  copySets : ∀ set, t.copySets.get set =
    match (lentItems s o g r).findIdx? (fun i => i.object == .copySet set) with
    | some k => (s.copySets.get set).map (fun c => { c with state := .onLoan (s.counters.loan + k) })
    | none => s.copySets.get set
  orders : t.orders = if ∀ i ∈ r.items, i.dispatched = true ∨ i ∈ lentItems s o g r then s.orders.del o
    else s.orders.put o { r with items := r.items.map (fun i =>
      if i ∈ lentItems s o g r then { i with dispatched := true, entries := [] } else i) }
  others : t = { s with
    loans := t.loans, carts := t.carts, copySets := t.copySets, orders := t.orders
    parcels := s.parcels.filter (fun e => e.1 ∉ rg.parcels)
    groups := s.groups.del g
    tally := s.tally + rg.parcels.length
    counters := { s.counters with loan := s.counters.loan + (lentItems s o g r).length } }

/-- The next loan numbers are free for so many loans, and no wrap of their counter is near (R2). -/
def loanRoom (s : State) (count : Nat) : Prop :=
  (∀ k, k < count → s.loans.get (s.counters.loan + k) = none) ∧ s.counters.loan + count ≤ 16777215

/-! ### The closing of a loan at check-in -/

/-- Whether a patron has a loan besides loan `n` that is overdue by suspend-after (R142). -/
def lateBesides (s : State) (n patron : Nat) : Bool :=
  s.loans.any (fun e => e.1 != n && e.2.patron == patron && (match e.2.state with
    | .overdue d => decide (s.settings.suspendAfter ≤ d)
    | _ => false))

/-- A patron's state after a suspension check, by whether it has a loan overdue by suspend-after (R142): ACTIVE and SUSPENDED
follow it; PAUSED and CLOSING stay. -/
def PatronState.checked (late : Bool) : PatronState → PatronState
  | .active => if late then .suspended else .active
  | .suspended => if late then .suspended else .active
  | .paused d => .paused d
  | .closing => .closing

/-- The state of a patron with record `p` once its loan `n`, with record `l`, no longer counts as overdue: checked for a loan that
was OVERDUE, and otherwise as it was (R151 step 5, R156). -/
def State.rechecked (s : State) (n : Nat) (l : Loan) (p : Patron) : PatronState :=
  match l.state with
  | .overdue _ => p.state.checked (lateBesides s n l.patron)
  | _ => p.state

/-- The kind that entering SUSPENDED makes pending (R27, R142). -/
def suspendedKinds (was now : PatronState) : List (Link × Notice) :=
  dueIf (was != .suspended && now == .suspended) [(.order, .patronSuspended)]

/-- The state once loan `n`, with record `l`, of a patron with record `p` closed at check-in (R151): the loan freed, H and the total
of held units down by 1; a patron that is not CLOSING appended to the pass queue and rechecked, and a CLOSING one with no unit
left freed. -/
def State.checkedIn (s : State) (n : Nat) (l : Loan) (p : Patron) : State :=
  { s with
    loans := s.loans.del n
    heldTotal := s.heldTotal - 1
    patrons := if p.state = .closing ∧ p.held ≤ 1 then s.patrons.del l.patron
      else s.patrons.put l.patron { p with held := p.held - 1, state := s.rechecked n l p }
    passQueue := if p.state = .closing ∨ l.patron ∈ s.passQueue then s.passQueue else s.passQueue ++ [l.patron] }

/-! ### Entries that a pass skips -/

/-- A wish that a pass which has placed nothing yet skips for no class: no order record is free, its title is withdrawn or lacks
its format, or it is a BRAILLE wish with no pull-task record free or no set of its title AVAILABLE (R54, R55, R57). -/
def SkippedAlone (s : State) (w : WishEntry) : Prop :=
  8192 ≤ s.orders.length
    ∨ ∃ ti, s.titles.get w.title = some ti ∧ (ti.withdrawn = true
      ∨ (w.format = .cartridge ∧ ti.image = none)
      ∨ (w.format = .braille ∧ (ti.braille = none ∨ 4096 ≤ s.tasks.length
        ∨ ∀ k ∈ ti.copySets, ∀ c, s.copySets.get k = some c → c.title = w.title → c.state ≠ .available)))

/-! ### Cancellation -/

/-- The items of order `o` that a cancellation takes: the undispatched ones no parcel of which is PACKING or DISPATCHED
(R120). -/
def Order.taken (s : State) (o : Nat) (r : Order) : List Item :=
  r.items.filter (fun i => !i.dispatched && s.parcels.all (fun e =>
    !(e.2.order == o && e.2.contents.holds i.object) || (e.2.state != .packing && e.2.state != .dispatched)))

/-- The items a cancellation of order `o` takes; none where the order is not live. -/
def goneOf (s : State) (o : Nat) : List Item :=
  match s.orders.get o with
  | some r => r.taken s o
  | none => []

/-- The items a cancellation of some orders takes, in the order it acts on them. -/
def goneItems (s : State) (os : List Nat) : List Item :=
  os.flatMap (goneOf s)

/-- The undispatched items of order `o` that a cancellation leaves. -/
def keptOf (s : State) (o : Nat) : List Item :=
  match s.orders.get o with
  | some r => r.items.filter (fun i => !i.dispatched && decide (i ∉ r.taken s o))
  | none => []

/-- A parcel's contents without cancelled objects; none where nothing is left of them (R120). -/
def Contents.without (gone : List ItemObject) : Contents → Option Contents
  | .cartridges serials =>
    let left := serials.filter (fun c => .cart c ∉ gone)
    if left = [] ∧ serials ≠ [] then none else some (.cartridges left)
  | .volumes set vols => if .copySet set ∈ gone then none else some (.volumes set vols)

/-- What a cancellation of orders leaves of a parcel's contents: a parcel of another order keeps them. -/
def leftOf (s : State) (os : List Nat) (p : Parcel) : Option Contents :=
  if p.order ∈ os then p.contents.without ((goneOf s p.order).map Item.object) else some p.contents

/-- Whether a cancellation removes parcel `m`. -/
def removes (s : State) (os : List Nat) (m : Nat) : Bool :=
  match s.parcels.get m with
  | some p => (leftOf s os p).isNone
  | none => false

/-- The begun groups that a cancellation of orders leaves with DISPATCHED parcels alone, so that their loans are created at its
end (R121, R131, R133): groups of these orders that keep a parcel, and none that is not DISPATCHED. -/
def lastSent (s : State) (os : List Nat) : List Nat :=
  s.groups.select (fun _ g =>
    let left := g.parcels.filter (fun m => !removes s os m)
    g.begun && left.any (fun m => (s.parcels.get m).any (fun p => decide (p.order ∈ os)))
      && left.all (fun m => (s.parcels.get m).map Parcel.state == some .dispatched))

/-- Whether a cancellation releases the group of order `o`: TOGETHER, every item that remains dispatched, or ready with its
parcels, and a FORMING parcel left (R118, R121). -/
def releases (s : State) (o : Nat) : Bool :=
  match s.orders.get o with
  | some r => r.mode == .together
      && (keptOf s o).all (fun i => i.ready && s.parcels.any (fun e => e.2.order == o && e.2.contents.holds i.object))
      && s.parcels.any (fun e => e.2.order == o && e.2.state == .forming && (leftOf s [o] e.2).isSome)
  | none => false

/-- The jobs of some items in a state, with their records. -/
def jobsOf (s : State) (items : List Item) (st : JobState) : List (Nat × Job) :=
  items.filterMap (fun i =>
    match i.object with
    | .job k => match s.jobs.get k with
      | some j => if j.state = st then some (k, j) else none
      | none => none
    | _ => none)

/-- The jobs of the items a cancellation of some orders takes. -/
def goneJobs (s : State) (os : List Nat) (st : JobState) : List (Nat × Job) :=
  jobsOf s (goneItems s os) st

/-- Whether the cancellation of some items frees a write-job record (R51). -/
def freesJob (s : State) (items : List Item) : Bool :=
  !(jobsOf s items .queued).isEmpty || !(jobsOf s items .starved).isEmpty

/-- A class's reserved count after the cancellation of some items: less the reservations of their QUEUED jobs (R72, R120). -/
def reservedAfter (s : State) (items : List Item) (c : Cls) : Nat :=
  s.reserved.get c - countOf (fun e => e.2.cls == c) (jobsOf s items .queued)

/-- Whether the cancellation of `items`, after that of `done`, releases a class's blocked list: its free blanks come to stand
above the critical level, or a write-job record is freed while the class's mark is set, which the first one freed clears
(R50, R51). -/
def releasesList (s : State) (done items : List Item) (c : Cls) : Bool :=
  ((s.blank.get c).length - reservedAfter s done c ≤ s.settings.critical.get c
      && s.settings.critical.get c < (s.blank.get c).length - reservedAfter s (done ++ items) c)
    || (freesJob s items && !freesJob s done && s.marks.get c)

/-- The patrons of the lists that the cancellation of some items releases, after that of `done`: item by item, in class order
at each (R50, R120). -/
def releasedBy (s : State) : List Item → List Item → List Nat
  | _, [] => []
  | done, i :: items =>
    [Cls.c1, .c2, .c3].flatMap (fun c => if releasesList s done [i] c then s.blocked.get c else [])
      ++ releasedBy s (done ++ [i]) items

/-- The patrons that a cancellation of orders sends to the pass queue, after that of `done`: for each order those that its items
release, and then, with restore, the order's patron (R121). -/
def joinersOf (s : State) (n : Nat) (restore : Bool) : List Item → List Nat → List Nat
  | _, [] => []
  | done, o :: os =>
    releasedBy s done (goneOf s o) ++ (if restore then [n] else []) ++ joinersOf s n restore (done ++ goneOf s o) os

/-- The pass queue after a cancellation of patron `n`'s orders. -/
def passAfter (s : State) (n : Nat) (restore : Bool) (os : List Nat) : List Nat :=
  (joinersOf s n restore [] os).foldl appendNew s.passQueue

/-- A blocked list after a cancellation of orders: empty where any of the items cancelled releases it. -/
def blockedAfter (s : State) (os : List Nat) (c : Cls) : List Nat :=
  if releasesList s [] (goneItems s os) c then [] else s.blocked.get c

/-- Those who stay on a blocked list, after a cancellation of orders: none on a list that it releases (R24). -/
def staysAfter (s : State) (os : List Nat) (c : Cls) : List Nat :=
  if releasesList s [] (goneItems s os) c then [] else s.stays.get c

/-- The sets of cancelled items whose title's waiting list is not empty, which join the pending offers (R45, R120). -/
def offeredSets (s : State) (os : List Nat) : List Nat :=
  (goneItems s os).filterMap (fun i =>
    match i.object with
    | .copySet k => match (s.copySets.get k).bind (fun c => s.titles.get c.title) with
      | some ti => if ti.waiting = [] then none else some k
      | none => none
    | _ => none)

/-- The records about some orders of a patron as the part keeps them: numbers, places, objects, sets in tasks and serials in
parcels stand once, a parcel is in its group and a group's parcels are one order's, and no starved job waits for a blank that the
cancellation gives back. -/
structure CancelReady (s : State) (n : Nat) (os : List Nat) : Prop where
  tables : s.tablesWf = true
  held : ∃ p, s.patrons.get n = some p ∧ (goneItems s os).length ≤ p.held
  orders : os.Nodup ∧ ∀ o ∈ os, ∃ r, s.orders.get o = some r ∧ r.patron = n ∧ r.items.Pairwise (fun a b => a.place ≠ b.place)
  objects : ∀ o ∈ os, ∀ r, s.orders.get o = some r → ∀ i ∈ r.items, i.dispatched = false →
    ∀ o' ∈ os, ∀ r', s.orders.get o' = some r' → ∀ i' ∈ r'.items, i'.dispatched = false → i.object = i'.object →
      o = o' ∧ i.place = i'.place
  tasks : s.tasks.Pairwise (fun a b => a.2.copySet ≠ b.2.copySet)
  serials : ∀ e ∈ s.parcels, ∀ cs, e.2.contents = .cartridges cs → cs.Nodup
  queue : s.dispatchQueue.Nodup
  inGroup : ∀ e ∈ s.parcels, e.2.order ∈ os → ∃ g, s.groups.get e.2.group = some g ∧ e.1 ∈ g.parcels
  groups : ∀ e ∈ s.groups, e.2.parcels.Nodup ∧ ∀ m ∈ e.2.parcels, ∃ p, s.parcels.get m = some p ∧ p.group = e.1
  oneOrder : ∀ e ∈ s.parcels, ∀ e' ∈ s.parcels, e.2.group = e'.2.group → e.2.order = e'.2.order
  oneGroup : ∀ o ∈ os, ∀ r, s.orders.get o = some r → r.mode = .together →
    ∀ e ∈ s.parcels, ∀ e' ∈ s.parcels, e.2.order = o → e'.2.order = o → e.2.group = e'.2.group
  noClaim : ∀ c, s.starved.get c = [] ∨ ∀ e ∈ goneJobs s os .queued, e.2.cls ≠ c

/-- What a cancellation of orders does, before the backlog is served, to the records of jobs, cartridges, sets, tasks, parcels,
groups and orders, and to the collections they stand in (R120, R121, R133); what it leaves as it was. The patron, the titles, the pending offers and the
Selection Engine's lists are not in it. -/
structure Cancelled (s t : State) (os : List Nat) : Prop where
  orders : ∀ o, t.orders.get o = if o ∈ os then
      (s.orders.get o).bind (fun r =>
        let left := r.items.filter (fun i => i ∉ r.taken s o)
        if left.all Item.dispatched then none else some { r with items := left })
    else s.orders.get o
  jobs : ∀ k, t.jobs.get k = (s.jobs.get k).bind (fun j =>
    if .job k ∈ (goneItems s os).map Item.object then
      match j.state with
      | .queued => none
      | .starved => none
      | .assigned bay serial => some { j with state := .cancelPending bay serial }
      | .cancelPending _ _ => some j
    else some j)
  jobQueue : t.jobQueue = s.jobQueue.diff ((goneJobs s os .queued).map Prod.fst)
  starved : ∀ c, t.starved.get c =
    (s.starved.get c).diff (((goneJobs s os .starved).filter (fun e => e.2.cls == c)).map Prod.fst)
  reserved : ∀ c, t.reserved.get c = reservedAfter s (goneItems s os) c
  carts : ∀ serial, t.carts.get serial =
    if .cart serial ∈ (goneItems s os).map Item.object then (s.carts.get serial).map (fun r => { r with state := .unwiped })
    else s.carts.get serial
  unwiped : t.unwiped = s.unwiped ++ (goneItems s os).filterMap (fun i =>
    match i.object with
    | .cart serial => if (s.carts.get serial).isSome then some serial else none
    | _ => none)
  copySets : ∀ k, t.copySets.get k =
    if .copySet k ∈ (goneItems s os).map Item.object then (s.copySets.get k).map (fun c => { c with state := .available })
    else s.copySets.get k
  tasks : ∀ k, t.tasks.get k = (s.tasks.get k).bind (fun x =>
    if .copySet x.copySet ∈ (goneItems s os).map Item.object then none else some x)
  pullQueue : t.pullQueue = s.pullQueue.diff ((goneItems s os).filterMap (fun i =>
    (s.tasks.find? (fun e => i.object == .copySet e.2.copySet)).map Prod.fst))
  parcels : ∀ m, t.parcels.get m = (s.parcels.get m).bind (fun p => (leftOf s os p).map (fun c =>
    { p with contents := c, state := if p.order ∈ os ∧ releases s p.order then .ready else p.state }))
  groups : ∀ g, t.groups.get g = (s.groups.get g).bind (fun r =>
    let left := r.parcels.filter (fun m => !removes s os m)
    if left = [] ∧ r.parcels ≠ [] then none else some { r with parcels := left })
  notReleased : (∀ o ∈ os, releases s o = false) → t.dispatchQueue = s.dispatchQueue.filter (fun m => !removes s os m)
  released : ∀ o g r, os = [o] → releases s o = true → (∀ e ∈ s.parcels, e.2.order = o → e.2.group = g) →
    s.groups.get g = some r →
    JoinedAtTail { s with dispatchQueue := s.dispatchQueue.filter (fun m => !removes s os m) } r.band
      (r.parcels.filter (fun m => !removes s os m)) t.dispatchQueue
  reservedCap : t.reservedCap = s.reservedCap - countOf (fun e => e.2.state == .ready && removes s os e.1
    && ((s.groups.get e.2.group).map DispatchGroup.begun == some true)) s.parcels
  heldTotal : t.heldTotal = s.heldTotal - (goneItems s os).length
  marks : t.marks = if freesJob s (goneItems s os) then ⟨false, false, false⟩ else s.marks
  others : t.loans = s.loans ∧ t.counters = s.counters ∧ t.blank = s.blank ∧ t.settings = s.settings ∧ t.day = s.day
    ∧ t.dayOpen = s.dayOpen ∧ t.tally = s.tally ∧ t.bays = s.bays ∧ t.standing = s.standing ∧ t.offer = s.offer
    ∧ t.running = s.running ∧ t.todayCount = s.todayCount ∧ t.pending = s.pending

/-! ### What a safe run keeps -/

/-- A number within a range. -/
def within (lo hi v : Nat) : Bool :=
  lo ≤ v && v ≤ hi

/-- Every setting within its range (section 1.6). -/
def Settings.inRange (g : Settings) : Bool :=
  within 7 120 g.cartTerm && within 7 120 g.brailleTerm && g.renewalMax ≤ 4 && within 1 120 g.suspendAfter
    && within (g.suspendAfter + 1) 255 g.lostAfter && within 1 60 g.partialGrace && within 1 4000 g.limitNext
    && within 1 4000 g.limitInForce && within 5 240 g.writeDeadline && within 2 120 g.wipeDeadline
    && within 1 240 g.restInterval && within 50 2000 g.wearLimit
    && allClasses.all (fun c => within 1 1000 (g.warn.get c) && g.critical.get c < g.warn.get c)

/-- An activity's minutes within their range (R78). -/
def Activity.inRange : Activity → Bool
  | .idle => true
  | .writing _ _ m => m ≤ 240
  | .wiping _ m => m ≤ 240

/-- A bay's fields within their ranges (R78). -/
def Bay.inRange (b : Bay) : Bool :=
  b.restsToday ≤ Config.maxRests &&
    match b.condition with
    | .service _ streak strikes a => streak ≤ 25 && strikes ≤ 2 && a.inRange
    | .resting m => m ≤ 240
    | .offline => true
    | .failed => true

/-- The next-number counters within their range (R2). -/
def Counters.inRange (c : Counters) : Bool :=
  within 1 Config.maxNumber c.job && within 1 Config.maxNumber c.order && within 1 Config.maxNumber c.task
    && within 1 Config.maxNumber c.parcel && within 1 Config.maxNumber c.loan && within 1 Config.maxNumber c.group

/-- Settings, next-number counters, the service day and the 32 bay records within their ranges. -/
def State.inRange (s : State) : Bool :=
  s.settings.inRange && s.counters.inRange && decide (s.day < Config.dayModulus)
    && s.bays.length == Config.bayCount && s.bays.all Bay.inRange

/-- The answers a send list holds. -/
def Port.answers (p : Port) : Nat :=
  countOf OutFrame.isAnswer p.sendList

/-- A port's bookkeeping (R167, R168, R170, R171): one answer in the send list exactly while a request is in progress and not
waiting, a request in progress where one waits, at most 128 other frames (log entries 10 and 34), a bad-frame count within range,
and a notice set of kinds the link carries, in ascending notice code and class. -/
def Port.sound (l : Link) (p : Port) : Prop :=
  p.answers = (if p.inProgress.isSome && p.waiting.isNone then 1 else 0)
    ∧ (p.waiting.isSome → p.inProgress.isSome)
    ∧ countOf (fun f => !f.isAnswer) p.sendList ≤ Config.sendPlaces
    ∧ p.badFrames ≤ Config.maxBadFrames
    ∧ p.notices.Pairwise (fun a b => a.code < b.code ∨ a.code = b.code ∧ a.cls < b.cls)
    ∧ ∀ n ∈ p.notices, n ∈ kindsOfLink l

/-- A request that waits is the Order link's, and waits for the running pass of the patron it names (R22). -/
def State.waitSound (s : State) : Prop :=
  ∀ l body, (s.port l).waiting = some body →
    l = .order ∧ ∃ q k r, (s.port l).inProgress = some q ∧ kindOfCode q.kind = some k ∧ s.running = some r
      ∧ patronNamed k body = some r.patron

/-- Every port's bookkeeping, and the request that waits. -/
def State.portsSound (s : State) : Prop :=
  (∀ l, Port.sound l (s.port l)) ∧ s.waitSound

end Sys2Proof.Machine
end

