-- ==== Sys2Proof/WellFormed.lean ====
section
/-! DEFINITION. Which commands are well formed: a frame's body has at most 1,024 bytes (R165), an unknown kind is no request
kind (R169), a run of characters holds one at least (R167), an expiry names one of the 32 bays (R78). -/

namespace Sys2Proof

/-- The checks on a command that do not depend on the state. -/
def Instr.wellFormed : Instr → Bool
  | .status _ _ body => body.length ≤ Config.maxBody
  | .noticeAck _ _ body => body.length ≤ Config.maxBody
  | .patronSet _ _ body => body.length ≤ Config.maxBody
  | .patronPause _ _ body => body.length ≤ Config.maxBody
  | .patronResume _ _ body => body.length ≤ Config.maxBody
  | .patronClose _ _ body => body.length ≤ Config.maxBody
  | .patronRead _ _ body => body.length ≤ Config.maxBody
  | .wishAdd _ _ body => body.length ≤ Config.maxBody
  | .wishDrop _ _ body => body.length ≤ Config.maxBody
  | .wishMove _ _ body => body.length ≤ Config.maxBody
  | .wishRead _ _ body => body.length ≤ Config.maxBody
  | .titleSet _ _ body => body.length ≤ Config.maxBody
  | .titleWithdraw _ _ body => body.length ≤ Config.maxBody
  | .copysetAdd _ _ body => body.length ≤ Config.maxBody
  | .loanRead _ _ body => body.length ≤ Config.maxBody
  | .renew _ _ body => body.length ≤ Config.maxBody
  | .orderCancel _ _ body => body.length ≤ Config.maxBody
  | .newDay _ _ body => body.length ≤ Config.maxBody
  | .serviceSet _ _ body => body.length ≤ Config.maxBody
  | .storeClear _ _ body => body.length ≤ Config.maxBody
  | .cartEnrol _ _ body => body.length ≤ Config.maxBody
  | .cartForget _ _ body => body.length ≤ Config.maxBody
  | .poolSet _ _ body => body.length ≤ Config.maxBody
  | .bayOnline _ _ body => body.length ≤ Config.maxBody
  | .bayOffline _ _ body => body.length ≤ Config.maxBody
  | .bayRestore _ _ body => body.length ≤ Config.maxBody
  | .dupRestart _ _ body => body.length ≤ Config.maxBody
  | .work _ _ body => body.length ≤ Config.maxBody
  | .writeDone _ _ body => body.length ≤ Config.maxBody
  | .wipeDone _ _ body => body.length ≤ Config.maxBody
  | .bayFault _ _ body => body.length ≤ Config.maxBody
  | .bayRead _ _ body => body.length ≤ Config.maxBody
  | .nextPull _ _ body => body.length ≤ Config.maxBody
  | .pulled _ _ body => body.length ≤ Config.maxBody
  | .notFound _ _ body => body.length ≤ Config.maxBody
  | .setFound _ _ body => body.length ≤ Config.maxBody
  | .nextParcel _ _ body => body.length ≤ Config.maxBody
  | .packed _ _ body => body.length ≤ Config.maxBody
  | .unpack _ _ body => body.length ≤ Config.maxBody
  | .cartIn _ _ body => body.length ≤ Config.maxBody
  | .volIn _ _ body => body.length ≤ Config.maxBody
  | .copysetRead _ _ body => body.length ≤ Config.maxBody
  | .unknownKind _ kind _ body => (kindOfCode kind).isNone && body.length ≤ Config.maxBody
  | .busy _ _ _ body => body.length ≤ Config.maxBody
  | .receiveError _ chars => !chars.isEmpty
  | .frameSent _ => true
  | .linkRestart _ => true
  | .restartLine => true
  | .startUpScan => true
  | .minuteEvent => true
  | .deadlineExpiry bay => bay < Config.bayCount
  | .restExpiry bay => bay < Config.bayCount
  | .selectionPass => true
  | .copySetOffer => true
  | .starvedClaim _ => true
  | .parcelBacklogServe => true
  | .frameSeparatingIdle _ => true

end Sys2Proof
end

