-- ==== Sys2Proof/Certificates/Slice0/Obligations.lean ====
section
/-! DEFINITION. The statements for the provers. A request statement says what a ready port's good frame does: the records it
writes, everything else left as it was, its answer in the send list, and its notices. `s.after l tag kind a raised s'` is `s'`
with answer `a` sent on link `l`, then the kinds `raised` by the rule and those the event's conditions make pending. -/

open Sys2Proof Sys2Proof.Machine

/-! ### The machine, the ports and the restarts -/

/-- O1. One step takes the command at the front of the queue and runs it on the state with the queue's rest. On an empty queue
the engine, where it runs no pass and has no offer to work on, begins the pass of the patron at the head of its pass queue
(R44), and nothing else changes; with a pass running, with nothing to run, or under the restart line, the state stays as it is.
The queue, and that an empty one gives the engine its turn, are the model's choice (log entries 1 and 4). -/
def Obligations.StepTakesFrontCommand : Prop :=
  ∀ (c : Instr) (s : State),
    step { s with pending := c :: s.pending } = exec c s
    ∧ (s.pending = [] →
      (s.restartAsserted = true ∨ s.running ≠ none ∨ (s.offer = none ∧ s.pendingOffers = [] ∧ s.passQueue = []) →
        step s = .next s)
      ∧ ∀ n rest, s.restartAsserted = false → s.running = none → s.offer = none → s.pendingOffers = [] →
          s.passQueue = n :: rest →
          step s = .next { s with passQueue := rest, running := some { patron := n, offered := none } })

/-- O2. Every command goes on, and leaves the queue of waiting commands as it is: each command is the effect of its own event
and of nothing that waits behind it (R1). The queue is the model's own and no state of the part (log entry 1). -/
def Obligations.EveryCommandGoesOn : Prop :=
  ∀ (c : Instr) (s : State), ∃ t, exec c s = .next t ∧ t.pending = s.pending

/-- O3. A command that is a frame of its own is read back from that frame's bytes: its check matches, and its kind byte, tag
and body give the command (R165, R166, section 10.7). -/
def Obligations.FrameSpellingRoundTrip : Prop :=
  ∀ (i : Instr) (l : Link) (f : RxFrame), i.wellFormed = true → i.frame = some (l, f) →
    f.bytes = 0xA5 :: f.tail ∧ judgeFrame f.tail = some f ∧ Instr.ofFrame l f = i

/-- O4. The characters of a whole good frame, received one by one on a link in any state, do exactly what the command they
spell does (R164, R165, R166). Characters on a port that is not in HUNT follow log entry 5. -/
def Obligations.ReceiverReadsWholeFrame : Prop :=
  ∀ (l : Link) (f : RxFrame) (s : State), f.body.length ≤ 1024 →
    exec (.receiveError l (f.bytes.map .data)) s = exec (Instr.ofFrame l f) s

/-- O5. Each receive error adds 1 to the bad-frame count, which stays at 65,535, changes nothing else but the receive state,
and sends nothing: a stray byte or a missing stop bit in HUNT, a length outside 3 to 1,027, a complete frame whose check does
not match, a first character after a complete frame, and an idle of 2 character times within a frame. Characters in WAIT-IDLE
behind the first are discarded, and the idle brings WAIT-IDLE to HUNT (R164, R166, R167). That a run of characters holds one
receive error at most follows log entry 5. -/
def Obligations.ReceiveErrorsAndIdle : Prop :=
  (∀ (l : Link) (s : State), s.restartAsserted = false →
      let counted := fun (rx : RxState) =>
        s.withPort l { s.port l with rx := rx, badFrames := min ((s.port l).badFrames + 1) 65535 }
      ((s.port l).rx = .hunt →
        (∀ b : Byte, b ≠ 0xA5 → exec (.receiveError l [.data b]) s = .next (counted (.waitIdle false)))
          ∧ exec (.receiveError l [.badStop]) s = .next (counted (.waitIdle false))
          ∧ (∀ b0 b1 : Byte, leValue [b0, b1] < 3 ∨ 1027 < leValue [b0, b1] →
              exec (.receiveError l [.data 0xA5, .data b0, .data b1]) s = .next (counted (.waitIdle false)))
          ∧ (∀ bs : List Byte, 3 ≤ lengthField bs → lengthField bs ≤ 1027 → bs.length = lengthField bs + 4 →
              judgeFrame bs = none →
              exec (.receiveError l (.data 0xA5 :: bs.map .data)) s = .next (counted (.waitIdle true))))
      ∧ (∀ bs : List Byte, (s.port l).rx = .frame bs →
          exec (.receiveError l [.badStop]) s = .next (counted (.waitIdle false)))
      ∧ ((s.port l).rx = .waitIdle true → ∀ (c : RxChar) (cs : List RxChar),
          exec (.receiveError l (c :: cs)) s = .next (counted (.waitIdle false)))
      ∧ ((s.port l).rx = .waitIdle false → ∀ cs : List RxChar, exec (.receiveError l cs) s = .next s))
  ∧ (∀ (l : Link) (s : State), s.restartAsserted = false →
      (∀ b, (s.port l).rx = .waitIdle b →
        exec (.frameSeparatingIdle l) s = .next (s.withPort l { s.port l with rx := .hunt }))
      ∧ ((s.port l).rx = .hunt → exec (.frameSeparatingIdle l) s = .next s)
      ∧ (∀ bs, (s.port l).rx = .frame bs →
          exec (.frameSeparatingIdle l) s =
            .next (s.withPort l { s.port l with rx := .hunt, badFrames := min ((s.port l).badFrames + 1) 65535 })))

/-- O6. The oldest frame of a send list leaves it whole; an answer leaving ends the request in progress, and any other frame
leaves it in progress (R168, R170). That FRAME_SENT with an empty send list changes nothing is the model's choice (log entry
6). -/
def Obligations.FrameLeavesSendList : Prop :=
  ∀ (l : Link) (s : State) (rest : List OutFrame), s.restartAsserted = false →
    (∀ tag kind a, (s.port l).sendList = .answer tag kind a :: rest →
      exec (.frameSent l) s =
        .next (s.withPort l { s.port l with sendList := rest, inProgress := none }))
    ∧ (∀ tag kind, (s.port l).sendList = .busy tag kind :: rest →
        exec (.frameSent l) s = .next (s.withPort l { s.port l with sendList := rest }))
    ∧ (∀ n, (s.port l).sendList = .notice n :: rest →
        exec (.frameSent l) s = .next (s.withPort l { s.port l with sendList := rest }))
    ∧ ((s.port l).sendList = [] → exec (.frameSent l) s = .next s)

/-- O7. A link restart leaves that port in WAIT-IDLE with no request in progress, one that waits being withdrawn, a bad-frame
count of 0, and a notice set and send list of exactly the level kinds the link carries whose conditions hold; every record and
every other port is as it was (R174). -/
def Obligations.LinkRestart : Prop :=
  ∀ (l : Link) (s : State), s.restartAsserted = false →
    ∃ kinds : List Notice,
      exec (.linkRestart l) s =
        .next (s.withPort l
          { rx := .waitIdle false, inProgress := none, waiting := none, sendList := kinds.map .notice, notices := kinds
            badFrames := 0 })
      ∧ (∀ n, n ∈ kinds ↔ n ∈ kindsOfLink l ∧
          (n = .dupHalted ∧ s.standing = .halted
            ∨ (∃ c, n = .poolLow c ∧ (s.blank.get c).length - s.reserved.get c ≤ s.settings.warn.get c)
            ∨ ∃ c, n = .poolCritical c ∧ (s.blank.get c).length - s.reserved.get c ≤ s.settings.critical.get c))
      ∧ kinds.Pairwise (fun a b => a.code < b.code ∨ a.code = b.code ∧ a.cls < b.cls)

/-- O8. The restart line leaves every record as the last whole step left it and empties the four ports; while it is asserted
no command but the scan changes anything (R1, R175; log entries 7 and 19). -/
def Obligations.RestartLineStopsThePart : Prop :=
  (∀ s : State, ∃ p : Port, p.inProgress = none ∧ p.waiting = none ∧ p.sendList = []
      ∧ p.badFrames = 0 ∧ p.notices = [] ∧ p.rx = .waitIdle false
      ∧ exec .restartLine s = .next { s with restartAsserted := true, ports := ⟨p, p, p, p⟩ })
  ∧ ∀ (c : Instr) (s : State), s.restartAsserted = true → c ≠ .restartLine → c ≠ .startUpScan → exec c s = .next s

/-- O9. A good frame that arrives while a request is in progress, waiting or answered, is answered BUSY with its own tag and
kind where the 128 places of the send list are not full, and is a receive error where they are; no record and no request in
progress changes (R168, R170). It holds of the BUSY row and of every command that is a frame. An Order-link request that names
the patron of the running pass is the request in progress, waits without an answer, and is taken when that pass has ended, as
it would be were it sent then (R22, R44). That the answer in progress takes none of the 128 places is log entry 10; that a
frame already being sent keeps its place until its last byte has left is the model's choice (log entry 34); which requests
wait, and when a pass runs, is log entry 4. -/
def Obligations.BusyNewcomer : Prop :=
  (∀ (l : Link) (kind : Byte) (tag : Half) (body : List Byte) (s : State), s.restartAsserted = false →
      (s.port l).rx = .hunt → (s.port l).inProgress.isSome = true → body.length ≤ 1024 →
      (countOf (fun f => !f.isAnswer) (s.port l).sendList < 128 →
        let t := s.withPort l
          { s.port l with rx := .waitIdle true, sendList := (s.port l).sendList ++ [.busy tag kind] }
        exec (.busy l kind tag body) s = .next t ∧ exec (Instr.ofFrame l ⟨kind, tag, body⟩) s = .next t)
      ∧ (128 ≤ countOf (fun f => !f.isAnswer) (s.port l).sendList →
        let t := s.withPort l
          { s.port l with rx := .waitIdle true, badFrames := min ((s.port l).badFrames + 1) 65535 }
        exec (.busy l kind tag body) s = .next t ∧ exec (Instr.ofFrame l ⟨kind, tag, body⟩) s = .next t))
  ∧ (∀ (k : Kind) (tag : Half) (body : List Byte) (n : Nat) (r : PassRun) (s : State), Ready .order s →
      (s.port .order).waiting = none → s.running = some r → r.patron = n →
      (k = .loanRead ∧ (∃ start, Fits [2, 3] [n, start] ∧ body = 2 :: writeFields [2, 3] [n, start])
        ∨ k ∈ [.patronSet, .patronPause, .patronResume, .patronClose, .patronRead, .wishAdd, .wishDrop, .wishMove, .wishRead,
            .orderCancel]
          ∧ ∃ ws vs, k.widths = some ws ∧ Fits ws (n :: vs) ∧ body = writeFields ws (n :: vs)) →
      let ask := Instr.ofFrame .order ⟨k.code, tag, body⟩
      let w := s.withPort .order
        { s.port .order with rx := .waitIdle true, inProgress := some ⟨tag, k.code⟩, waiting := some body }
      exec ask s = .next w
      ∧ ∃ t, exec .selectionPass s = .next t ∧ t.running = none ∧ exec .selectionPass w = exec ask t)

/-- O10. The port's three checks, with no record changed: a kind byte that is no request kind is answered UNKNOWN-KIND and a
kind of another link's role WRONG-LINK, whatever the body; a body not as long as its kind's fields together, or an action or
selector code that names none, is answered BAD-LENGTH (R169, section 10.7). So is a TITLE-SET body that spells no title and two
actions: one without its braille action, with an image cut short, with data behind KEEP or REMOVE, or a SET of no weight, of an
odd byte or of more than 40 (R12). So is a LOAN-READ body that is no selector with exactly its fields (R147). A frame that is
not what its row says is treated as the port treats it (log entry 25). -/
def Obligations.PortChecks : Prop :=
  (∀ (l : Link) (tag : Half) (body : List Byte) (s : State), Ready l s → body.length ≤ 1024 →
      (∀ kind : Byte, (∀ k : Kind, k.code ≠ kind) →
        exec (.unknownKind l kind tag body) s = .next { s with ports := s.answered l tag kind ⟨.unknownKind, []⟩ })
      ∧ (∀ (k : Kind) (r : Link), k.role = some r → r ≠ l →
          exec (Instr.ofFrame l ⟨k.code, tag, body⟩) s = .next (s.reply l tag k ⟨.wrongLink, []⟩ s)))
  ∧ (∀ (l : Link) (tag : Half) (body : List Byte) (s : State), Ready l s → body.length ≤ 1024 →
      (∀ (k : Kind) (ws : List Nat), (k.role = none ∨ k.role = some l) → k.widths = some ws → body.length ≠ ws.sum →
        exec (Instr.ofFrame l ⟨k.code, tag, body⟩) s = .next (s.reply l tag k ⟨.badLength, []⟩ s))
      ∧ (l = .order → ∀ (sel : Byte) (rest : List Byte), body = sel :: rest → sel ≠ 1 → sel ≠ 2 →
          exec (.loanRead l tag body) s = .next (s.reply l tag .loanRead ⟨.badLength, []⟩ s))
      ∧ (l = .order → (∀ n, body ≠ 1 :: writeFields [3] [n]) → (∀ n k, body ≠ 2 :: writeFields [2, 3] [n, k]) →
          exec (.loanRead l tag body) s = .next (s.reply l tag .loanRead ⟨.badLength, []⟩ s))
      ∧ (l = .order → ∀ (t0 t1 a : Byte) (rest : List Byte), body = t0 :: t1 :: a :: rest → a ≠ 0 → a ≠ 1 → a ≠ 2 →
          exec (.titleSet l tag body) s = .next (s.reply l tag .titleSet ⟨.badLength, []⟩ s))
      ∧ (l = .order →
          (∀ (t : Nat) (ia : ImageAction) (ba : BrailleAction), body = leBytes 2 t ++ ia.bytes ++ ba.bytes →
            ∃ ws, ba = .set ws ∧ (ws = [] ∨ 40 < ws.length)) →
          exec (.titleSet l tag body) s = .next (s.reply l tag .titleSet ⟨.badLength, []⟩ s))
      ∧ (l = .order → ∀ (t : Nat) (ia : ImageAction) (a : Byte) (rest : List Byte), body = leBytes 2 t ++ ia.bytes ++ a :: rest →
          (a ≠ 0 ∧ a ≠ 1 ∧ a ≠ 2) ∨ ((a = 0 ∨ a = 2) ∧ rest ≠ [])
            ∨ (a = 1 ∧ (rest = [] ∨ rest.length % 2 = 1 ∨ 80 < rest.length)) →
          exec (.titleSet l tag body) s = .next (s.reply l tag .titleSet ⟨.badLength, []⟩ s)))

/-- O11. STATUS on every link: its answer gives the bad-frame count and the notice set as they stood; the count is then 0, the
event kinds are gone, the level kinds stay, and nothing else changes (R172). -/
def Obligations.StatusReportsAndClears : Prop :=
  ∀ (l : Link) (tag : Half) (s : State), Ready l s →
    let p := s.port l
    let level := fun n => n = .dupHalted ∨ ∃ c, n = .poolLow c ∨ n = .poolCritical c
    ∃ kept : List Notice,
      exec (.status l tag []) s =
        .next (s.withPort l
          { rx := .waitIdle true
            inProgress := some ⟨tag, Kind.status.code⟩
            waiting := p.waiting
            sendList := p.sendList ++ [.answer tag Kind.status.code
              ⟨.done, [f2 p.badFrames, f2 p.notices.length] ++ p.notices.flatMap (fun n =>
                [f1 n.code, f1 n.cls, fFlag (levelCondition s n == some true)])⟩]
            notices := kept
            badFrames := 0 })
      ∧ kept.Sublist p.notices ∧ ∀ n, n ∈ kept ↔ n ∈ p.notices ∧ level n

/-- O12. NOTICE-ACK on every link, by its checks in their order: a code and class of no kind of the link NO-SUCH, a kind not
pending ALREADY, a level kind whose condition holds STILL, and any other pending kind removed and DONE. Every answer gives the
notice set after the request (R173). -/
def Obligations.NoticeAck : Prop :=
  ∀ (l : Link) (tag : Half) (s : State) (code cls : Nat), Ready l s → Fits [1, 1] [code, cls] →
    let p := s.port l
    let form := fun (ns : List Notice) =>
      f2 ns.length :: ns.flatMap (fun n => [f1 n.code, f1 n.cls, fFlag (levelCondition s n == some true)])
    let ack := exec (.noticeAck l tag (writeFields [1, 1] [code, cls])) s
    let same := fun (o : OutcomeCode) =>
      Host.Outcome.next (φ := Fault) (ρ := Refusal) (s.reply l tag .noticeAck ⟨o, form p.notices⟩ s)
    ((∀ n ∈ kindsOfLink l, n.code = code → n.cls ≠ cls) → ack = same .noSuch)
    ∧ ∀ n ∈ kindsOfLink l, n.code = code → n.cls = cls →
        (n ∉ p.notices → ack = same .already)
        ∧ (n ∈ p.notices → levelCondition s n = some true → ack = same .still)
        ∧ (n ∈ p.notices → levelCondition s n ≠ some true →
            ack = .next (s.withPort l
              { p.answered tag Kind.noticeAck.code ⟨.done, form (p.notices.erase n)⟩ with notices := p.notices.erase n }))

/-- O13. A second restart and scan leave what the first one left: once the scan has finished, restarting again changes nothing
(R20, R61, R77, R103, R124, R136). The scan is one step (log entry 23). -/
def Obligations.ScanRepeats : Prop :=
  ∀ s t : State, s.tablesWf = true → s.restartAsserted = true → exec .startUpScan s = .next t →
    ∃ u, exec .restartLine t = .next u ∧ exec .startUpScan u = .next t

/-- O14. What the scan does to records it finds: a bay's write or wipe is taken back, its cartridge UNWIPED with its counts
unchanged and its last activity TAKEN-BACK; SERVICE and RESTING bays enter SERVICE afresh; a CANCEL-PENDING job a bay was
writing is freed and the ASSIGNED jobs, oldest stamp first, each reserve a free blank or join the starved lists, the reserved
counts being recomputed from the QUEUED jobs; HANDED pulls and PACKING parcels are returned, the engine starts empty with its
pass queue rebuilt, the held units and the day's figures are recounted, and the records of patrons, titles, orders, groups,
loans, settings and the day stand as they were (R20, R61, R77, R103, R124, R136, R149, R163). Each port then starts in
WAIT-IDLE, empty but for the level kinds that hold and their NOTICE frames (R21, R175). A record memory that never held the
part's records is taken as after STORE-CLEAR, with every bay as never brought online (R20). The scan is one step (log entry
23). -/
def Obligations.ScanEffects : Prop :=
  (∀ s : State, s.restartAsserted = true → s.virgin = true →
    exec .startUpScan s = .next { State.reset with pending := s.pending })
  ∧ ∀ s : State, s.restartAsserted = true → s.virgin = false →
    let busy := (s.bays.take 32).filterMap (fun b => match b.activity with
      | .idle => none
      | .writing job serial _ => some (WorkKind.write job, serial)
      | .wiping serial _ => some (.wipe, serial))
    let assigned := fun (j : Job) => match j.state with
      | .assigned _ _ => true
      | _ => false
    let queuedOf := fun (c : Cls) => countOf (fun e => e.2.cls == c && e.2.state == .queued) s.jobs
    let free := fun (c : Cls) => (s.blank.get c).length - queuedOf c
    let returned := sortBy (stampBefore s) (s.jobs.select (fun _ j => assigned j))
    let ofClass := fun (c : Cls) => returned.filter (fun n => (s.jobs.get n).map Job.cls == some c)
    let again := fun (n : Nat) => [Cls.c1, .c2, .c3].any (fun c => n ∈ (ofClass c).take (free c))
    ∃ t, exec .startUpScan s = .next t ∧ t.restartAsserted = false ∧ t.virgin = false
      ∧ t.patrons = s.patrons ∧ t.titles = s.titles ∧ t.orders = s.orders ∧ t.groups = s.groups ∧ t.loans = s.loans
      ∧ t.counters = s.counters ∧ t.settings = s.settings ∧ t.day = s.day ∧ t.dayOpen = s.dayOpen ∧ t.tally = s.tally
      ∧ t.blank = s.blank ∧ t.standing = s.standing ∧ t.pullQueue = s.pullQueue ∧ t.dispatchQueue = s.dispatchQueue
      ∧ t.pending = s.pending
      ∧ (∀ serial, t.carts.get serial =
          if serial ∈ busy.map Prod.snd then (s.carts.get serial).map (fun r => { r with state := .unwiped })
          else s.carts.get serial)
      ∧ t.unwiped = s.unwiped ++ (busy.map Prod.snd).filter (fun serial => (s.carts.get serial).isSome)
      ∧ (s.jobs.wf = true →
          (∀ n, t.jobs.get n = match s.jobs.get n with
            | none => none
            | some j => match j.state with
              | .queued => some j
              | .starved => some j
              | .assigned _ _ => some { j with state := if again n then .queued else .starved }
              | .cancelPending _ _ => if n ∈ busy.filterMap (fun e => match e.1 with
                  | .write job => some job
                  | .wipe => none) then none else some j)
          ∧ (∀ c, t.reserved.get c = queuedOf c + min (ofClass c).length (free c))
          ∧ (∀ c, t.starved.get c =
              ((ofClass c).drop (free c)).foldl (fun l n => insertBefore (stampBefore t) n l) (s.starved.get c))
          ∧ t.jobQueue = (returned.filter again).foldl (fun q n => insertBefore (jobBefore t) n q) s.jobQueue)
      ∧ t.tasks = s.tasks.mapAll (fun _ r => { r with state := .queued })
      ∧ t.copySets = s.copySets.mapAll (fun _ c =>
          { c with state := match c.state with
                            | .pulling o p => .reserved o p
                            | st => st })
      ∧ t.parcels = s.parcels.mapAll (fun _ p => if p.state = .packing then { p with state := .ready } else p)
      ∧ t.bays.map Bay.restsToday = s.bays.map Bay.restsToday
      ∧ t.bays.map Bay.condition = s.bays.map (fun b =>
          match b.condition with
          | .service _ _ _ _ => .service .qualifying 0 0 .idle
          | .resting _ => .service .qualifying 0 0 .idle
          | .offline => .offline
          | .failed => .failed)
      ∧ (∀ i b, i < 32 → s.bays[i]? = some b → t.bays[i]?.map Bay.last = some (match b.activity with
          | .idle => b.last
          | .writing job serial _ => some ⟨.write job, serial, .takenBack⟩
          | .wiping serial _ => some ⟨.wipe, serial, .takenBack⟩))
      ∧ t.heldTotal = sumOf (fun e => e.2.held) s.patrons
      ∧ t.passQueue = s.patrons.select (fun _ p => p.state == .active && p.held < p.allowance && !p.wishes.isEmpty)
      ∧ t.pendingOffers = [] ∧ t.offer = none ∧ t.running = none ∧ t.blocked = ⟨[], [], []⟩
      ∧ t.stays = ⟨[], [], []⟩ ∧ t.marks = ⟨false, false, false⟩
      ∧ t.todayCount = s.tally + countOf (fun e => e.2.state == .dispatched) s.parcels
      ∧ t.reservedCap =
          countOf (fun e => (e.2.state == .ready || e.2.state == .packing) && groupBegun s e.2.group) s.parcels
      ∧ ∀ l, ∃ kinds : List Notice,
          t.port l = { rx := .waitIdle false, inProgress := none, waiting := none, sendList := kinds.map .notice
                       notices := kinds, badFrames := 0 }
          ∧ (∀ n, n ∈ kinds ↔ n ∈ kindsOfLink l ∧
              (n = .dupHalted ∧ t.standing = .halted
                ∨ (∃ c, n = .poolLow c ∧ (t.blank.get c).length - t.reserved.get c ≤ t.settings.warn.get c)
                ∨ ∃ c, n = .poolCritical c ∧ (t.blank.get c).length - t.reserved.get c ≤ t.settings.critical.get c))
          ∧ kinds.Pairwise (fun a b => a.code < b.code ∨ a.code = b.code ∧ a.cls < b.cls)

/-! ### Patrons and wish lists -/

/-- O15. PATRON-SET of a number without a record creates it ACTIVE with nothing held; of a patron not CLOSING it sets A, T, K
and M and nothing else of the record, and appends a patron with free units and wishes to the pass queue. A comes into 1 to 12,
T into 1 to 8, K into 1 to 3, and a mode code of neither mode is TOGETHER; CLAMPED tells any change (R23). H is kept where A
falls below it, no job and no order changes, and the patron stays on each blocked list it stands on until that list is released
(R24; that this holds against R49 is log entry 33). A number out of range gives NO-SUCH and a CLOSING patron STATE (R22). No
pass runs for the patron, so that the request does not wait. The layout of the answer's optional fields and lists is the
model's choice (log entry 8). -/
def Obligations.PatronSet : Prop :=
  ∀ (tag : Half) (s : State) (n a t k m : Nat), Ready .order s → Fits [2, 1, 1, 1, 1] [n, a, t, k, m] →
    NoPassFor n s →
    let A := max 1 (min 12 a)
    let T := max 1 (min 8 t)
    let K := if k ≤ 1 then Cls.c1 else if k = 2 then .c2 else .c3
    let M := if m = 2 then Mode.asReady else .together
    let o := if A = a ∧ T = t ∧ 1 ≤ k ∧ k ≤ 3 ∧ (m = 1 ∨ m = 2) then OutcomeCode.done else .clamped
    let set := exec (.patronSet .order tag (writeFields [2, 1, 1, 1, 1] [n, a, t, k, m])) s
    (n = 0 ∨ 16384 < n → set = .next (s.reply .order tag .patronSet ⟨.noSuch, []⟩ s))
    ∧ (1 ≤ n → n ≤ 16384 → s.patrons.get n = none →
      let p : Patron := { state := .active, allowance := A, limit := T, cls := K, mode := M, held := 0, wishes := [] }
      let s' : State := { s with patrons := s.patrons.put n p }
      set = .next (s.reply .order tag .patronSet ⟨o, patronFields s' n p⟩ s'))
    ∧ (∀ q, 1 ≤ n → n ≤ 16384 → s.patrons.get n = some q → q.state ≠ .closing →
      let p : Patron := { q with allowance := A, limit := T, cls := K, mode := M }
      let keeps := fun (c : Cls) =>
        if n ∈ s.blocked.get c ∧ n ∉ s.stays.get c then s.stays.get c ++ [n] else s.stays.get c
      let s' : State := { s with
        patrons := s.patrons.put n p
        passQueue := if q.state = .active ∧ q.held < A ∧ q.wishes ≠ [] ∧ n ∉ s.passQueue then s.passQueue ++ [n]
                     else s.passQueue
        stays := ⟨keeps .c1, keeps .c2, keeps .c3⟩ }
      set = .next (s.reply .order tag .patronSet ⟨o, patronFields s' n p⟩ s'))
    ∧ (∀ q, 1 ≤ n → n ≤ 16384 → s.patrons.get n = some q → q.state = .closing →
      set = .next (s.reply .order tag .patronSet ⟨.state, []⟩ s))

/-- O16. PATRON-PAUSE of an ACTIVE or PAUSED patron stores the pause-until day: as sent for a length of 1 to 32,767 days
counted forward through the wrap, otherwise the day after the current one with CLAMPED. PATRON-RESUME ends a pause: ACTIVE and
appended to the pass queue where the patron has no loan overdue by suspend-after, otherwise SUSPENDED with PATRON-SUSPENDED
raised. Other states are refused as the rules give, and no record gives NO-SUCH (R22, R25, R26, R27). The layout of the
answer's optional fields and lists is the model's choice (log entry 8). -/
def Obligations.PatronPauseAndResume : Prop :=
  (∀ (tag : Half) (s : State) (n d : Nat) (p : Patron), Ready .order s → Fits [2, 2] [n, d] →
      NoPassFor n s → 1 ≤ n → n ≤ 16384 → s.patrons.get n = some p → s.day < 65536 →
      let pause := exec (.patronPause .order tag (writeFields [2, 2] [n, d])) s
      let given : Bool := decide (d ≠ s.day ∧ (d + 65536 - s.day) % 65536 ≤ 32767)
      let p' : Patron := { p with state := .paused (if given then d else (s.day + 1) % 65536) }
      let s' : State := { s with patrons := s.patrons.put n p' }
      ((p.state = .active ∨ ∃ u, p.state = .paused u) →
        pause = .next (s.reply .order tag .patronPause ⟨if given then .done else .clamped, patronFields s' n p'⟩ s'))
      ∧ (p.state = .suspended ∨ p.state = .closing →
        pause = .next (s.reply .order tag .patronPause ⟨.state, []⟩ s)))
  ∧ (∀ (tag : Half) (s : State) (n : Nat) (p : Patron), Ready .order s → NoPassFor n s → 1 ≤ n → n ≤ 16384 →
      s.patrons.get n = some p →
      let resume := exec (.patronResume .order tag (writeFields [2] [n])) s
      let late := ∃ l loan e, (l, loan) ∈ s.loans ∧ loan.patron = n ∧ loan.state = .overdue e ∧ s.settings.suspendAfter ≤ e
      ((∃ u, p.state = .paused u) → ¬ late →
        let p' : Patron := { p with state := .active }
        let s' : State := { s with
          patrons := s.patrons.put n p'
          passQueue := if n ∈ s.passQueue then s.passQueue else s.passQueue ++ [n] }
        resume = .next (s.reply .order tag .patronResume ⟨.done, patronFields s' n p'⟩ s'))
      ∧ ((∃ u, p.state = .paused u) → late →
        let p' : Patron := { p with state := .suspended }
        let s' : State := { s with patrons := s.patrons.put n p' }
        resume = .next
          (s.after .order tag .patronResume ⟨.done, patronFields s' n p'⟩ [(.order, .patronSuspended)] s'))
      ∧ (p.state = .active →
        resume = .next (s.reply .order tag .patronResume ⟨.already, []⟩ s))
      ∧ (p.state = .suspended ∨ p.state = .closing →
        resume = .next (s.reply .order tag .patronResume ⟨.state, []⟩ s)))
  ∧ ∀ (tag : Half) (s : State) (n d : Nat), Ready .order s → Fits [2, 2] [n, d] → NoPassFor n s →
      n = 0 ∨ 16384 < n ∨ s.patrons.get n = none →
      exec (.patronPause .order tag (writeFields [2, 2] [n, d])) s = .next (s.reply .order tag .patronPause ⟨.noSuch, []⟩ s)
      ∧ exec (.patronResume .order tag (writeFields [2] [n])) s = .next (s.reply .order tag .patronResume ⟨.noSuch, []⟩ s)

/-- O17. PATRON-CLOSE: every undispatched item no parcel of which is PACKING or DISPATCHED is cancelled without restore, in
ascending orders; the patron's wishes are freed, it leaves every waiting list, the pass queue and the blocked lists, and is
freed at once where it then holds nothing and otherwise kept CLOSING; PARTIAL with the number of items left, where there are
any; and H, with the record as it was freed where H is 0. The parcel backlog is then served, whatever waits in it. A single
order that leaves a begun group with DISPATCHED parcels alone has the group's loans created. Without orders nothing is
cancelled. A CLOSING patron gives ALREADY and no record NO-SUCH (R22, R29, R30, R45, R50, R51, R113, R118, R120, R121, R123,
R133). Blocked lists are released item by item (log entry 12), while HALTED too (log entry 29); the order of the groups that
the backlog completes is log entry 13, that such a group raises PARCEL-WAITING log entry 30. The layout of the answer, with the
record behind H, is the model's choice (log entry 8). No one stays on a released list (R24; log entry 33). -/
def Obligations.PatronClose : Prop :=
  ∀ (tag : Half) (s : State) (n : Nat), Ready .order s → NoPassFor n s → n < 65536 →
    let close := exec (.patronClose .order tag (writeFields [2] [n])) s
    (n = 0 ∨ 16384 < n ∨ s.patrons.get n = none → close = .next (s.reply .order tag .patronClose ⟨.noSuch, []⟩ s))
    ∧ ∀ p, 1 ≤ n → n ≤ 16384 → s.patrons.get n = some p →
      let left := (p.wishes.filter (fun (w : WishEntry) => w.format == .braille)).foldl
        (fun ts (w : WishEntry) => ts.modify w.title (fun r => { r with waiting := r.waiting.erase n })) s.titles
      let record := fun (v : State) (held : Nat) =>
        if held = 0 then patronFields v n { p with held := 0, wishes := [], state := .closing } else []
      (p.state ≠ .closing → (∀ e ∈ s.orders, e.2.patron ≠ n) → backlog s = [] →
        let s' : State := { s with
          patrons := if p.held = 0 then s.patrons.del n else s.patrons.put n { p with wishes := [], state := .closing }
          titles := left
          passQueue := s.passQueue.erase n
          blocked := ⟨s.blocked.c1.erase n, s.blocked.c2.erase n, s.blocked.c3.erase n⟩
          stays := ⟨s.stays.c1.erase n, s.stays.c2.erase n, s.stays.c3.erase n⟩ }
        close = .next (s.reply .order tag .patronClose ⟨.done, f1 p.held :: record s' p.held⟩ s'))
      ∧ (p.state = .closing →
        close = .next (s.reply .order tag .patronClose ⟨.already, []⟩ s))
      ∧ let os := s.orders.select (fun _ r => r.patron == n)
        let gone := goneItems s os
        let stay := os.flatMap (keptOf s)
        (p.state ≠ .closing → CancelReady s n os →
          let units := p.held - gone.length
          let ends := fun (v : State) =>
            let answer : Answer := if stay = [] then ⟨.done, f1 units :: record v units⟩
              else ⟨.partly, f2 stay.length :: f1 units :: record v units⟩
            (backlog s = [] → close = .next (s.after .order tag .patronClose answer [] v))
              ∧ ∀ u, BacklogServed v u → close = .next (s.after .order tag .patronClose answer [] u)
          let closed := fun (t : State) =>
            Cancelled s t os
            ∧ t.patrons = (if p.held = gone.length then s.patrons.del n
                else s.patrons.put n { p with held := p.held - gone.length, wishes := [], state := .closing })
            ∧ t.titles = left
            ∧ t.passQueue = (passAfter s n false os).erase n ∧ (∀ c, t.blocked.get c = (blockedAfter s os c).erase n)
            ∧ (∀ c, t.stays.get c = (staysAfter s os c).erase n)
            ∧ t.pendingOffers = (offeredSets s os).foldl appendNew s.pendingOffers
          (lastSent s os = [] → ∃ t, closed t ∧ ends t)
          ∧ ∀ o g r, os = [o] → lastSent s os = [g] → keptOf s o ≠ [] → s.orders.get o = some r →
              loanRoom s r.items.length →
              ∃ t v r' rg, closed t ∧ t.orders.get o = some r' ∧ t.groups.get g = some rg ∧ GroupLent t v o g r' rg ∧ ends v)

/-- O18. PATRON-READ and WISH-READ change no record. The one gives the patron's fields, the numbers of its wish entries, open
loans and undispatched items, whether it stands on the pass queue, and the classes on whose blocked lists it stands. The other
gives the list in its order, a BRAILLE entry with the patron's place on the title's waiting list and that list's length; a
CLOSING patron's list reads empty; no record gives NO-SUCH (R22, R31, R39; log entry 8 for the layout). The byte of a
waiting-list position above 255 is a free value (log entry 9). -/
def Obligations.PatronReadAndWishRead : Prop :=
  (∀ (tag : Half) (s : State) (n : Nat), Ready .order s → NoPassFor n s → n < 65536 →
      let read := exec (.patronRead .order tag (writeFields [2] [n])) s
      (∀ p, 1 ≤ n → n ≤ 16384 → s.patrons.get n = some p →
        let pause := match p.state with
          | .paused d => [f2 d]
          | _ => []
        read = .next (s.reply .order tag .patronRead ⟨.done,
          [f2 n, f1 p.state.code, f1 p.allowance, f1 p.limit, f1 (clsCode p.cls), f1 (modeCode p.mode), f1 p.held]
            ++ pause
            ++ [f2 p.wishes.length, f2 (countOf (fun e => e.2.patron == n) s.loans),
                f2 (sumOf (fun e => if e.2.patron = n then countOf (fun i => !i.dispatched) e.2.items else 0) s.orders),
                fFlag (decide (n ∈ s.passQueue))]
            ++ ([Cls.c1, .c2, .c3].filter (fun c => n ∈ s.blocked.get c)).map (fun c => f1 (clsCode c))⟩ s))
      ∧ (n = 0 ∨ 16384 < n ∨ s.patrons.get n = none →
        read = .next (s.reply .order tag .patronRead ⟨.noSuch, []⟩ s)
          ∧ exec (.wishRead .order tag (writeFields [2] [n])) s = .next (s.reply .order tag .wishRead ⟨.noSuch, []⟩ s)))
  ∧ (∀ (tag : Half) (s : State) (n : Nat) (p : Patron), Ready .order s → NoPassFor n s → 1 ≤ n → n ≤ 16384 →
      s.patrons.get n = some p →
      let place := fun (w : WishEntry) =>
        match w.format, s.titles.get w.title with
        | .braille, some r =>
          let k := r.waiting.idxOf n + 1
          [f1 (if k < 256 then k else (Config.farPosition k).toNat), f2 r.waiting.length]
        | _, _ => []
      exec (.wishRead .order tag (writeFields [2] [n])) s =
        .next (s.reply .order tag .wishRead ⟨.done,
          if p.state = .closing then []
          else p.wishes.flatMap (fun w =>
            [f2 w.title, f1 (formatCode w.format), f1 (bandCode w.band), f2 w.addedDay] ++ place w)⟩ s))

/-- O19. WISH-ADD that passes its checks: the entry, with the current day as its added day, joins the tail of its band, a band
code of neither band being NORMAL with CLAMPED; a BRAILLE entry's patron joins the tail of the title's waiting list, and an
ACTIVE patron with free units the pass queue. The answer gives its position and the list's length (R35, R36, R41). -/
def Obligations.WishAdd : Prop :=
  ∀ (tag : Half) (s : State) (n t f b : Nat) (p : Patron) (r : Title) (fmt : Format) (us ns : List WishEntry),
    Ready .order s → Fits [2, 2, 1, 1] [n, t, f, b] → NoPassFor n s → 1 ≤ n → n ≤ 16384 → 1 ≤ t → t ≤ 60000 →
    s.patrons.get n = some p → p.state ≠ .closing → s.titles.get t = some r → formatOfCode f = some fmt →
    p.wishes = us ++ ns → (∀ w ∈ us, w.band = .urgent) → (∀ w ∈ ns, w.band = .normal) →
    (∀ w ∈ p.wishes, ¬ (w.title = t ∧ w.format = fmt)) → holdsTitle s n t fmt = false → r.withdrawn = false →
    (fmt = .cartridge → r.image ≠ none) → (fmt = .braille → r.braille ≠ none) → p.wishes.length < 64 →
    wishEntryCount s < 262144 →
    let band := if b = 1 then Band.urgent else .normal
    let w : WishEntry := { title := t, format := fmt, band := band, addedDay := s.day }
    let wishes := if b = 1 then us ++ w :: ns else us ++ ns ++ [w]
    let s' : State := { s with
      patrons := s.patrons.put n { p with wishes := wishes }
      titles := if fmt = .braille then
          s.titles.put t { r with waiting := if n ∈ r.waiting then r.waiting else r.waiting ++ [n] }
        else s.titles
      passQueue := if p.state = .active ∧ p.held < p.allowance ∧ n ∉ s.passQueue then s.passQueue ++ [n]
        else s.passQueue }
    exec (.wishAdd .order tag (writeFields [2, 2, 1, 1] [n, t, f, b])) s =
      .next (s.reply .order tag .wishAdd ⟨if b = 1 ∨ b = 2 then .done else .clamped,
          [f1 (if b = 1 then us.length + 1 else us.length + ns.length + 1), f2 (p.wishes.length + 1)]⟩ s')

/-- O20. The checks of WISH-ADD in their order, each refusing with no effect: no patron record NO-SUCH, a CLOSING patron STATE, no
title record NO-SUCH, a format code of neither format NO-SUCH, an entry in the list ALREADY, an item or loan of the title HELD, a
withdrawn title WITHDRAWN, a title without the form NO-SUCH, 64 entries FULL, 262,144 entries in all STORE-FULL (R22, R35). -/
def Obligations.WishAddRefusals : Prop :=
  ∀ (tag : Half) (s : State) (n t f b : Nat), Ready .order s → Fits [2, 2, 1, 1] [n, t, f, b] → NoPassFor n s →
    let gives := fun (o : OutcomeCode) =>
      exec (.wishAdd .order tag (writeFields [2, 2, 1, 1] [n, t, f, b])) s =
        .next (s.reply .order tag .wishAdd ⟨o, []⟩ s)
    (n = 0 ∨ 16384 < n ∨ s.patrons.get n = none → gives .noSuch)
    ∧ ∀ p, 1 ≤ n → n ≤ 16384 → s.patrons.get n = some p →
      (p.state = .closing → gives .state)
      ∧ (p.state ≠ .closing → t = 0 ∨ 60000 < t ∨ s.titles.get t = none ∨ f = 0 ∨ 2 < f → gives .noSuch)
      ∧ ∀ r fmt, p.state ≠ .closing → 1 ≤ t → t ≤ 60000 → s.titles.get t = some r → formatOfCode f = some fmt →
        let hasForm := match fmt with
          | .cartridge => r.image.isSome
          | .braille => r.braille.isSome
        let listed := ∃ w ∈ p.wishes, w.title = t ∧ w.format = fmt
        (listed → gives .already)
        ∧ (¬ listed → holdsTitle s n t fmt = true → gives .held)
        ∧ (¬ listed → holdsTitle s n t fmt = false → r.withdrawn = true → gives .withdrawn)
        ∧ (¬ listed → holdsTitle s n t fmt = false → r.withdrawn = false → hasForm = false → gives .noSuch)
        ∧ (¬ listed → holdsTitle s n t fmt = false → r.withdrawn = false → hasForm = true → 64 ≤ p.wishes.length →
            gives .full)
        ∧ (¬ listed → holdsTitle s n t fmt = false → r.withdrawn = false → hasForm = true → p.wishes.length < 64 →
            262144 ≤ wishEntryCount s → gives .storeFull)

/-- O21. WISH-DROP frees the entry: the rest of the list keeps its order, a BRAILLE entry's patron leaves the title's waiting
list, the pass queue does not change, and the answer gives the length that is left. Its checks: no patron record NO-SUCH, a
CLOSING patron STATE, a format code of neither format, or no such entry, NO-SUCH (R22, R37). -/
def Obligations.WishDrop : Prop :=
  ∀ (tag : Half) (s : State) (n t f : Nat), Ready .order s → Fits [2, 2, 1] [n, t, f] → NoPassFor n s →
    let drop := exec (.wishDrop .order tag (writeFields [2, 2, 1] [n, t, f])) s
    let refuses := fun (o : OutcomeCode) => drop = .next (s.reply .order tag .wishDrop ⟨o, []⟩ s)
    (n = 0 ∨ 16384 < n ∨ s.patrons.get n = none → refuses .noSuch)
    ∧ ∀ p, 1 ≤ n → n ≤ 16384 → s.patrons.get n = some p →
      (p.state = .closing → refuses .state)
      ∧ (p.state ≠ .closing → f = 0 ∨ 2 < f → refuses .noSuch)
      ∧ ∀ fmt, p.state ≠ .closing → formatOfCode f = some fmt →
        (∀ (before after : List WishEntry) (w : WishEntry), p.wishes = before ++ w :: after → w.title = t →
          w.format = fmt → (∀ x ∈ before, ¬ (x.title = t ∧ x.format = fmt)) →
          let s' : State := { s with
            patrons := s.patrons.put n { p with wishes := before ++ after }
            titles := if fmt = .braille then s.titles.modify t (fun r => { r with waiting := r.waiting.erase n })
              else s.titles }
          drop = .next (s.reply .order tag .wishDrop ⟨.done, [f2 (before.length + after.length)]⟩ s'))
        ∧ ((∀ x ∈ p.wishes, ¬ (x.title = t ∧ x.format = fmt)) → refuses .noSuch)

/-- O22. WISH-MOVE takes the entry out, puts it into the band sent at the position sent, brought within the list and then
within the band, and keeps the order of the others; an ACTIVE patron with free units joins the pass queue. The answer gives
the position taken, CLAMPED where it or the band is not as sent. Its checks: no patron record NO-SUCH, a CLOSING patron STATE, a
format code of neither format, or no such entry, NO-SUCH (R22, R38). -/
def Obligations.WishMove : Prop :=
  ∀ (tag : Half) (s : State) (n t f b pos : Nat), Ready .order s → Fits [2, 2, 1, 1, 1] [n, t, f, b, pos] → NoPassFor n s →
    let move := exec (.wishMove .order tag (writeFields [2, 2, 1, 1, 1] [n, t, f, b, pos])) s
    let refuses := fun (o : OutcomeCode) => move = .next (s.reply .order tag .wishMove ⟨o, []⟩ s)
    (n = 0 ∨ 16384 < n ∨ s.patrons.get n = none → refuses .noSuch)
    ∧ ∀ p, 1 ≤ n → n ≤ 16384 → s.patrons.get n = some p →
      (p.state = .closing → refuses .state)
      ∧ (p.state ≠ .closing → f = 0 ∨ 2 < f → refuses .noSuch)
      ∧ ∀ fmt, p.state ≠ .closing → formatOfCode f = some fmt →
        ((∀ x ∈ p.wishes, ¬ (x.title = t ∧ x.format = fmt)) → refuses .noSuch)
        ∧ ∀ (before after us ns : List WishEntry) (w : WishEntry), p.wishes = before ++ w :: after → w.title = t →
          w.format = fmt → (∀ x ∈ before, ¬ (x.title = t ∧ x.format = fmt)) →
          before ++ after = us ++ ns → (∀ x ∈ us, x.band = .urgent) → (∀ x ∈ ns, x.band = .normal) →
          let inList := max 1 (min p.wishes.length pos)
          let place := if b = 1 then min inList (us.length + 1) else max inList (us.length + 1)
          let band := if b = 1 then Band.urgent else .normal
          let moved := (before ++ after).take (place - 1) ++ { w with band := band } :: (before ++ after).drop (place - 1)
          let s' : State := { s with
            patrons := s.patrons.put n { p with wishes := moved }
            passQueue := if p.state = .active ∧ p.held < p.allowance ∧ n ∉ s.passQueue then s.passQueue ++ [n]
              else s.passQueue }
          move = .next (s.reply .order tag .wishMove
            ⟨if (b = 1 ∨ b = 2) ∧ place = pos then .done else .clamped, [f1 place, f2 p.wishes.length]⟩ s')

/-! ### Catalog, settings and store -/

/-- O23. TITLE-SET by its checks in order: a number outside 1 to 60,000 gives NO-SUCH, an image above 15,288 AU TOO-LARGE, a
change of an image that a live job copies, or of a braille form whose sets are not all on the shelf, IN-USE. One that passes
them: the record, new or as it stands, takes what the two actions give, each value brought into range with CLAMPED for any
change, and keeps its withdrawn flag, copy sets and waiting list (R12). The layout of the answer's optional fields and lists is
the model's choice (log entry 8). That IN-USE compares the values as sent is log entry 21. -/
def Obligations.TitleSet : Prop :=
  ∀ (tag : Half) (s : State) (t : Nat) (ia : ImageAction) (ba : BrailleAction), Ready .order s → t < 65536 →
    (∀ size rev, ia = .set size rev → size < 65536 ∧ rev < 256) →
    (∀ ws, ba = .set ws → 1 ≤ ws.length ∧ ws.length ≤ 40 ∧ ∀ w ∈ ws, w < 65536) →
    let r := (s.titles.get t).getD { withdrawn := false, image := none, braille := none, copySets := [], waiting := [] }
    let imageChanges := match ia with
      | .keep => false
      | .set size rev => decide (r.image ≠ some ⟨size, rev⟩)
      | .remove => decide (r.image ≠ none)
    let formRefused := match ba with
      | .keep => false
      | .set ws => decide (r.braille ≠ some ws ∧ ∃ e ∈ s.copySets, e.2.title = t ∧ e.2.state ≠ .available)
      | .remove => decide (r.copySets ≠ [])
    let image := match ia with
      | .keep => r.image
      | .set size rev => some ⟨max 1 size, max 1 rev⟩
      | .remove => none
    let braille := match ba with
      | .keep => r.braille
      | .set ws => some (ws.map (fun w => max 10 (min 300 w)))
      | .remove => none
    let asSent := (∀ size rev, ia = .set size rev → 1 ≤ size ∧ 1 ≤ rev)
      ∧ ∀ ws, ba = .set ws → ∀ w ∈ ws, 10 ≤ w ∧ w ≤ 300
    let set := exec (.titleSet .order tag (leBytes 2 t ++ ia.bytes ++ ba.bytes)) s
    let inRange := 1 ≤ t ∧ t ≤ 60000 ∧ ∀ size rev, ia = .set size rev → size ≤ 15288
    (t = 0 ∨ 60000 < t → set = .next (s.reply .order tag .titleSet ⟨.noSuch, []⟩ s))
    ∧ (∀ size rev, 1 ≤ t → t ≤ 60000 → ia = .set size rev → 15288 < size →
      set = .next (s.reply .order tag .titleSet ⟨.tooLarge, []⟩ s))
    ∧ (inRange → imageChanges = true → (∃ e ∈ s.jobs, ∃ x ∈ e.2.titles, x.title = t) →
      set = .next (s.reply .order tag .titleSet ⟨.inUse, []⟩ s))
    ∧ (inRange → (imageChanges = false ∨ ∀ e ∈ s.jobs, ∀ x ∈ e.2.titles, x.title ≠ t) → formRefused = true →
      set = .next (s.reply .order tag .titleSet ⟨.inUse, []⟩ s))
    ∧ (inRange → (imageChanges = false ∨ ∀ e ∈ s.jobs, ∀ x ∈ e.2.titles, x.title ≠ t) → formRefused = false →
      ∃ o, (asSent → o = .done) ∧ (¬ asSent → o = .clamped)
        ∧ set = .next (s.reply .order tag .titleSet ⟨o, titleFields t { r with image := image, braille := braille }⟩
            { s with titles := s.titles.put t { r with image := image, braille := braille } }))

/-- O24. TITLE-WITHDRAW sets the withdrawn flag and nothing else; no record gives NO-SUCH and a withdrawn title ALREADY.
COPYSET-ADD by its checks in order: no record or no braille form NO-SUCH, a withdrawn title WITHDRAWN, 8 sets FULL, 32,768 sets in
all STORE-FULL; otherwise it makes an AVAILABLE set numbered one above the last, under the title, and in the pending offers
where the title's waiting list is not empty (R14, R15, R45). -/
def Obligations.TitleWithdrawAndCopysetAdd : Prop :=
  (∀ (tag : Half) (s : State) (t : Nat), Ready .order s → t < 65536 →
      let gives := fun (o : OutcomeCode) (s' : State) =>
        exec (.titleWithdraw .order tag (writeFields [2] [t])) s = .next (s.reply .order tag .titleWithdraw ⟨o, []⟩ s')
      (s.titles.get t = none → gives .noSuch s)
      ∧ (∀ r, s.titles.get t = some r → r.withdrawn = true → gives .already s)
      ∧ (∀ r, s.titles.get t = some r → r.withdrawn = false →
          gives .done { s with titles := s.titles.put t { r with withdrawn := true } }))
  ∧ (∀ (tag : Half) (s : State) (t : Nat), Ready .order s → t < 65536 →
      let add := exec (.copysetAdd .order tag (writeFields [2] [t])) s
      let refuses := fun (o : OutcomeCode) => add = .next (s.reply .order tag .copysetAdd ⟨o, []⟩ s)
      (s.titles.get t = none → refuses .noSuch)
      ∧ ∀ r, s.titles.get t = some r →
        (r.braille = none → refuses .noSuch)
        ∧ (r.braille ≠ none → r.withdrawn = true → refuses .withdrawn)
        ∧ (r.braille ≠ none → r.withdrawn = false → 8 ≤ r.copySets.length → refuses .full)
        ∧ (r.braille ≠ none → r.withdrawn = false → r.copySets.length < 8 → 32768 ≤ s.copySets.length →
            refuses .storeFull)
        ∧ (r.braille ≠ none → r.withdrawn = false → r.copySets.length < 8 → s.copySets.length < 32768 →
            let n := s.copySets.length + 1
            let s' : State := { s with
              titles := s.titles.put t { r with copySets := r.copySets ++ [n] }
              copySets := s.copySets.put n { title := t, state := .available }
              pendingOffers := if r.waiting = [] ∨ n ∈ s.pendingOffers then s.pendingOffers else s.pendingOffers ++ [n] }
            add = .next (s.reply .order tag .copysetAdd ⟨.done, [f2 n]⟩ s')))

/-- O25. COPYSET-READ and BAY-READ change no record: the one gives the set's number, title, volume count, state and ties, the
other the bay's fields, its last activity, the standing, the queue's length and the bays in each condition; neither names a
set or bay without a record (R16, R81; log entry 8 for the layout). -/
def Obligations.CopysetReadAndBayRead : Prop :=
  ∀ (tag : Half) (s : State) (n : Nat),
    (Ready .returns s → n < 65536 →
      (∀ c, s.copySets.get n = some c →
        exec (.copysetRead .returns tag (writeFields [2] [n])) s =
          .next (s.reply .returns tag .copysetRead ⟨.done,
            [f2 n, f2 c.title, f2 (volumeCount s c.title), f1 c.state.code] ++ setTieFields s c.state⟩ s))
      ∧ (s.copySets.get n = none →
        exec (.copysetRead .returns tag (writeFields [2] [n])) s =
          .next (s.reply .returns tag .copysetRead ⟨.noSuch, []⟩ s)))
    ∧ (Ready .duplication s → n < 256 →
      (∀ b, n < 32 → s.bays[n]? = some b →
        exec (.bayRead .duplication tag (writeFields [1] [n])) s =
          .next (s.reply .duplication tag .bayRead ⟨.done,
            [f1 b.condition.code, f1 b.activity.code, f1 b.restsToday] ++ conditionFields b.condition ++ lastFields b.last
              ++ [f1 s.standing.code, f2 s.jobQueue.length, f2 (baysIn s 1), f2 (baysIn s 2), f2 (baysIn s 3),
                  f2 (baysIn s 4)]⟩ s))
      ∧ (32 ≤ n →
        exec (.bayRead .duplication tag (writeFields [1] [n])) s =
          .next (s.reply .duplication tag .bayRead ⟨.noSuch, []⟩ s)))

/-- O26. SERVICE-SET stores a setting brought into its range, CLAMPED where that changed it, and answers the whole record; the
suspend-after and lost-after settings are kept apart by one day, and an identifier of no setting gives NO-SUCH. A new
suspend-after checks the patrons at once: an ACTIVE one with a loan overdue by it is SUSPENDED with PATRON-SUSPENDED raised, and
a SUSPENDED one without is ACTIVE again and joins the pass queue, in patron order; no other record changes (R17, R18, R27, R28,
R142, section 1.6). The order of the answer's fields is the model's choice (log entry 8). -/
def Obligations.ServiceSet : Prop :=
  ∀ (tag : Half) (s : State) (i v : Nat), Ready .order s → Fits [1, 2] [i, v] →
    let g := s.settings
    let ask := exec (.serviceSet .order tag (writeFields [1, 2] [i, v])) s
    let stores := fun (lo hi : Nat) (put : Nat → Settings) =>
      let v' := max lo (min hi v)
      ask = .next (s.reply .order tag .serviceSet ⟨if v' = v then .done else .clamped, settingsFields (put v')⟩
        { s with settings := put v' })
    (i = 1 → stores 7 120 (fun x => { g with cartTerm := x }))
    ∧ (i = 2 → stores 7 120 (fun x => { g with brailleTerm := x }))
    ∧ (i = 3 → stores 0 4 (fun x => { g with renewalMax := x }))
    ∧ (i = 4 → 2 ≤ g.lostAfter → s.patrons.wf = true →
        let v' := max 1 (min (min 120 (g.lostAfter - 1)) v)
        let late := fun (n : Nat) => s.loans.any (fun e => e.2.patron == n && (match e.2.state with
          | .overdue d => decide (v' ≤ d)
          | _ => false))
        let s' : State := { s with
          settings := { g with suspendAfter := v' }
          patrons := s.patrons.mapAll (fun n p =>
            if p.state = .active ∧ late n then { p with state := .suspended }
            else if p.state = .suspended ∧ late n = false then { p with state := .active }
            else p)
          passQueue := (s.patrons.select (fun n p => p.state == .suspended && !late n)).foldl appendNew s.passQueue }
        ask = .next (s.after .order tag .serviceSet ⟨if v' = v then .done else .clamped, settingsFields s'.settings⟩
          (if s.patrons.any (fun e => e.2.state == .active && late e.1) then [(.order, .patronSuspended)] else []) s'))
    ∧ (i = 5 → g.suspendAfter ≤ 254 → stores (g.suspendAfter + 1) 255 (fun x => { g with lostAfter := x }))
    ∧ (i = 6 → stores 1 60 (fun x => { g with partialGrace := x }))
    ∧ (i = 7 → stores 1 4000 (fun x => { g with limitNext := x }))
    ∧ (i = 8 → stores 5 240 (fun x => { g with writeDeadline := x }))
    ∧ (i = 9 → stores 2 120 (fun x => { g with wipeDeadline := x }))
    ∧ (i = 10 → stores 1 240 (fun x => { g with restInterval := x }))
    ∧ (i = 11 → stores 50 2000 (fun x => { g with wearLimit := x }))
    ∧ (i = 0 ∨ 11 < i → ask = .next (s.reply .order tag .serviceSet ⟨.noSuch, []⟩ s))

/-- O27. STORE-CLEAR leaves an empty library: every record, collection, counter, setting and day figure as at reset, FAILED
bays in SERVICE afresh, no rests and no last activities; the bad-frame counts and pending kinds are kept, and POOL-LOW and
POOL-CRITICAL of every class become pending. A bay at work, a PACKING parcel or a HANDED task gives STATE (R19). -/
def Obligations.StoreClear : Prop :=
  ∀ (tag : Half) (s : State), Ready .order s →
    let clear := exec (.storeClear .order tag []) s
    let busy := (∃ b ∈ s.bays, b.activity ≠ .idle) ∨ (∃ e ∈ s.parcels, e.2.state = .packing)
      ∨ ∃ e ∈ s.tasks, e.2.state = .handed
    (busy → clear = .next (s.reply .order tag .storeClear ⟨.state, []⟩ s))
    ∧ (¬ busy →
      let s' : State := { State.reset with
        restartAsserted := false
        virgin := s.virgin
        bays := s.bays.map (fun b =>
          { condition := if b.condition = .failed then .service .qualifying 0 0 .idle else b.condition
            restsToday := 0, last := none })
        ports := s.ports
        pending := s.pending }
      clear = .next (s.after .order tag .storeClear ⟨.done, []⟩
        ([Cls.c1, .c2, .c3].flatMap (fun c =>
          [(.duplication, .poolLow c), (.order, .poolCritical c), (.duplication, .poolCritical c)])) s'))

/-! ### Cartridges, pools and bays -/

/-- O28. CART-ENROL and CART-FORGET by their checks in order: a new cartridge is UNWIPED with counts of 0 at the tail of the
UNWIPED list; a LOST or RETIRED one is freed; nothing else changes (R65, R66). -/
def Obligations.CartEnrolAndForget : Prop :=
  ∀ (tag : Half) (s : State) (serial c : Nat), Ready .duplication s → Fits [4, 1] [serial, c] →
    let enrol := exec (.cartEnrol .duplication tag (writeFields [4, 1] [serial, c])) s
    let forget := exec (.cartForget .duplication tag (writeFields [4] [serial])) s
    let enrols := fun (o : OutcomeCode) => enrol = .next (s.reply .duplication tag .cartEnrol ⟨o, []⟩ s)
    let forgets := fun (o : OutcomeCode) (s' : State) =>
      forget = .next (s.reply .duplication tag .cartForget ⟨o, []⟩ s')
    (serial = 0 ∨ clsOfNat c = none → enrols .noSuch)
    ∧ (∀ cls, serial ≠ 0 → clsOfNat c = some cls →
        (s.carts.get serial ≠ none → enrols .already)
        ∧ (s.carts.get serial = none → 32768 ≤ s.carts.length → enrols .storeFull)
        ∧ (s.carts.get serial = none → s.carts.length < 32768 →
            let s' : State := { s with
              carts := s.carts.put serial { cls := cls, state := .unwiped, writes := 0, faults := 0 }
              unwiped := s.unwiped ++ [serial] }
            enrol = .next (s.after .duplication tag .cartEnrol ⟨.done, []⟩ [] s')))
    ∧ (s.carts.get serial = none → forgets .noSuch s)
    ∧ ∀ r, s.carts.get serial = some r →
        (r.state ≠ .lost → r.state ≠ .retired → forgets .state s)
        ∧ (r.state = .lost ∨ r.state = .retired → forgets .done { s with carts := s.carts.del serial })

/-- O29. POOL-SET stores a class's levels, the warn level brought into 1 to 1,000 and the critical level below it, and answers
the class's figures; a critical level lowered so that the free blanks come to stand above it releases the class's blocked list
to the pass queue's tail, and a raised level raises its notice. A class of none of the three gives NO-SUCH (R50, R75, R76).
That a list is released while HALTED too is log entry 29. No one stays on a released list (R24; log entry 33). -/
def Obligations.PoolSet : Prop :=
  ∀ (tag : Half) (s : State) (code w k : Nat), Ready .duplication s → Fits [1, 2, 2] [code, w, k] →
    let set := exec (.poolSet .duplication tag (writeFields [1, 2, 2] [code, w, k])) s
    (code = 0 ∨ 3 < code → set = .next (s.reply .duplication tag .poolSet ⟨.noSuch, []⟩ s))
    ∧ ∀ c, clsOfNat code = some c →
    let warn := max 1 (min 1000 w)
    let critical := min k (warn - 1)
    let free := (s.blank.get c).length - s.reserved.get c
    let released := free ≤ s.settings.critical.get c ∧ critical < free
    let s' : State := { s with
      settings := { s.settings with
        warn := s.settings.warn.set c warn, critical := s.settings.critical.set c critical }
      passQueue := if released then (s.blocked.get c).foldl appendNew s.passQueue else s.passQueue
      blocked := if released then s.blocked.set c [] else s.blocked
      stays := if released then s.stays.set c [] else s.stays }
    set = .next (s.after .duplication tag .poolSet
        ⟨if warn = w ∧ critical = k then .done else .clamped, poolFields s' c⟩ [] s')

/-- O30. BAY-ONLINE brings an OFFLINE bay, and BAY-RESTORE a FAILED one, into SERVICE with standing QUALIFYING, good streak 0,
strikes 0 and activity IDLE; the first keeps rests today, the second sets it to 0. Any other condition is refused as the rules
give, and neither changes the duplication standing (R82, R84). The layout of the answer's optional fields and lists is the
model's choice (log entry 8). -/
def Obligations.BayOnlineAndRestore : Prop :=
  ∀ (tag : Half) (s : State) (n : Nat) (b : Bay), Ready .duplication s → n < 32 → s.bays[n]? = some b →
    let fresh : Condition := .service .qualifying 0 0 .idle
    let online := exec (.bayOnline .duplication tag (writeFields [1] [n])) s
    let restore := exec (.bayRestore .duplication tag (writeFields [1] [n])) s
    let done := fun (k : Kind) (b' : Bay) =>
      let s' : State := { s with bays := s.bays.set n b' }
      Host.Outcome.next (φ := Fault) (ρ := Refusal) (s.reply .duplication tag k ⟨.done, bayFields s' n⟩ s')
    let refuses := fun (k : Kind) (o : OutcomeCode) =>
      Host.Outcome.next (φ := Fault) (ρ := Refusal) (s.reply .duplication tag k ⟨o, []⟩ s)
    (b.condition = .offline → online = done .bayOnline { b with condition := fresh }
        ∧ restore = refuses .bayRestore .state)
    ∧ (∀ st streak strikes a, b.condition = .service st streak strikes a → online = refuses .bayOnline .already
        ∧ restore = refuses .bayRestore .state)
    ∧ (∀ m, b.condition = .resting m → online = refuses .bayOnline .state ∧ restore = refuses .bayRestore .state)
    ∧ (b.condition = .failed → online = refuses .bayOnline .state
        ∧ restore = done .bayRestore { b with condition := fresh, restsToday := 0 })

/-- O31. The first checks of the bay requests: a bay number outside 0 to 31 gives NO-SUCH, and an OFFLINE bay gives STATE to
all but BAY-ONLINE and BAY-READ; no record changes (R79). -/
def Obligations.BayChecks : Prop :=
  ∀ (tag : Half) (s : State) (n serial code : Nat), Ready .duplication s → Fits [1, 4, 1] [n, serial, code] →
    let one := writeFields [1] [n]
    let three := writeFields [1, 4, 1] [n, serial, code]
    let gives := fun (k : Kind) (body : List Byte) (o : OutcomeCode) =>
      exec (Instr.ofFrame .duplication ⟨k.code, tag, body⟩) s = .next (s.reply .duplication tag k ⟨o, []⟩ s)
    (32 ≤ n → gives .bayOnline one .noSuch ∧ gives .bayOffline one .noSuch ∧ gives .bayRestore one .noSuch
        ∧ gives .work one .noSuch ∧ gives .bayFault one .noSuch ∧ gives .bayRead one .noSuch
        ∧ gives .writeDone three .noSuch ∧ gives .wipeDone three .noSuch)
    ∧ (∀ b, n < 32 → s.bays[n]? = some b → b.condition = .offline →
        gives .bayOffline one .state ∧ gives .bayRestore one .state ∧ gives .work one .state
        ∧ gives .bayFault one .state ∧ gives .writeDone three .state ∧ gives .wipeDone three .state)

/-- O32. BAY-OFFLINE: an idle, RESTING or FAILED bay goes OFFLINE. A wipe or write under way is abandoned, its cartridge to
the UNWIPED tail with its counts unchanged; an ASSIGNED job is QUEUED with a reservation where its class has a free blank and
STARVED where it has none, its attempts not raised, and a CANCEL-PENDING one is freed, which releases the marked blocked
lists. Rests today and the standing are kept (R51, R83, R95). The layout of the answer's optional fields and lists is the
model's choice (log entry 8). That a list is released while HALTED too is log entry 29. -/
def Obligations.BayOffline : Prop :=
  ∀ (tag : Half) (s : State) (n : Nat) (b : Bay), Ready .duplication s → n < 32 → s.bays[n]? = some b →
    let offline := exec (.bayOffline .duplication tag (writeFields [1] [n])) s
    let done := fun (s' : State) =>
      Host.Outcome.next (φ := Fault) (ρ := Refusal) (s.after .duplication tag .bayOffline ⟨.done, bayFields s' n⟩ [] s')
    let abandoned := fun (k : WorkKind) (serial : Nat) (c : Cart) =>
      { s with
        bays := s.bays.set n { b with condition := .offline, last := some ⟨k, serial, .abandoned⟩ }
        carts := s.carts.put serial { c with state := .unwiped }
        unwiped := s.unwiped ++ [serial] }
    (b.condition ≠ .offline → b.activity = .idle →
      offline = done { s with bays := s.bays.set n { b with condition := .offline } })
    ∧ (∀ serial m c, b.activity = .wiping serial m → s.carts.get serial = some c →
        offline = done (abandoned .wipe serial c))
    ∧ (∀ job serial m c j bay' serial', b.activity = .writing job serial m → s.carts.get serial = some c →
        s.jobs.get job = some j → j.state = .assigned bay' serial' →
        let s1 := abandoned (.write job) serial c
        let queued : State := { s1 with jobs := s.jobs.put job { j with state := .queued } }
        let starved : State := { s1 with jobs := s.jobs.put job { j with state := .starved } }
        (s.reserved.get j.cls < (s.blank.get j.cls).length →
          offline = done { queued with
            jobQueue := insertBefore (jobBefore queued) job s.jobQueue
            reserved := s.reserved.set j.cls (s.reserved.get j.cls + 1) })
        ∧ ((s.blank.get j.cls).length ≤ s.reserved.get j.cls →
          offline = done { starved with
            starved := s.starved.set j.cls (insertBefore (stampBefore starved) job (s.starved.get j.cls)) }))
    ∧ (∀ job serial m c j bay' serial', b.activity = .writing job serial m → s.carts.get serial = some c →
        s.jobs.get job = some j → j.state = .cancelPending bay' serial' →
        offline = done ({ abandoned (.write job) serial c with jobs := s.jobs.del job } : State).jobRecordFreed)

/-- O33. DUP-RESTART while HALTED with a bay in SERVICE: RUNNING, the three blocked lists released to the pass queue's tail in
class order and all marks cleared; otherwise STATE and nothing changes (R50, R52, R102). No one stays on a released list (R24;
log entry 33). -/
def Obligations.DupRestart : Prop :=
  ∀ (tag : Half) (s : State), Ready .duplication s →
    let restart := exec (.dupRestart .duplication tag []) s
    let working := ∃ b ∈ s.bays, ∃ st streak strikes a, b.condition = .service st streak strikes a
    (s.standing = .halted → working →
      restart = .next (s.reply .duplication tag .dupRestart
        ⟨.done, [f2 (baysIn s 1), f2 (baysIn s 2), f2 (baysIn s 3), f2 (baysIn s 4), f2 s.jobQueue.length]⟩
        { s with
          standing := .running
          passQueue := (s.blocked.c1 ++ s.blocked.c2 ++ s.blocked.c3).foldl appendNew s.passQueue
          blocked := ⟨[], [], []⟩
          stays := ⟨[], [], []⟩
          marks := ⟨false, false, false⟩ }))
    ∧ (s.standing = .running ∨ ¬ working →
      restart = .next (s.reply .duplication tag .dupRestart ⟨.state, []⟩ s))

/-- O34. WORK by the arbiter's four choices for an idle SERVICE bay: the UNWIPED cartridge nearest the head whose class is
needy; else, while RUNNING, the head job with the head blank of its class, its write count raised and its reservation used;
else the head of the UNWIPED list; else NONE. A RESTING, FAILED, WRITING or WIPING bay gives STATE and nothing changes (R68, R87,
R88, R89; log entry 26 for the record in NONE). The layout of the answer's optional fields and lists is the model's choice (log
entry 8). -/
def Obligations.WorkArbiter : Prop :=
  ∀ (tag : Half) (s : State) (n : Nat) (b : Bay), Ready .duplication s → n < 32 → s.bays[n]? = some b →
    let work := exec (.work .duplication tag (writeFields [1] [n])) s
    ((∃ m, b.condition = .resting m) ∨ b.condition = .failed ∨ b.activity ≠ .idle →
      work = .next (s.reply .duplication tag .work ⟨.state, []⟩ s))
    ∧ ∀ st streak strikes, b.condition = .service st streak strikes .idle →
    let needyClass := fun (c : Cls) =>
      (s.blank.get c).length - s.reserved.get c ≤ s.settings.warn.get c ∨ s.starved.get c ≠ []
    let needy := fun (serial : Nat) => ∃ r, s.carts.get serial = some r ∧ needyClass r.cls
    let noWrite := s.standing = .halted ∨ s.jobQueue = []
    let wipes := fun (serial : Nat) (r : Cart) (rest : List Nat) =>
      let s' : State := { s with
        bays := s.bays.set n { b with condition := .service st streak strikes (.wiping serial s.settings.wipeDeadline) }
        unwiped := rest
        carts := s.carts.put serial { r with state := .wiping } }
      work = .next (s.after .duplication tag .work
        ⟨.done, [f1 2, f4 serial, f1 (clsCode r.cls), f1 s.settings.wipeDeadline] ++ bayFields s' n⟩ [] s')
    (∀ front serial rest r, s.unwiped = front ++ serial :: rest → s.carts.get serial = some r → needyClass r.cls →
      (∀ x ∈ front, ¬ needy x) → wipes serial r (front ++ rest))
    ∧ (∀ job jobs j serial blanks r, (∀ x ∈ s.unwiped, ¬ needy x) → s.standing = .running → s.jobQueue = job :: jobs →
        s.jobs.get job = some j → s.blank.get j.cls = serial :: blanks → s.carts.get serial = some r →
        let s' : State := { s with
          bays := s.bays.set n
            { b with condition := .service st streak strikes (.writing job serial s.settings.writeDeadline) }
          jobQueue := jobs
          jobs := s.jobs.put job { j with state := .assigned n serial }
          blank := s.blank.set j.cls blanks
          reserved := s.reserved.set j.cls (s.reserved.get j.cls - 1)
          carts := s.carts.put serial
            { r with state := .loaded job, writes := if r.writes < 65535 then r.writes + 1 else r.writes } }
        work = .next (s.after .duplication tag .work
          ⟨.done, [f1 1, f3 job, f1 (bandCode j.band), f1 (clsCode j.cls), f4 serial, f1 s.settings.writeDeadline]
            ++ j.titles.flatMap (fun t => [f2 t.title, f1 t.revision, f2 t.footprint]) ++ bayFields s' n⟩ [] s'))
    ∧ (∀ serial rest r, (∀ x ∈ s.unwiped, ¬ needy x) → noWrite → s.unwiped = serial :: rest →
        s.carts.get serial = some r → wipes serial r rest)
    ∧ (noWrite → s.unwiped = [] →
        work = .next (s.reply .duplication tag .work ⟨.none, bayFields s n⟩ s))

/-- O35. WRITE-DONE GOOD of an ASSIGNED job: the cartridge is WRITTEN for the job's item, the item records its serial and is
ready, the job is freed, which releases the marked blocked lists, the bay is IDLE with its last activity GOOD, and the outcome
counts good: the third in a row qualifies the bay, the twenty-fifth clears its strikes. The item joins the parcel backlog,
which is served as part of the event, whatever waits in it. With an empty backlog the item's parcel is made: of its own where
the mode or the other parcels ask for it, and otherwise the cartridge joins the first FORMING parcel with room, at its place by
item order; the order's last parcel releases its group. Of a CANCEL-PENDING job the cartridge joins the UNWIPED tail, the job
is freed and the outcome counts good (R51, R91, R95, R97, R105, R113, R115, R117, R118). The layout of the answer's optional
fields and lists is the model's choice (log entry 8). That a list is released while HALTED too is log entry 29, that an item
becoming ready serves the backlog log entry 11, the order of the groups then released log entry 13. -/
def Obligations.GoodWrite : Prop :=
  ∀ (tag : Half) (s : State) (n job serial m : Nat) (b : Bay) (st : Standing) (streak strikes : Nat) (j : Job)
    (bay' serial' : Nat) (r : Cart),
    Ready .duplication s → n < 32 → serial < 2 ^ 32 → s.bays[n]? = some b →
    b.condition = .service st streak strikes (.writing job serial m) → s.jobs.get job = some j →
    s.carts.get serial = some r →
    let counted : Condition :=
      match st with
      | .qualifying => if streak < 2 then .service .qualifying (streak + 1) strikes .idle else .service .qualified 0 0 .idle
      | .qualified => if streak < 24 then .service .qualified (streak + 1) strikes .idle else .service .qualified 0 0 .idle
    let write := exec (.writeDone .duplication tag (writeFields [1, 4, 1] [n, serial, 1])) s
    let bays := s.bays.set n { b with condition := counted, last := some ⟨.write job, serial, .good⟩ }
    (j.state = .cancelPending bay' serial' →
      let s' := ({ s with
        bays := bays
        carts := s.carts.put serial { r with state := .unwiped }
        unwiped := s.unwiped ++ [serial]
        jobs := s.jobs.del job } : State).jobRecordFreed
      write = .next (s.after .duplication tag .writeDone ⟨.done, bayFields s' n⟩ [] s'))
    ∧ ∀ o i, j.state = .assigned bay' serial' → s.orders.get j.order = some o →
      o.items.find? (fun x => x.object == .job job) = some i →
      let written := ({ s with
        bays := bays
        carts := s.carts.put serial { r with state := .written j.order i.place }
        jobs := s.jobs.del job
        orders := s.orders.put j.order { o with items := o.items.map (fun x =>
          if x.place = i.place then { x with object := .cart serial, ready := true } else x) } } : State).jobRecordFreed
      (s.tablesWf = true → ∀ u, BacklogServed written u →
        write = .next (s.after .duplication tag .writeDone ⟨.done, bayFields u n⟩ [] u))
      ∧ ∃ t, write = .next t
      ∧ Answered s t .duplication tag Kind.writeDone.code ⟨.done, bayFields t n⟩
      ∧ t.bays = bays
      ∧ t.carts = s.carts.put serial { r with state := .written j.order i.place }
      ∧ t.jobs = s.jobs.del job
      ∧ t.orders = s.orders.put j.order { o with items := o.items.map (fun x =>
          if x.place = i.place then { x with object := .cart serial, ready := true } else x) }
      ∧ t.patrons = s.patrons ∧ t.titles = s.titles ∧ t.copySets = s.copySets ∧ t.tasks = s.tasks ∧ t.loans = s.loans
      ∧ t.heldTotal = s.heldTotal ∧ t.blank = s.blank ∧ t.unwiped = s.unwiped ∧ t.reserved = s.reserved
      ∧ t.starved = s.starved ∧ t.jobQueue = s.jobQueue ∧ t.pullQueue = s.pullQueue ∧ t.settings = s.settings
      ∧ t.day = s.day ∧ t.dayOpen = s.dayOpen ∧ t.tally = s.tally ∧ t.standing = s.standing
      ∧ t.pendingOffers = s.pendingOffers ∧ t.offer = s.offer ∧ t.todayCount = s.todayCount
      ∧ t.reservedCap = s.reservedCap ∧ t.running = s.running ∧ t.pending = s.pending
      ∧ t.passQueue = s.jobRecordFreed.passQueue ∧ t.blocked = s.jobRecordFreed.blocked
      ∧ t.stays = s.jobRecordFreed.stays ∧ t.marks = s.jobRecordFreed.marks
      ∧ (NewlyReady s j.order o i (.cart serial) → (o.mode = .together → ¬ roomToJoin s j.order) →
          ParcelsMade s t j.order o i [.cartridges [serial]])
      ∧ ∀ g rg before x after p front back, NewlyReady s j.order o i (.cart serial) → o.mode = .together →
          LiveGroup s j.order g rg → rg.parcels = before ++ x :: after → s.parcels.get x = some p → p.state = .forming →
          p.contents = .cartridges (front ++ back) → (front ++ back).length < 4 →
          (∀ y ∈ before, ∀ q, s.parcels.get y = some q → ∀ cs, q.contents = .cartridges cs → 4 ≤ cs.length) →
          (∀ c ∈ front, ∃ y ∈ o.items, y.object = .cart c ∧ y.place < i.place) →
          (∀ c ∈ back, ∃ y ∈ o.items, y.object = .cart c ∧ i.place < y.place) →
          let joined : Parcel := { p with contents := .cartridges (front ++ serial :: back) }
          t.groups = s.groups ∧ t.counters = s.counters
          ∧ (¬ othersParcelled s j.order o i → t.dispatchQueue = s.dispatchQueue
              ∧ ∀ y, t.parcels.get y = if y = x then some joined else s.parcels.get y)
          ∧ (othersParcelled s j.order o i → JoinedAtTail s rg.band rg.parcels t.dispatchQueue
              ∧ ∀ y, t.parcels.get y =
                  if y = x then some { joined with state := .ready }
                  else if y ∈ rg.parcels then (s.parcels.get y).map (fun q => { q with state := .ready })
                  else s.parcels.get y)

/-- O36. WIPE-DONE GOOD: a cartridge at the wear limit is RETIRED; otherwise it is BLANK at its pool's tail, and the class's
oldest starved job takes a free blank, or else free blanks that come to stand above the critical level release the class's
blocked list (R50, R69, R74, R93). The layout of the answer's optional fields and lists is the model's choice (log entry 8).
That a list is released while HALTED too is log entry 29. No one stays on a released list (R24; log entry 33). -/
def Obligations.GoodWipe : Prop :=
  ∀ (tag : Half) (s : State) (n serial m : Nat) (b : Bay) (st : Standing) (streak strikes : Nat) (r : Cart),
    Ready .duplication s → n < 32 → serial < 2 ^ 32 → s.bays[n]? = some b →
    b.condition = .service st streak strikes (.wiping serial m) → s.carts.get serial = some r →
    let c := r.cls
    let wipe := exec (.wipeDone .duplication tag (writeFields [1, 4, 1] [n, serial, 1])) s
    let counted : Condition :=
      match st with
      | .qualifying => if streak < 2 then .service .qualifying (streak + 1) strikes .idle else .service .qualified 0 0 .idle
      | .qualified => if streak < 24 then .service .qualified (streak + 1) strikes .idle else .service .qualified 0 0 .idle
    let bays := s.bays.set n { b with condition := counted, last := some ⟨.wipe, serial, .good⟩ }
    let done := fun (s' : State) =>
      wipe = .next (s.after .duplication tag .wipeDone ⟨.done, bayFields s' n⟩ [] s')
    (s.settings.wearLimit ≤ r.writes →
      done { s with bays := bays, carts := s.carts.put serial { r with state := .retired } })
    ∧ (r.writes < s.settings.wearLimit →
      let pool := s.blank.set c (s.blank.get c ++ [serial])
      let carts := s.carts.put serial { r with state := .blank }
      let free := (s.blank.get c).length - s.reserved.get c
      let free' := (s.blank.get c).length + 1 - s.reserved.get c
      (s.starved.get c = [] →
        let released := free ≤ s.settings.critical.get c ∧ s.settings.critical.get c < free'
        done { s with
          bays := bays, carts := carts, blank := pool
          passQueue := if released then (s.blocked.get c).foldl appendNew s.passQueue else s.passQueue
          blocked := if released then s.blocked.set c [] else s.blocked
          stays := if released then s.stays.set c [] else s.stays })
      ∧ (∀ job rest j, s.starved.get c = job :: rest → s.jobs.get job = some j → j.cls = c → free = 0 → 0 < free' →
        let s1 : State := { s with
          bays := bays, carts := carts, blank := pool, starved := s.starved.set c rest
          jobs := s.jobs.put job { j with state := .queued }
          reserved := s.reserved.set c (s.reserved.get c + 1) }
        done { s1 with jobQueue := insertBefore (jobBefore s1) job s.jobQueue }))

/-- O37. A bad outcome of a wipe, reported by WIPE-DONE FAIL, by BAY-FAULT, or by the expiry of its deadline: the cartridge's
fault count rises by 1, to the UNWIPED tail below 3 and RETIRED at 3, and the outcome counts bad for the bay. A QUALIFIED bay
without strikes takes a strike; any other is rested while it has had fewer than two rests today and is FAILED otherwise, which
halts duplication where no other bay works (R69, R93, R94, R96, R97, R98, R101). The layout of the answer's optional fields
and lists is the model's choice (log entry 8). The expiry as a step of its own is log entry 16. -/
def Obligations.BadWipe : Prop :=
  ∀ (tag : Half) (s : State) (n serial m : Nat) (b : Bay) (st : Standing) (streak strikes : Nat) (r : Cart),
    n < 32 → serial < 2 ^ 32 → s.bays[n]? = some b → b.condition = .service st streak strikes (.wiping serial m) →
    s.carts.get serial = some r →
    let faulted : State :=
      if r.faults < 2 then { s with
        carts := s.carts.put serial { r with faults := r.faults + 1, state := .unwiped }
        unwiped := s.unwiped ++ [serial] }
      else { s with carts := s.carts.put serial { r with faults := 3, state := .retired } }
    let strike := st = .qualified ∧ strikes = 0
    let others := ∃ k, ∃ x, k ≠ n ∧ s.bays[k]? = some x ∧
      ((∃ a c d e, x.condition = .service a c d e) ∨ ∃ a, x.condition = .resting a)
    let bay' := fun (e : Ending) (c : Condition) (rests : Nat) =>
      { faulted with bays := s.bays.set n { condition := c, restsToday := rests, last := some ⟨.wipe, serial, e⟩ } }
    let gives := fun (e : Ending) (raised : List (Link × Notice)) (s' : State) =>
      (e = .fail → Ready .duplication s →
        exec (.wipeDone .duplication tag (writeFields [1, 4, 1] [n, serial, 2])) s =
          .next (s.after .duplication tag .wipeDone ⟨.done, bayFields s' n⟩ raised s'))
      ∧ (e = .fault → Ready .duplication s →
        exec (.bayFault .duplication tag (writeFields [1] [n])) s =
          .next (s.after .duplication tag .bayFault ⟨.done, bayFields s' n⟩ raised s'))
      ∧ (e = .expired → m = 0 → s.restartAsserted = false →
        exec (.deadlineExpiry n) s = .next (s.ended raised s'))
    ∀ e : Ending, e = .fail ∨ e = .fault ∨ e = .expired →
      (strike → gives e [] (bay' e (.service .qualified 0 1 .idle) b.restsToday))
      ∧ (¬ strike → b.restsToday < 2 →
          gives e [(.duplication, .bayResting)] (bay' e (.resting s.settings.restInterval) (b.restsToday + 1)))
      ∧ (¬ strike → 2 ≤ b.restsToday → (others ∨ s.standing = .halted) →
          gives e [(.duplication, .bayFailed)] (bay' e .failed b.restsToday))
      ∧ (¬ strike → 2 ≤ b.restsToday → ¬ others → s.standing = .running →
          gives e [(.duplication, .bayFailed), (.order, .dupHalted), (.duplication, .dupHalted)]
            { bay' e .failed b.restsToday with standing := .halted })

/-- O38. A bad outcome of a write, reported by WRITE-DONE VERIFY-FAIL or WRITE-FAIL, by BAY-FAULT, or by the expiry of its
deadline: the cartridge's fault count rises and the outcome counts bad for the bay, whatever its standing. An ASSIGNED job with
fewer than three bad attempts before it has one more, and is QUEUED with a new blank where its class has a free one and STARVED
where it has none. At the fourth it is abandoned: freed, which releases the marked blocked lists, and its item dropped, H
falling by 1, the order freed where nothing undispatched remains or its waiting group released where the rest is ready and
parcelled, and, for a patron not CLOSING, its entries back in the wish list and the patron on the pass queue, with ITEM-DROPPED
raised; a CLOSING patron's entries are freed, and its record with its last unit. A CANCEL-PENDING job is freed. The endings are
told apart in the last activity only (R30, R40, R51, R69, R73, R92, R94, R95, R96, R97, R98, R101, R111, R112, R118). The
layout of the answer's optional fields and lists is the model's choice (log entry 8). The expiry as a step of its own is log
entry 16, the order of release and append log entry 12. That a list is released while HALTED too is log entry 29. -/
def Obligations.BadWrite : Prop :=
  ∀ (tag : Half) (s : State) (n job serial m : Nat) (b : Bay) (st : Standing) (streak strikes : Nat) (j : Job)
    (bay' serial' : Nat) (r : Cart),
    n < 32 → serial < 2 ^ 32 → s.bays[n]? = some b → b.condition = .service st streak strikes (.writing job serial m) →
    s.jobs.get job = some j → s.carts.get serial = some r →
    let faulted := s.cartFaulted serial r
    let gives := fun (e : Ending) (raised : List (Link × Notice)) (before : State) =>
      let c := before.badAt n b (some ⟨.write job, serial, e⟩)
      (∀ code, (code = 2 ∧ e = .verifyFail ∨ code = 3 ∧ e = .writeFail) → Ready .duplication s →
        exec (.writeDone .duplication tag (writeFields [1, 4, 1] [n, serial, code])) s =
          .next (s.after .duplication tag .writeDone ⟨.done, bayFields c.1 n⟩ (raised ++ c.2) c.1))
      ∧ (e = .fault → Ready .duplication s →
        exec (.bayFault .duplication tag (writeFields [1] [n])) s =
          .next (s.after .duplication tag .bayFault ⟨.done, bayFields c.1 n⟩ (raised ++ c.2) c.1))
      ∧ (e = .expired → m = 0 → s.restartAsserted = false →
        exec (.deadlineExpiry n) s = .next (s.ended (raised ++ c.2) c.1))
    ∀ e : Ending, e = .verifyFail ∨ e = .writeFail ∨ e = .fault ∨ e = .expired →
      (j.state = .assigned bay' serial' → j.attempts < 3 → s.reserved.get j.cls < (s.blank.get j.cls).length →
        let queued : State := { faulted with
          jobs := s.jobs.put job { j with attempts := j.attempts + 1, state := .queued } }
        gives e [] { queued with
          jobQueue := insertBefore (jobBefore queued) job s.jobQueue
          reserved := s.reserved.set j.cls (s.reserved.get j.cls + 1) })
      ∧ (j.state = .assigned bay' serial' → j.attempts < 3 → (s.blank.get j.cls).length ≤ s.reserved.get j.cls →
        let starved : State := { faulted with
          jobs := s.jobs.put job { j with attempts := j.attempts + 1, state := .starved } }
        gives e [] { starved with
          starved := s.starved.set j.cls (insertBefore (stampBefore starved) job (s.starved.get j.cls)) })
      ∧ (j.state = .cancelPending bay' serial' →
        gives e [] ({ faulted with jobs := s.jobs.del job } : State).jobRecordFreed)
      ∧ ∀ o i p, j.state = .assigned bay' serial' → 3 ≤ j.attempts → s.orders.get j.order = some o →
        o.items.find? (fun x => x.object == .job job) = some i →
        o.items.find? (fun x => x.place == i.place) = some i → (∀ w ∈ i.entries, w.format = .cartridge) →
        s.patrons.get o.patron = some p →
        let rest := o.items.filter (fun x => x.place != i.place)
        let freed := ({ faulted with
          jobs := s.jobs.del job
          orders := if ∀ x ∈ rest, x.dispatched = true then s.orders.del j.order
            else s.orders.put j.order { o with items := rest }
          heldTotal := s.heldTotal - 1 } : State).jobRecordFreed
        (p.state ≠ .closing → ∀ u, GroupSettled { freed with
            patrons := s.patrons.put o.patron { p with held := p.held - 1, wishes := entriesBack i.entries p.wishes }
            passQueue := appendNew freed.passQueue o.patron } j.order u →
          gives e [(.order, .itemDropped)] u)
        ∧ (p.state = .closing → ∀ u, GroupSettled { freed with
            patrons := if p.held - 1 = 0 then s.patrons.del o.patron
              else s.patrons.put o.patron { p with held := p.held - 1 } } j.order u →
          gives e [(.order, .itemDropped)] u)

/-- O39. BAY-FAULT of an IDLE SERVICE bay counts one bad outcome, whatever its standing and its rests today, and touches no
cartridge, job or last activity; of a RESTING or FAILED bay it gives STATE. A report with an outcome code of none of its
outcomes gives NO-SUCH; one for a bay that has no such activity is LATE. Neither changes anything (R90, R96, R97, R98, R101). The
layout of the answer's optional fields and lists is the model's choice (log entry 8). -/
def Obligations.IdleFaultAndLateReports : Prop :=
  ∀ (tag : Half) (s : State) (n serial code : Nat) (b : Bay), Ready .duplication s → Fits [1, 4, 1] [n, serial, code] →
    n < 32 → s.bays[n]? = some b →
    let fault := exec (.bayFault .duplication tag (writeFields [1] [n])) s
    let writeDone := exec (.writeDone .duplication tag (writeFields [1, 4, 1] [n, serial, code])) s
    let wipeDone := exec (.wipeDone .duplication tag (writeFields [1, 4, 1] [n, serial, code])) s
    (∀ st streak strikes, b.condition = .service st streak strikes .idle →
      let c := s.badAt n b b.last
      fault = .next (s.after .duplication tag .bayFault ⟨.done, bayFields c.1 n⟩ c.2 c.1))
    ∧ (b.condition = .failed ∨ (∃ m, b.condition = .resting m) →
      fault = .next (s.reply .duplication tag .bayFault ⟨.state, []⟩ s))
    ∧ (b.condition ≠ .offline → code = 0 ∨ 3 < code →
      writeDone = .next (s.reply .duplication tag .writeDone ⟨.noSuch, []⟩ s))
    ∧ (b.condition ≠ .offline → code = 0 ∨ 2 < code →
      wipeDone = .next (s.reply .duplication tag .wipeDone ⟨.noSuch, []⟩ s))
    ∧ (b.condition ≠ .offline → 1 ≤ code → code ≤ 3 → (∀ job m, b.activity ≠ .writing job serial m) →
      writeDone = .next (s.reply .duplication tag .writeDone ⟨.late, []⟩ s))
    ∧ (b.condition ≠ .offline → 1 ≤ code → code ≤ 2 → (∀ m, b.activity ≠ .wiping serial m) →
      wipeDone = .next (s.reply .duplication tag .wipeDone ⟨.late, []⟩ s))

/-- O40. An event of the minute time base lowers every running deadline and rest by one minute and changes nothing else; a
rest that has reached 0 ends in SERVICE afresh with its rests today kept, and an expiry whose time has not come does nothing
(R80, R99; log entries 6 and 16). -/
def Obligations.MinutesAndRests : Prop :=
  ∀ s : State, s.restartAsserted = false →
    exec .minuteEvent s = .next { s with
      bays := s.bays.map (fun b => { b with
        condition := match b.condition with
          | .service st streak strikes (.writing job serial m) => .service st streak strikes (.writing job serial (m - 1))
          | .service st streak strikes (.wiping serial m) => .service st streak strikes (.wiping serial (m - 1))
          | .service st streak strikes .idle => .service st streak strikes .idle
          | .resting m => .resting (m - 1)
          | .offline => .offline
          | .failed => .failed }) }
    ∧ ∀ (n : Nat) (b : Bay), n < 32 → s.bays[n]? = some b →
      (b.condition = .resting 0 → exec (.restExpiry n) s =
        .next { s with bays := s.bays.set n { b with condition := .service .qualifying 0 0 .idle } })
      ∧ (b.condition ≠ .resting 0 → exec (.restExpiry n) s = .next s)
      ∧ (b.activity = .idle → exec (.deadlineExpiry n) s = .next s)
      ∧ ∀ job serial m, b.activity = .writing job serial (m + 1) ∨ b.activity = .wiping serial (m + 1) →
          exec (.deadlineExpiry n) s = .next s

/-! ### Pulls, parcels and the dispatch day -/

/-- O41. NEXT-PULL by its checks: LIMIT while 16 tasks are HANDED, NONE without a QUEUED task, otherwise the first QUEUED task
in queue order is HANDED at its place and its set goes from RESERVED to PULLING. PULLED of a HANDED task frees it, puts its set
IN-DISPATCH and makes its item ready; the item joins the parcel backlog, which is served as part of the event, whatever waits
in it; with an empty backlog the set is packed by next-fit into parcels, which form an AS-READY item's own group, released at
once, or join a TOGETHER order's group, released with the order's last parcel, and are not made where the records free are too
few. An unknown task gives NO-SUCH and a QUEUED one STATE (R105, R106, R108, R109, R113, R114, R117, R118). The layout of the
answers' optional fields and lists, with PULLED's flag ahead of the parcels, is the model's choice (log entry 8). That an item
becoming ready serves the backlog is log entry 11, the order of the groups then released log entry 13. -/
def Obligations.NextPullAndPulled : Prop :=
  ∀ (tag : Half) (s : State), Ready .mailroom s →
    let handed := countOf (fun e => e.2.state == .handed) s.tasks
    let queued := fun (n : Nat) => ∃ t, s.tasks.get n = some t ∧ t.state = .queued
    let ask := exec (.nextPull .mailroom tag []) s
    let pulled := fun (n : Nat) => exec (.pulled .mailroom tag (writeFields [3] [n])) s
    (16 ≤ handed → ask = .next (s.reply .mailroom tag .nextPull ⟨.limit, []⟩ s))
    ∧ (handed < 16 → (∀ n ∈ s.pullQueue, ¬ queued n) →
      ask = .next (s.reply .mailroom tag .nextPull ⟨.none, []⟩ s))
    ∧ (∀ before n after t c o p, handed < 16 → s.pullQueue = before ++ n :: after → (∀ m ∈ before, ¬ queued m) →
        s.tasks.get n = some t → t.state = .queued → s.copySets.get t.copySet = some c → c.state = .reserved o p →
        ask = .next (s.reply .mailroom tag .nextPull
          ⟨.done, [f3 n, f1 (bandCode t.band), f3 t.order, f2 (orderPatron s t.order), f2 t.copySet, f2 c.title,
            f2 (volumeCount s c.title)]⟩
          { s with
            tasks := s.tasks.put n { t with state := .handed }
            copySets := s.copySets.put t.copySet { c with state := .pulling o p } }))
    ∧ ∀ n, n < 256 ^ 3 →
      (s.tasks.get n = none → pulled n = .next (s.reply .mailroom tag .pulled ⟨.noSuch, []⟩ s))
      ∧ (queued n → pulled n = .next (s.reply .mailroom tag .pulled ⟨.state, []⟩ s))
      ∧ (∀ t c o p r, s.tasks.get n = some t → t.state = .handed → s.copySets.get t.copySet = some c →
          c.state = .pulling o p → s.orders.get o = some r → t.order = o →
          let ready : State := { s with
            tasks := s.tasks.del n
            pullQueue := s.pullQueue.erase n
            copySets := s.copySets.put t.copySet { c with state := .inDispatch o p }
            orders := s.orders.put o
              { r with items := r.items.map (fun i => if i.place = p then { i with ready := true } else i) } }
          (s.tablesWf = true → ∀ u, BacklogServed ready u →
            pulled n = .next (s.after .mailroom tag .pulled
              ⟨.done, [f2 t.copySet, f3 o, f1 (modeCode r.mode), fFlag (itemParcels u o (.copySet t.copySet)).isEmpty]
                ++ madeFields u o t.copySet⟩ [] u))
          ∧ ∃ u, pulled n = .next u
            ∧ Answered s u .mailroom tag Kind.pulled.code
                ⟨.done, [f2 t.copySet, f3 o, f1 (modeCode r.mode), fFlag (itemParcels u o (.copySet t.copySet)).isEmpty]
                  ++ madeFields u o t.copySet⟩
            ∧ u.tasks = s.tasks.del n ∧ u.pullQueue = s.pullQueue.erase n
            ∧ u.copySets = s.copySets.put t.copySet { c with state := .inDispatch o p }
            ∧ u.orders = s.orders.put o
                { r with items := r.items.map (fun i => if i.place = p then { i with ready := true } else i) }
            ∧ u.patrons = s.patrons ∧ u.titles = s.titles ∧ u.carts = s.carts ∧ u.jobs = s.jobs ∧ u.loans = s.loans
            ∧ u.heldTotal = s.heldTotal ∧ u.blank = s.blank ∧ u.unwiped = s.unwiped ∧ u.reserved = s.reserved
            ∧ u.starved = s.starved ∧ u.jobQueue = s.jobQueue ∧ u.settings = s.settings ∧ u.bays = s.bays
            ∧ u.day = s.day ∧ u.dayOpen = s.dayOpen ∧ u.tally = s.tally ∧ u.standing = s.standing
            ∧ u.passQueue = s.passQueue ∧ u.pendingOffers = s.pendingOffers ∧ u.offer = s.offer ∧ u.blocked = s.blocked
            ∧ u.stays = s.stays ∧ u.marks = s.marks ∧ u.todayCount = s.todayCount ∧ u.reservedCap = s.reservedCap ∧ u.running = s.running
            ∧ u.pending = s.pending
            ∧ ∀ i ti weights, r.items.find? (fun x => x.place == p) = some i → i.object = .copySet t.copySet →
                s.titles.get c.title = some ti → ti.braille = some weights → weights ≠ [] →
                NewlyReady s o r i (.copySet t.copySet) →
                ParcelsMade s u o r i ((packVolumes weights).map (Contents.volumes t.copySet)))

/-- O42. NOT-FOUND of a HANDED task: the task is freed, the set is INCOMPLETE with every volume missing, the item leaves its
order, which is freed where nothing undispatched remains, H falls by 1 and ITEM-DROPPED is raised. For a patron ACTIVE, PAUSED
or SUSPENDED the entry returns to the head of its band, and the patron to the head of the waiting list, while the list has
room, and the patron joins the tail of the pass queue; a CLOSING patron's entry is freed, and its record with its last unit. A
TOGETHER order's group is released where every item that remains is ready and has its parcels, to the tail of its band, and
otherwise waits; PARCEL-WAITING becomes pending where no parcel was READY before (R30, R40, R104, R106, R110, R111, R112, R118,
R125). -/
def Obligations.NotFound : Prop :=
  ∀ (tag : Half) (s : State) (n : Nat), Ready .mailroom s → n < 256 ^ 3 →
    let report := exec (.notFound .mailroom tag (writeFields [3] [n])) s
    (s.tasks.get n = none → report = .next (s.reply .mailroom tag .notFound ⟨.noSuch, []⟩ s))
    ∧ (∀ t, s.tasks.get n = some t → t.state = .queued →
      report = .next (s.reply .mailroom tag .notFound ⟨.state, []⟩ s))
    ∧ (∀ (t : PullTask) (c : CopySet) (o p : Nat) (ti : Title) (weights : List Nat) (r : Order) (i : Item) (w : WishEntry)
        (pat : Patron),
      s.tasks.get n = some t → t.state = .handed → s.copySets.get t.copySet = some c → c.state = .pulling o p →
      s.titles.get c.title = some ti → ti.braille = some weights → s.orders.get o = some r →
      r.items.find? (fun x => x.place == p) = some i → i.entries = [w] → w.format = .braille → w.title = c.title →
      s.patrons.get r.patron = some pat →
      let rest := r.items.filter (fun x => x.place != p)
      let dropped : State := { s with
        tasks := s.tasks.del n
        pullQueue := s.pullQueue.erase n
        copySets := s.copySets.put t.copySet
          { c with state := .incomplete ((List.range weights.length).map (fun v => v + 1)) }
        orders := if ∀ x ∈ rest, x.dispatched = true then s.orders.del o else s.orders.put o { r with items := rest }
        heldTotal := s.heldTotal - 1 }
      let s' : State :=
        if pat.state = .closing then
          { dropped with
            patrons := if pat.held - 1 = 0 then s.patrons.del r.patron
              else s.patrons.put r.patron { pat with held := pat.held - 1 } }
        else
          { dropped with
            patrons := s.patrons.put r.patron { pat with held := pat.held - 1, wishes := entriesBack [w] pat.wishes }
            titles := if pat.wishes.length < 64 then
                s.titles.put c.title { ti with waiting := r.patron :: ti.waiting.erase r.patron }
              else s.titles
            passQueue := appendNew s.passQueue r.patron }
      let after := s.after .mailroom tag .notFound ⟨.done, []⟩ [(.order, .itemDropped)]
      ((r.mode = .asReady ∨ ∀ x ∈ rest, x.dispatched = true) → report = .next (after s'))
      ∧ ∀ u, GroupSettled s' o u →
        report = .next (after u)
        ∧ ((∀ e ∈ s.dispatchQueue, (s.parcels.get e).map Parcel.state ≠ some .ready) →
            (∃ e ∈ u.dispatchQueue, (u.parcels.get e).map Parcel.state = some .ready) →
            Notice.parcelWaiting ∈ ((after u).port .mailroom).notices))

/-- O43. Volumes are packed by next-fit in volume order: every volume once and in order, no parcel empty, none above 4 volumes
or 7,000 g (700 units of 10 g), and a parcel is followed by another only where that one's first volume did not fit (R114). -/
def Obligations.NextFitPacking : Prop :=
  ∀ ws : List Nat, (∀ w ∈ ws, 10 ≤ w ∧ w ≤ 300) →
    let weight := fun (vols : List Nat) => (vols.map (fun v => ws.getD (v - 1) 0)).sum
    (packVolumes ws).flatten = (List.range ws.length).map (fun v => v + 1)
    ∧ (∀ vols ∈ packVolumes ws, vols ≠ [] ∧ vols.length ≤ 4 ∧ weight vols ≤ 700)
    ∧ ∀ before a v b after, packVolumes ws = before ++ a :: (v :: b) :: after →
        a.length = 4 ∨ 700 < weight a + weight [v]

/-- O44. NEXT-PARCEL by its checks: LIMIT while 8 parcels are PACKING, NONE without a READY parcel, DAY-FULL where no READY
parcel's group qualifies; otherwise the first READY parcel of a qualifying group is PACKING at its place, its group is begun,
and today's count and the reserved capacity move (R126, R127, R128). The layout of the answer's optional fields and lists is
the model's choice (log entry 8). That the weight in grams takes 2 bytes is log entry 32. -/
def Obligations.NextParcel : Prop :=
  ∀ (tag : Half) (s : State), Ready .mailroom s →
    let packing := countOf (fun e => e.2.state == .packing) s.parcels
    let ready := fun (n : Nat) => ∃ p, s.parcels.get n = some p ∧ p.state = .ready
    let qualifying := fun (g : DispatchGroup) =>
      g.begun = true ∨ g.parcels.length + s.todayCount + s.reservedCap ≤ s.settings.limitInForce
        ∨ (s.todayCount = 0 ∧ ∀ e ∈ s.groups, e.2.begun = false)
    let given := fun (n : Nat) => ∃ p g, s.parcels.get n = some p ∧ p.state = .ready ∧ s.groups.get p.group = some g
      ∧ qualifying g
    let ask := exec (.nextParcel .mailroom tag []) s
    let same := fun (o : OutcomeCode) => ask = .next (s.reply .mailroom tag .nextParcel ⟨o, []⟩ s)
    (8 ≤ packing → same .limit)
    ∧ (packing < 8 → (∀ n ∈ s.dispatchQueue, ¬ ready n) → same .none)
    ∧ (packing < 8 → (∃ n ∈ s.dispatchQueue, ready n) → (∀ n ∈ s.dispatchQueue, ¬ given n) → same .dayFull)
    ∧ (∀ before n after p g, packing < 8 → s.dispatchQueue = before ++ n :: after → (∀ m ∈ before, ¬ given m) →
        s.parcels.get n = some p → p.state = .ready → s.groups.get p.group = some g → qualifying g →
        let s' : State := { s with
          parcels := s.parcels.put n { p with state := .packing }
          groups := s.groups.put p.group { g with begun := true }
          todayCount := s.todayCount + 1
          reservedCap := if g.begun then s.reservedCap - 1 else s.reservedCap + (g.parcels.length - 1) }
        let contents := match p.contents with
          | .cartridges serials => f1 1 :: serials.map f4
          | .volumes set vols =>
            [f1 2, f2 set, f2 ((titleOfSet s set).getD 0)] ++ vols.map f1 ++ [f2 (parcelGrams s set vols)]
        ask = .next (s.reply .mailroom tag .nextParcel
          ⟨.done, [f3 n] ++ contents ++ [f3 p.group, f1 (bandCode g.band), fFlag (!g.begun),
            f2 (countOf (fun m => parcelState s' m == some .ready) g.parcels), f3 p.order, f2 (orderPatron s p.order),
            f2 s'.todayCount, f2 s'.reservedCap]⟩ s'))

/-- O45. UNPACK: a number with no live parcel gives NO-SUCH and a parcel that is not PACKING gives STATE. A PACKING parcel
becomes READY at its place, its group stays begun, today's count falls by 1 and the reserved capacity rises by 1; PARCEL-
WAITING becomes pending where no parcel of the queue was READY; the answer is DONE with the two figures (R130). -/
def Obligations.Unpack : Prop :=
  ∀ (tag : Half) (s : State) (n : Nat), Ready .mailroom s → n < 256 ^ 3 →
    let ask := exec (.unpack .mailroom tag (writeFields [3] [n])) s
    (s.parcels.get n = none → ask = .next (s.reply .mailroom tag .unpack ⟨.noSuch, []⟩ s))
    ∧ (∀ p, s.parcels.get n = some p → p.state ≠ .packing →
      ask = .next (s.reply .mailroom tag .unpack ⟨.state, []⟩ s))
    ∧ (∀ p, s.parcels.get n = some p → p.state = .packing →
      let s' : State := { s with
        parcels := s.parcels.put n { p with state := .ready }
        todayCount := s.todayCount - 1
        reservedCap := s.reservedCap + 1 }
      ask = .next (s.after .mailroom tag .unpack ⟨.done, [f2 s'.todayCount, f2 s'.reservedCap]⟩ [] s'))

/-- O46. PACKED: the parcel is DISPATCHED and leaves the queue, today's count keeping it; while its group holds another parcel
not DISPATCHED nothing else changes. At the group's last parcel the loans are created: for an order of one cartridge, one OUT
loan of the cartridge term; the cartridge is ON-LOAN, and parcel, group and order are freed. For any group, one loan for each
item whose parcels it holds, in item order and with the next loan numbers, cartridges and sets alike, each at its kind's term;
the items are dispatched, and the order freed where nothing undispatched remains. The parcel records freed then serve the
backlog, whatever waits in it (R104, R113, R118, R129, R131, R132). The layout of the answer's optional fields and lists is the
model's choice (log entry 8). The order of the groups that the backlog completes is log entry 13, that they raise
PARCEL-WAITING log entry 30. -/
def Obligations.Packed : Prop :=
  ∀ (tag : Half) (s : State) (n : Nat), Ready .mailroom s → n < 256 ^ 3 →
    let ask := exec (.packed .mailroom tag (writeFields [3] [n])) s
    (s.parcels.get n = none → ask = .next (s.reply .mailroom tag .packed ⟨.noSuch, []⟩ s))
    ∧ (∀ p, s.parcels.get n = some p → p.state ≠ .packing →
      ask = .next (s.reply .mailroom tag .packed ⟨.state, []⟩ s))
    ∧ (∀ p g m, s.parcels.get n = some p → p.state = .packing → s.groups.get p.group = some g → m ∈ g.parcels → m ≠ n →
        (∀ q, s.parcels.get m = some q → q.state ≠ .dispatched) →
        let s' : State := { s with
          parcels := s.parcels.put n { p with state := .dispatched }
          dispatchQueue := s.dispatchQueue.erase n }
        ask = .next (s.reply .mailroom tag .packed
          ⟨.done, [f3 n, f2 (g.parcels.length - countOf (fun k => parcelState s' k == some .dispatched) g.parcels)]⟩ s'))
    ∧ (∀ p g serial r i ct, s.tablesWf = true → s.parcels.get n = some p → p.state = .packing →
        s.groups.get p.group = some g → g.parcels = [n] → p.contents = .cartridges [serial] →
        s.orders.get p.order = some r → r.items = [i] → i.object = .cart serial → i.dispatched = false →
        s.carts.get serial = some ct → s.loans.get s.counters.loan = none →
        let loan := s.counters.loan
        let s' : State := { s with
          parcels := s.parcels.del n
          dispatchQueue := s.dispatchQueue.erase n
          groups := s.groups.del p.group
          orders := s.orders.del p.order
          carts := s.carts.put serial { ct with state := .onLoan loan }
          loans := s.loans.put loan
            { patron := r.patron, object := .cartridge serial (i.entries.map (fun w => w.title))
              term := s.settings.cartTerm, daysLeft := s.settings.cartTerm, renewals := 0, state := .out }
          counters := { s.counters with loan := if loan < 16777215 then loan + 1 else 1 }
          tally := s.tally + 1 }
        let answer : Answer := ⟨.done, [f3 n, f2 0, f3 loan, f1 1, f4 serial]⟩
        (backlog s = [] → ask = .next (s.reply .mailroom tag .packed answer s'))
        ∧ ∀ u, BacklogServed s' u → ask = .next (s.after .mailroom tag .packed answer [] u))
    ∧ (∀ p g r, s.tablesWf = true → s.parcels.get n = some p → p.state = .packing →
        s.groups.get p.group = some g → n ∈ g.parcels →
        (∀ m ∈ g.parcels, ∃ q, s.parcels.get m = some q ∧ q.order = p.order ∧ q.group = p.group
          ∧ (m ≠ n → q.state = .dispatched)) →
        s.orders.get p.order = some r → r.items.Pairwise (fun a b => a.place ≠ b.place) →
        r.items.Pairwise (fun a b => a.object ≠ b.object) →
        let sent : State := { s with
          parcels := s.parcels.put n { p with state := .dispatched }
          dispatchQueue := s.dispatchQueue.erase n }
        let items := lentItems sent p.order p.group r
        loanRoom s items.length →
        let answer : Answer := ⟨.done, [f3 n, f2 0] ++ items.zipIdx.flatMap (fun e =>
          match e.1.object with
          | .cart serial => [f3 (s.counters.loan + e.2), f1 1, f4 serial]
          | .copySet set => [f3 (s.counters.loan + e.2), f1 2, f2 set]
          | .job _ => [])⟩
        ∃ t : State, (backlog s = [] → ask = .next (s.after .mailroom tag .packed answer [] t))
          ∧ (∀ u, BacklogServed t u → ask = .next (s.after .mailroom tag .packed answer [] u))
          ∧ GroupLent sent t p.order p.group r g)

/-! ### Returns, renewals and the calendar -/

/-- O47. CART-IN by the cartridge's state: NO-SUCH, RETIRED and NOT-ON-LOAN change nothing; a LOST cartridge is FOUND and joins
the UNWIPED tail; an ON-LOAN one joins it and its loan closes: H falls by 1, the patron joins the pass queue or, CLOSING, is
freed with no unit left and otherwise stays. After an OVERDUE loan the suspension check follows: a SUSPENDED patron with no
other loan overdue by suspend-after returns to ACTIVE and one that has another stays SUSPENDED, PAUSED and CLOSING stay, and an
ACTIVE patron with another such loan, as no run leaves one, is suspended (R28, R30, R142, R151, R152, R153, R154). The layout of
the answer's optional fields and lists is the model's choice (log entry 8). That the answer gives H 0 and the state CLOSING for
a patron just freed is log entry 31. -/
def Obligations.CartIn : Prop :=
  ∀ (tag : Half) (s : State) (serial : Nat), Ready .returns s → serial < 256 ^ 4 →
    let ask := exec (.cartIn .returns tag (writeFields [4] [serial])) s
    let wear := fun (c : Cart) => [f1 (clsCode c.cls), f2 c.writes, f1 c.faults]
    let unwiped := fun (c : Cart) => { s with
      carts := s.carts.put serial { c with state := .unwiped }
      unwiped := s.unwiped ++ [serial] }
    (s.carts.get serial = none → ask = .next (s.reply .returns tag .cartIn ⟨.noSuch, []⟩ s))
    ∧ ∀ c, s.carts.get serial = some c →
      (c.state = .retired → ask = .next (s.reply .returns tag .cartIn ⟨.retired, wear c⟩ s))
      ∧ (c.state ≠ .retired → c.state ≠ .lost → (∀ n, c.state ≠ .onLoan n) →
          ask = .next (s.reply .returns tag .cartIn ⟨.notOnLoan, [f1 c.state.code, f1 (clsCode c.cls)]⟩ s))
      ∧ (c.state = .lost → ask = .next (s.after .returns tag .cartIn ⟨.found, wear c⟩ [] (unwiped c)))
      ∧ ∀ n l p, c.state = .onLoan n → s.loans.get n = some l → (∀ vols grace, l.state ≠ .part vols grace) →
          s.patrons.get l.patron = some p →
          let days := match l.state with
            | .overdue e => [f1 e]
            | _ => []
          let titles := match l.object with
            | .cartridge _ ts => ts
            | .copySet _ => []
          let fields := [f3 n, f2 l.patron, f1 l.state.code] ++ days ++ [f1 l.renewals] ++ titles.map f2
            ++ [f1 (clsCode c.cls)]
          let now := s.rechecked n l p
          ask = .next (s.after .returns tag .cartIn ⟨.done, fields ++ [f1 (p.held - 1), f1 now.code]⟩
            (suspendedKinds p.state now) ((unwiped c).checkedIn n l p))

/-- O48. VOL-IN of an ON-LOAN set: its first volume puts the loan into PARTIAL with the partial grace in force, a later one
joins the returned volumes in order, one already there gives ALREADY, and the last, which of a set of one volume is the first,
closes the loan and makes the set AVAILABLE, offered where its title's waiting list is not empty; H falls by 1, and the patron
joins the pass queue or, CLOSING, is freed with no unit left and otherwise stays. Where the loan was OVERDUE the suspension
check follows, at its first volume and at its closing: a SUSPENDED patron with no other loan overdue by suspend-after returns to
ACTIVE, and ACTIVE below suspend-after, PAUSED, CLOSING and SUSPENDED with another such loan stay. Numbers out of range give
NO-SUCH, sets in no patron's hands NOT-ON-LOAN (R28, R30, R45, R142, R151, R155, R156, R157, R158). The layout of the answer's
optional fields and lists is the model's choice (log entry 8). -/
def Obligations.VolInOnLoan : Prop :=
  ∀ (tag : Half) (s : State) (k v : Nat), Ready .returns s → Fits [2, 1] [k, v] →
    let ask := exec (.volIn .returns tag (writeFields [2, 1] [k, v])) s
    (s.copySets.get k = none → ask = .next (s.reply .returns tag .volIn ⟨.noSuch, []⟩ s))
    ∧ ∀ c ti weights, s.copySets.get k = some c → s.titles.get c.title = some ti → ti.braille = some weights →
      let count := weights.length
      let head := fun (st : Nat) => [f2 k, f2 c.title, f2 count, f1 st]
      let open' := fun (o : OutcomeCode) (n : Nat) (vols : List Nat) (grace : Nat) =>
        (⟨o, head 5 ++ [f3 n, f1 3] ++ vols.map f1 ++ [f1 grace, f1 0, f1 0]⟩ : Answer)
      (v = 0 ∨ count < v → ask = .next (s.reply .returns tag .volIn ⟨.noSuch, []⟩ s))
      ∧ (1 ≤ v → v ≤ count → (∀ n, c.state ≠ .onLoan n) → (∀ vs, c.state ≠ .incomplete vs) →
        ask = .next (s.reply .returns tag .volIn ⟨.notOnLoan, [f1 c.state.code]⟩ s))
      ∧ ∀ n l p, 1 ≤ v → v ≤ count → c.state = .onLoan n → s.loans.get n = some l → s.patrons.get l.patron = some p →
        (l.state = .out → 2 ≤ count →
          ask = .next (s.reply .returns tag .volIn (open' .done n [v] s.settings.partialGrace)
            { s with loans := s.loans.put n { l with state := .part [v] s.settings.partialGrace } }))
        ∧ (∀ e, l.state = .overdue e → 2 ≤ count → s.loans.wf = true →
          let now := s.rechecked n l p
          let s' : State := { s with
            loans := s.loans.put n { l with state := .part [v] s.settings.partialGrace }
            patrons := if now = p.state then s.patrons else s.patrons.put l.patron { p with state := now }
            passQueue := if now = .active ∧ p.state = .suspended ∧ l.patron ∉ s.passQueue then s.passQueue ++ [l.patron]
                         else s.passQueue }
          ask = .next
            (s.after .returns tag .volIn (open' .done n [v] s.settings.partialGrace) (suspendedKinds p.state now) s'))
        ∧ (∀ vols grace, l.state = .part vols grace → v ∈ vols →
          ask = .next (s.reply .returns tag .volIn (open' .already n vols grace) s))
        ∧ (∀ vols grace, l.state = .part vols grace → v ∉ vols → vols.length + 1 < count →
          let vols' := insertBefore (fun a b => decide (a < b)) v vols
          ask = .next (s.reply .returns tag .volIn (open' .done n vols' grace)
            { s with loans := s.loans.put n { l with state := .part vols' grace } }))
        ∧ ((count = 1 ∧ (l.state = .out ∨ ∃ e, l.state = .overdue e))
            ∨ (∃ vols grace, l.state = .part vols grace ∧ v ∉ vols ∧ vols.length + 1 = count) →
          let back : State := { s with
            copySets := s.copySets.put k { c with state := .available }
            pendingOffers := if ti.waiting = [] ∨ k ∈ s.pendingOffers then s.pendingOffers else s.pendingOffers ++ [k] }
          ask = .next (s.after .returns tag .volIn ⟨.done, head 1 ++ [f1 1, f1 1]⟩
            (suspendedKinds p.state (s.rechecked n l p)) (back.checkedIn n l p)))

/-- O49. VOL-IN for an INCOMPLETE set takes a late volume: not missing gives ALREADY, the only missing one makes the set
AVAILABLE, any other leaves the list. SET-FOUND makes an INCOMPLETE set AVAILABLE whatever was missing, and answers the list
as it stood; no record gives NO-SUCH and any other state STATE. A set made AVAILABLE joins the pending offers where its
title's waiting list is not empty. Neither reaches a loan or a patron (R45, R161, R162). The layout of the answer's optional
fields and lists is the model's choice (log entry 8). -/
def Obligations.LateVolumesAndSetFound : Prop :=
  ∀ (tag : Half) (s : State) (k : Nat), k < 256 ^ 2 →
    let found := exec (.setFound .mailroom tag (writeFields [2] [k])) s
    let offers := fun (ti : Title) =>
      if ti.waiting = [] ∨ k ∈ s.pendingOffers then s.pendingOffers else s.pendingOffers ++ [k]
    let available := fun (c : CopySet) (ti : Title) => { s with
      copySets := s.copySets.put k { c with state := .available }
      pendingOffers := offers ti }
    (Ready .mailroom s → s.copySets.get k = none → found = .next (s.reply .mailroom tag .setFound ⟨.noSuch, []⟩ s))
    ∧ ∀ c ti, s.copySets.get k = some c → s.titles.get c.title = some ti →
      (Ready .mailroom s → (∀ vs, c.state ≠ .incomplete vs) →
        found = .next (s.reply .mailroom tag .setFound ⟨.state, [f1 c.state.code]⟩ s))
      ∧ ∀ missing, c.state = .incomplete missing →
        (Ready .mailroom s →
          found = .next (s.reply .mailroom tag .setFound ⟨.done, missing.map f1⟩ (available c ti)))
        ∧ ∀ weights v, Ready .returns s → ti.braille = some weights → 1 ≤ v → v ≤ weights.length → v < 256 →
          let ask := exec (.volIn .returns tag (writeFields [2, 1] [k, v])) s
          let head := fun (st : Nat) => [f2 k, f2 c.title, f2 weights.length, f1 st]
          (v ∉ missing →
            ask = .next (s.reply .returns tag .volIn ⟨.already, head 6 ++ missing.map f1 ++ [f1 0, f1 0]⟩ s))
          ∧ (missing = [v] →
            ask = .next (s.reply .returns tag .volIn ⟨.done, head 1 ++ [f1 0, f1 1]⟩ (available c ti)))
          ∧ (v ∈ missing → missing.erase v ≠ [] →
            ask = .next (s.reply .returns tag .volIn ⟨.done, head 6 ++ (missing.erase v).map f1 ++ [f1 0, f1 0]⟩
              { s with copySets := s.copySets.put k { c with state := .incomplete (missing.erase v) } }))

/-- O50. RENEW by its checks in order (LATE, STATE, LIMIT, TOO-EARLY, WANTED), each refusal giving the loan's state, D,
renewals, term and window, and otherwise D up by the term and renewals up by 1; LOAN-READ changes nothing and gives one loan,
or a patron's loans from a number on, at most 8, with the number left, and always the calendar (R139, R144, R145, R147; log
entries 8 and 17). -/
def Obligations.RenewAndLoanRead : Prop :=
  ∀ (tag : Half) (s : State), Ready .order s →
    let wanted := fun (l : Loan) => ∃ k c t, l.object = .copySet k ∧ s.copySets.get k = some c ∧ s.titles.get c.title = some t
      ∧ t.waiting ≠ []
    let calendar := [f2 s.day, fFlag s.dayOpen, f2 s.settings.renewalMax, f2 s.settings.suspendAfter, f2 s.settings.lostAfter]
    let reads := fun (body : List Byte) (o : OutcomeCode) (fields : List AnsField) =>
      exec (.loanRead .order tag body) s = .next (s.reply .order tag .loanRead ⟨o, fields ++ calendar⟩ s)
    let loanForm := fun (n : Nat) (l : Loan) (o : OutcomeCode) =>
      [f3 n, f2 l.patron]
        ++ (match l.object with
            | .cartridge serial titles => [f1 1, f4 serial] ++ titles.map f2
            | .copySet k => [f1 2, f2 k, f2 ((titleOfSet s k).getD 0)])
        ++ [f1 l.term, f1 l.daysLeft, f1 (l.term / 4), f1 l.renewals, f1 l.state.code]
        ++ (match l.state with
            | .out => []
            | .overdue e => [f1 e]
            | .part vols grace => vols.map f1 ++ [f1 grace])
        ++ [f1 o.code]
    (∀ n, n < 256 ^ 3 → s.loans.get n = none →
      exec (.renew .order tag (writeFields [3] [n])) s = .next (s.reply .order tag .renew ⟨.noSuch, []⟩ s)
      ∧ reads (1 :: writeFields [3] [n]) .noSuch [])
    ∧ (∀ n l, n < 256 ^ 3 → s.loans.get n = some l →
      let ask := exec (.renew .order tag (writeFields [3] [n])) s
      let refuses := fun (o : OutcomeCode) =>
        ask = .next (s.reply .order tag .renew
          ⟨o, [f1 l.state.code, f1 l.daysLeft, f1 l.renewals, f1 l.term, f1 (l.term / 4)]⟩ s)
        ∧ reads (1 :: writeFields [3] [n]) .done (loanForm n l o)
      let open' := l.state = .out ∧ l.renewals < s.settings.renewalMax
      (∀ e, l.state = .overdue e → refuses .late)
      ∧ (∀ vols grace, l.state = .part vols grace → refuses .state)
      ∧ (l.state = .out → s.settings.renewalMax ≤ l.renewals → refuses .limit)
      ∧ (open' → l.term / 4 < l.daysLeft → refuses .tooEarly)
      ∧ (open' → l.daysLeft ≤ l.term / 4 → wanted l → refuses .wanted)
      ∧ (open' → l.daysLeft ≤ l.term / 4 → ¬ wanted l →
          ask = .next (s.reply .order tag .renew ⟨.done, [f3 n, f1 (l.daysLeft + l.term), f1 (l.renewals + 1)]⟩
            { s with loans := s.loans.put n { l with daysLeft := l.daysLeft + l.term, renewals := l.renewals + 1 } })
          ∧ reads (1 :: writeFields [3] [n]) .done (loanForm n l .done)))
    ∧ (∀ n k, Fits [2, 3] [n, k] → NoPassFor n s →
      let mine := s.loans.filter (fun e => e.2.patron == n && k ≤ e.1)
      (1 ≤ n → n ≤ 16384 → s.patrons.get n ≠ none →
        reads (2 :: writeFields [2, 3] [n, k]) .done
          ((mine.take 8).flatMap (fun e => loanForm e.1 e.2 (renewOutcome s e.2)) ++ [f2 (mine.length - 8)]))
      ∧ (n = 0 ∨ 16384 < n ∨ s.patrons.get n = none → reads (2 :: writeFields [2, 3] [n, k]) .noSuch []))

/-- O51. ORDER-CANCEL: a patron or order number of no record, or another patron's order, gives NO-SUCH, and a patron without
orders DONE with an empty list. An order of one undispatched item is cancelled whole and freed, H falling by 1: a RESERVED set
is AVAILABLE with its task freed, and with the restore flag its entry returns; a QUEUED job is freed with its reservation,
which the class's oldest starved job takes; an ASSIGNED job is CANCEL-PENDING. An order, or with number 0 every order of the
patron, of any items is cancelled item by item, PACKING and DISPATCHED ones staying behind with a PARTIAL answer: jobs,
cartridges, sets, tasks, parcels and groups by where the items stand. Each order is settled before the next: its items'
releases, then with the restore flag its entries back as one block and the patron on the pass queue. Then the parcel backlog is
served, whatever waits in it. A begun group of a single order left with DISPATCHED parcels alone has its loans created, one for
each item it holds; any other begun group stays begun at its new size (R40, R45, R50, R51, R72, R74, R104, R113, R119, R120,
R121, R133). The layout of the answer's optional fields and lists is the model's choice (log entry 8), the order of release and
append log entry 12. That a list is released while HALTED too is log entry 29; the order of the groups that the backlog
completes is log entry 13, that a group released raises PARCEL-WAITING log entry 30. No one stays on a released list (R24; log
entry 33). -/
def Obligations.OrderCancel : Prop :=
  ∀ (tag : Half) (s : State) (n o flag : Nat), Ready .order s → Fits [2, 3, 1] [n, o, flag] → NoPassFor n s →
    let ask := exec (.orderCancel .order tag (writeFields [2, 3, 1] [n, o, flag])) s
    (n = 0 ∨ 16384 < n ∨ s.patrons.get n = none → ask = .next (s.reply .order tag .orderCancel ⟨.noSuch, []⟩ s))
    ∧ ∀ p, 1 ≤ n → n ≤ 16384 → s.patrons.get n = some p →
      (o ≠ 0 → (∀ r, s.orders.get o = some r → r.patron ≠ n) →
        ask = .next (s.reply .order tag .orderCancel ⟨.noSuch, []⟩ s))
      ∧ (o = 0 → (∀ e ∈ s.orders, e.2.patron ≠ n) → backlog s = [] →
        ask = .next (s.reply .order tag .orderCancel ⟨.done, [f1 p.held]⟩ s))
      ∧ ∀ r i w, o ≠ 0 → s.orders.get o = some r → r.patron = n → r.items = [i] → i.dispatched = false → i.entries = [w] →
        (∀ e ∈ s.parcels, e.2.order ≠ o) → backlog s = [] → p.state ≠ .closing →
        let freed : State := { s with
          orders := s.orders.del o
          patrons := s.patrons.put n { p with held := p.held - 1 }
          heldTotal := s.heldTotal - 1 }
        let gives := fun (s' : State) =>
          ask = .next (s.reply .order tag .orderCancel
            ⟨.done, [f3 o, f2 1, f2 0, f1 1, f1 (p.held - 1)]⟩ s')
        (∀ k c ti tk t, i.object = .copySet k → s.copySets.get k = some c → (∃ a b, c.state = .reserved a b) →
          s.titles.get c.title = some ti → s.tasks.get tk = some t → t.copySet = k →
          (∀ e ∈ s.tasks, e.2.copySet = k → e.1 = tk) →
          let cleared : State := { freed with
            copySets := s.copySets.put k { c with state := .available }
            tasks := s.tasks.del tk
            pullQueue := s.pullQueue.erase tk
            pendingOffers := if ti.waiting = [] ∨ k ∈ s.pendingOffers then s.pendingOffers else s.pendingOffers ++ [k] }
          (flag = 0 → gives cleared)
          ∧ (flag ≠ 0 → w.format = .braille → w.title = c.title → p.wishes.length < 64 →
            ∀ us ns, p.wishes = us ++ ns → (∀ x ∈ us, x.band = .urgent) → (∀ x ∈ ns, x.band = .normal) →
            gives { cleared with
              patrons := s.patrons.put n
                { p with
                  held := p.held - 1
                  wishes := if w.band = .urgent then w :: us ++ ns else us ++ w :: ns }
              titles := s.titles.put c.title { ti with waiting := n :: ti.waiting.erase n }
              passQueue := if n ∈ s.passQueue then s.passQueue else s.passQueue ++ [n] }))
        ∧ (∀ job j bay serial, flag = 0 → i.object = .job job → s.jobs.get job = some j → j.state = .assigned bay serial →
          gives { freed with jobs := s.jobs.put job { j with state := .cancelPending bay serial } })
        ∧ (∀ job j, flag = 0 → i.object = .job job → s.jobs.get job = some j → j.state = .queued →
          s.marks = ⟨false, false, false⟩ → s.starved.get j.cls = [] →
          ((s.blank.get j.cls).length - s.reserved.get j.cls ≤ s.settings.critical.get j.cls →
            (s.blank.get j.cls).length - (s.reserved.get j.cls - 1) ≤ s.settings.critical.get j.cls) →
          gives { freed with
            jobs := s.jobs.del job
            jobQueue := s.jobQueue.erase job
            reserved := s.reserved.set j.cls (s.reserved.get j.cls - 1) })
        ∧ (∀ job j next more k, flag = 0 → i.object = .job job → s.jobs.get job = some j → j.state = .queued →
          s.marks = ⟨false, false, false⟩ → s.starved.get j.cls = next :: more → next ≠ job → job ∈ s.jobQueue →
          s.jobs.get next = some k →
          k.cls = j.cls → s.reserved.get j.cls = (s.blank.get j.cls).length → 1 ≤ s.reserved.get j.cls →
          let claimed : State := { freed with
            jobs := (s.jobs.del job).put next { k with state := .queued }
            starved := s.starved.set j.cls more }
          gives { claimed with jobQueue := insertBefore (jobBefore claimed) next (s.jobQueue.erase job) })
      ∧ (∀ os, (o ≠ 0 ∧ os = [o]) ∨ (o = 0 ∧ os = s.orders.select (fun _ r => r.patron == n)) → CancelReady s n os →
        let gone := goneItems s os
        let stay := os.flatMap (keptOf s)
        let back := flag ≠ 0 ∧ p.state ≠ .closing
        let block := fun (o : Nat) => (goneOf s o).flatMap Item.entries
        let restored := os.foldl (fun (acc : List WishEntry × Table Title) o =>
          (entriesBack (block o) acc.1,
            ((block o).take (64 - acc.1.length)).foldl (fun ts (w : WishEntry) => if w.format = .braille then
              ts.modify w.title (fun r => { r with waiting := n :: r.waiting.erase n }) else ts) acc.2)) (p.wishes, s.titles)
        let ends := fun (v : State) =>
          let answer : Answer := ⟨if stay = [] then .done else .partly,
            os.flatMap (fun o => [f3 o, f2 (goneOf s o).length, f2 (keptOf s o).length, fFlag (v.orders.get o).isNone])
              ++ [f1 (p.held - gone.length)]⟩
          (backlog s = [] → ask = .next (s.after .order tag .orderCancel answer [] v))
            ∧ ∀ u, BacklogServed v u → ask = .next (s.after .order tag .orderCancel answer [] u)
        let cancelled := fun (t : State) =>
          Cancelled s t os
          ∧ (p.state = .closing → p.held = gone.length → os ≠ [] → t.patrons = s.patrons.del n)
          ∧ (p.state ≠ .closing ∨ p.held ≠ gone.length →
              t.patrons = s.patrons.put n { p with
                held := p.held - gone.length, wishes := if back then restored.1 else p.wishes })
          ∧ t.titles = (if back then restored.2 else s.titles)
          ∧ (∀ c, t.blocked.get c = blockedAfter s os c ∧ t.stays.get c = staysAfter s os c)
          ∧ t.passQueue = passAfter s n (decide back) os
          ∧ (¬ back ∨ o ≠ 0 → t.pendingOffers = (offeredSets s os).foldl appendNew s.pendingOffers)
        (lastSent s os = [] → ∃ t, cancelled t ∧ ends t)
        ∧ ∀ o' g r, os = [o'] → lastSent s os = [g] → keptOf s o' ≠ [] → s.orders.get o' = some r → loanRoom s r.items.length →
            ∃ t v r' rg, cancelled t ∧ t.orders.get o' = some r' ∧ t.groups.get g = some rg ∧ GroupLent t v o' g r' rg ∧ ends v)
      ∧ (∀ r i x ca cx a b pa pb gn g, o ≠ 0 → flag = 0 → p.state ≠ .closing → s.tablesWf = true → backlog s = [] →
        s.orders.get o = some r → r.patron = n → r.items = [i, x] → i.place ≠ x.place → i.dispatched = false →
        x.dispatched = false → i.object = .cart ca → x.object = .cart cx → ca ≠ cx → a ≠ b →
        s.parcels.get a = some pa → pa.order = o → pa.group = gn → pa.contents = .cartridges [ca] → pa.state = .dispatched →
        s.parcels.get b = some pb → pb.order = o → pb.group = gn → pb.contents = .cartridges [cx] → pb.state = .ready →
        (∀ e ∈ s.parcels, e.2.order = o → e.1 = a ∨ e.1 = b) → s.groups.get gn = some g → g.parcels = [a, b] →
        g.begun = true → (∀ e ∈ s.groups, e.1 ≠ gn → e.2.parcels.head? ≠ some a ∧ e.2.parcels.head? ≠ some b) →
        ∀ c c', s.carts.get ca = some c → s.carts.get cx = some c' → s.loans.get s.counters.loan = none →
        let loan := s.counters.loan
        let s' : State := { s with
          patrons := s.patrons.put n { p with held := p.held - 1 }
          heldTotal := s.heldTotal - 1
          carts := (s.carts.put cx { c' with state := .unwiped }).put ca { c with state := .onLoan loan }
          unwiped := s.unwiped ++ [cx]
          orders := s.orders.del o
          parcels := (s.parcels.del b).del a
          dispatchQueue := s.dispatchQueue.erase b
          groups := s.groups.del gn
          loans := s.loans.put loan
            { patron := n, object := .cartridge ca (i.entries.map (fun w => w.title))
              term := s.settings.cartTerm, daysLeft := s.settings.cartTerm, renewals := 0, state := .out }
          counters := { s.counters with loan := if loan < 16777215 then loan + 1 else 1 }
          tally := s.tally + 1
          reservedCap := s.reservedCap - 1 }
        ask = .next (s.after .order tag .orderCancel ⟨.partly, [f3 o, f2 1, f2 1, f1 1, f1 (p.held - 1)]⟩ [] s'))

/-- O52. NEW-DAY is refused DISPATCH-OPEN, with the PACKING parcels and begun groups, while there are any. A CLOSED day, which
any code but OPEN gives, moves the day, clears the rests and the day's figures, puts the daily limit in force, and ends the
pauses of that day, in patron order; no loan moves (R26, R100, R134, R135, R137, R138, R148). -/
def Obligations.NewDayClosed : Prop :=
  ∀ (tag : Half) (s : State) (code : Nat), Ready .order s → code < 256 →
    let ask := exec (.newDay .order tag (writeFields [1] [code])) s
    let held := (∃ e ∈ s.parcels, e.2.state = .packing) ∨ ∃ e ∈ s.groups, e.2.begun = true
    (held → ask = .next (s.reply .order tag .newDay
      ⟨.dispatchOpen, [f2 (countOf (fun e => e.2.state == .packing) s.parcels), f2 (countOf (fun e => e.2.begun) s.groups)]⟩ s))
    ∧ (¬ held → code ≠ 1 → s.patrons.wf = true →
      let day := (s.day + 1) % 65536
      let ends := fun (p : Patron) => p.state = .paused day
      let late := fun (n : Nat) => s.loans.any (fun e => e.2.patron == n && e.2.suspends s.settings.suspendAfter)
      let suspended := countOf (fun e => decide (ends e.2) && late e.1) s.patrons
      let s' : State := { s with
        day := day
        dayOpen := false
        bays := s.bays.map (fun b => { b with restsToday := 0 })
        todayCount := 0
        tally := 0
        settings := { s.settings with limitInForce := s.settings.limitNext }
        patrons := s.patrons.mapAll (fun n p =>
          if ends p then { p with state := if late n then .suspended else .active } else p)
        passQueue := (s.patrons.select (fun n p => decide (ends p) && !late n)).foldl appendNew s.passQueue }
      ask = .next (s.after .order tag .newDay
        ⟨if code = 2 then .done else .clamped,
          [f2 day, f1 0, f2 s.settings.limitNext, f2 0, f2 0, f2 0, f2 suspended, f2 0,
            f2 (countOf (fun e => decide (ends e.2)) s.patrons)]⟩
        (if suspended = 0 then [] else [(.order, .patronSuspended)]) s'))

/-- O53. NEW-DAY OPEN. Every loan's clock moves; one then OVERDUE by lost-after, or out of grace days, is closed: its
cartridge LOST or its set INCOMPLETE with what is missing, its patron's H and the held units down, a CLOSING patron freed with
its last unit. A patron not CLOSING that had a loan is SUSPENDED or ACTIVE as its loans now stand, and pauses of that day end.
The patrons that return to ACTIVE, or had a loan closed, join the pass queue in patron order; PATRON-SUSPENDED is raised where
one was suspended. Nothing else changes but the day record (R26, R27, R28, R30, R43, R137, R138, R140, R141, R142, R143, R159). -/
def Obligations.NewDayOpen : Prop :=
  ∀ (tag : Half) (s : State), Ready .order s → s.tablesWf = true → (∀ e ∈ s.parcels, e.2.state ≠ .packing) →
    (∀ e ∈ s.groups, e.2.begun = false) →
    let day := (s.day + 1) % 65536
    let ticked := fun (l : Loan) =>
      match l.state with
      | .out => if 1 < l.daysLeft then { l with daysLeft := l.daysLeft - 1 } else { l with daysLeft := 0, state := .overdue 0 }
      | .overdue e => { l with state := .overdue (e + 1) }
      | .part vols grace => { l with state := .part vols (grace - 1) }
    let lost := fun (l : Loan) => ∃ e, (ticked l).state = .overdue e ∧ s.settings.lostAfter ≤ e
    let graced := fun (l : Loan) => ∃ vols, (ticked l).state = .part vols 0
    let closes := fun (l : Loan) => match (ticked l).state with
      | .overdue e => decide (s.settings.lostAfter ≤ e)
      | .part _ grace => grace == 0
      | .out => false
    let closedOf := fun (n : Nat) => countOf (fun e => e.2.patron == n && closes e.2) s.loans
    ∃ t, exec (.newDay .order tag (writeFields [1] [1])) s = .next t
      ∧ t.day = day ∧ t.dayOpen = true ∧ t.todayCount = 0 ∧ t.tally = 0
      ∧ t.settings = { s.settings with limitInForce := s.settings.limitNext }
      ∧ t.bays = s.bays.map (fun b => { b with restsToday := 0 })
      ∧ (∀ n l, s.loans.get n = some l →
          (lost l ∨ graced l → t.loans.get n = none) ∧ (¬ lost l → ¬ graced l → t.loans.get n = some (ticked l)))
      ∧ (∀ n, s.loans.get n = none → t.loans.get n = none)
      ∧ (∀ n l serial titles c, s.loans.get n = some l → lost l → l.object = .cartridge serial titles →
          s.carts.get serial = some c → t.carts.get serial = some { c with state := .lost })
      ∧ (∀ serial, (∀ e ∈ s.loans, lost e.2 → ∀ titles, e.2.object ≠ .cartridge serial titles) →
          t.carts.get serial = s.carts.get serial)
      ∧ (∀ n l k c, s.loans.get n = some l → l.object = .copySet k → s.copySets.get k = some c →
          (∀ m x, s.loans.get m = some x → x.object = .copySet k → m = n) →
          let all := (List.range (volumeCount s c.title)).map (fun v => v + 1)
          (lost l → t.copySets.get k = some { c with state := .incomplete all })
          ∧ ∀ vols, (ticked l).state = .part vols 0 →
              t.copySets.get k = some { c with state := .incomplete (all.filter (fun v => v ∉ vols)) })
      ∧ (∀ k, (∀ e ∈ s.loans, lost e.2 ∨ graced e.2 → e.2.object ≠ .copySet k) → t.copySets.get k = s.copySets.get k)
      ∧ (∀ n p, s.patrons.get n = some p → p.state ≠ .closing →
          let closed := fun (e : Nat × Loan) => e.2.patron = n ∧ t.loans.get e.1 = none
          let had := ∃ e ∈ s.loans, e.2.patron = n
          let late := ∃ e ∈ t.loans, e.2.patron = n ∧ ∃ d, e.2.state = .overdue d ∧ s.settings.suspendAfter ≤ d
          (∃ q, t.patrons.get n = some q
            ∧ q = { p with held := p.held - countOf (fun e => decide (closed e)) s.loans, state := q.state }
            ∧ (p.state = .active → had → late → q.state = .suspended)
            ∧ (p.state = .active → (¬ had ∨ ¬ late) → q.state = .active)
            ∧ (p.state = .suspended → had → ¬ late → q.state = .active)
            ∧ (p.state = .suspended → (¬ had ∨ late) → q.state = .suspended)
            ∧ (p.state = .paused day → late → q.state = .suspended)
            ∧ (p.state = .paused day → ¬ late → q.state = .active)
            ∧ (∀ d, d ≠ day → p.state = .paused d → q.state = .paused d))
          ∧ ((∃ e ∈ s.loans, closed e) → n ∈ t.passQueue))
      ∧ (∀ n p, s.patrons.get n = some p → p.state = .closing → closedOf n ≤ p.held →
          t.patrons.get n = if closedOf n = 0 then some p else if p.held = closedOf n then none
            else some { p with held := p.held - closedOf n })
      ∧ (∀ n, s.patrons.get n = none → t.patrons.get n = none)
      ∧ ((∀ e ∈ s.loans, ∃ p, s.patrons.get e.2.patron = some p ∧ (p.state = .closing → closedOf e.2.patron ≤ p.held)) →
          t.heldTotal = s.heldTotal - countOf (fun e => closes e.2) s.loans)
      ∧ t.passQueue = (s.patrons.select (fun n p =>
          let late := t.loans.any (fun e => e.2.patron == n && (match e.2.state with
            | .overdue d => decide (s.settings.suspendAfter ≤ d)
            | _ => false))
          p.state != .closing
            && (closedOf n != 0
              || p.state == .paused day && !late
              || p.state == .suspended && s.loans.any (fun e => e.2.patron == n) && !late))).foldl appendNew s.passQueue
      ∧ (.patronSuspended ∈ (t.port .order).notices ↔ .patronSuspended ∈ (s.port .order).notices
          ∨ ∃ n p q, s.patrons.get n = some p ∧ p.state ≠ .suspended ∧ t.patrons.get n = some q ∧ q.state = .suspended)
      ∧ ((∃ e ∈ s.loans, lost e.2) → .loansLost ∈ (t.port .order).notices ∧ .loansLost ∈ (t.port .returns).notices)
      ∧ ((∃ e ∈ s.loans, graced e.2) → .missingVolumes ∈ (t.port .returns).notices)
      ∧ Answered s t .order tag Kind.newDay.code ⟨.done,
          [f2 day, f1 1, f2 s.settings.limitNext,
            f2 (countOf (fun e => e.2.state == .out && decide (e.2.daysLeft ≤ 1)) s.loans),
            f2 (countOf (fun e => e.2.tick.lostAt s.settings.lostAfter) s.loans),
            f2 (countOf (fun e => e.2.tick.graceEnded) s.loans),
            f2 (movedTo s t (· != .suspended) (· == .suspended)), f2 (movedTo s t (· == .suspended) (· == .active)),
            f2 (countOf (fun e => e.2.state == .paused day) s.patrons)]⟩
      ∧ t.titles = s.titles ∧ t.jobs = s.jobs ∧ t.orders = s.orders ∧ t.tasks = s.tasks ∧ t.parcels = s.parcels
      ∧ t.groups = s.groups ∧ t.counters = s.counters ∧ t.blank = s.blank ∧ t.unwiped = s.unwiped
      ∧ t.reserved = s.reserved ∧ t.starved = s.starved ∧ t.jobQueue = s.jobQueue ∧ t.pullQueue = s.pullQueue
      ∧ t.dispatchQueue = s.dispatchQueue ∧ t.standing = s.standing ∧ t.pendingOffers = s.pendingOffers
      ∧ t.offer = s.offer ∧ t.running = s.running ∧ t.blocked = s.blocked ∧ t.stays = s.stays ∧ t.marks = s.marks
      ∧ t.reservedCap = s.reservedCap ∧ t.pending = s.pending

/-! ### The engines -/

/-- O54. A pass from the head of the pass queue: none for a patron not ACTIVE or without free units; a single CARTRIDGE wish
opens a cartridge of the preferred class, or the smallest the title fits, where the standing and the free blanks allow it, with
its job, order, reservation and charge, and joins that class's blocked list where they do not; a single BRAILLE wish takes the
lowest-numbered AVAILABLE set. A list of wishes whose titles are withdrawn or lack the format, of BRAILLE wishes with no
AVAILABLE set or no pull-task record free, or of any wishes with no order record free, is skipped whole: the wishes stay,
nothing is created, and the patron leaves the blocked lists but those it stays on. Over a list of any length: what is placed
makes one order, each entry in one item or still in the list, in its order; no more items than free units; and a title goes to
the first cartridge opened before it that takes it by capacity and title limit, so that it opens another, or stays in the list,
only where none does. Only entries of titles not withdrawn that have the format are placed. Each cartridge item is a QUEUED job
of the catalog's footprints, of the class its first title needs, opened while the class could be; each set item is the title's
lowest-numbered AVAILABLE set, now RESERVED, with its pull task; reserved counts rise by the cartridges opened of their class.
A BRAILLE entry with an AVAILABLE set stays only without a unit or a pull-task record; a CARTRIDGE entry that no opened
cartridge takes stays only without a unit or on the blocked list of its class, which the patron joins only for such an entry,
and which it leaves otherwise, unless a PATRON-SET made it stay there (R24). Nothing else changes (R44, R48, R49, R53 to R60).
Items are named by order and place (log entry 20). A pass that an idle step began is the same pass (log entry 4). That R24
holds against R49 there is log entry 33. -/
def Obligations.SelectionPass : Prop :=
  (∀ s t : State, s.pending = [] → step s = .next t → exec .selectionPass t = exec .selectionPass s)
  ∧ ∀ (s : State) (n : Nat) (rest : List Nat) (p : Patron), s.restartAsserted = false → s.running = none → s.offer = none →
    s.pendingOffers = [] → s.passQueue = n :: rest → s.patrons.get n = some p → (s.port .order).waiting = none →
    let pass := exec .selectionPass s
    let taken : State := { s with passQueue := rest }
    let leaves := fun (c : Cls) => if n ∈ s.stays.get c then s.blocked.get c else (s.blocked.get c).erase n
    let off : PerClass (List Nat) := ⟨leaves .c1, leaves .c2, leaves .c3⟩
    let o := s.counters.order
    let next := fun (k : Nat) => if k < 16777215 then k + 1 else 1
    let room := fun (c : Cls) => match c with
      | .c1 => 3840
      | .c2 => 7680
      | .c3 => 15360
    let needs := fun (img : Image) => (img.size + 7) / 8 * 8 + 4
    let classFor := fun (img : Image) =>
      if 64 + needs img ≤ room p.cls then p.cls
      else if 64 + needs img ≤ 3840 then .c1 else if 64 + needs img ≤ 7680 then .c2 else .c3
    (p.state ≠ .active ∨ p.allowance ≤ p.held ∨ 40960 ≤ s.heldTotal → pass = .next taken)
    ∧ ∀ w ti, p.state = .active → p.held < p.allowance → s.heldTotal < 40960 → p.wishes = [w] →
      s.titles.get w.title = some ti → ti.withdrawn = false → s.orders.length < 8192 → s.orders.get o = none →
      let charged : State := { taken with
        patrons := s.patrons.put n { p with wishes := [], held := p.held + 1 }
        heldTotal := s.heldTotal + 1
        blocked := off }
      (∀ img, w.format = .cartridge → ti.image = some img →
        let c := classFor img
        let free := (s.blank.get c).length - s.reserved.get c
        let job := s.counters.job
        (s.standing = .running → s.settings.critical.get c < free → s.jobs.length < 4096 → s.jobs.get job = none →
          s.counters.stamp < 4294967295 →
          let s' : State := { charged with
            reserved := s.reserved.set c (s.reserved.get c + 1)
            jobs := s.jobs.put job
              { stamp := s.counters.stamp + 1, order := o, patron := n, cls := c
                titles := [⟨w.title, img.revision, needs img⟩], band := w.band, state := .queued, attempts := 0 }
            orders := s.orders.put o
              { patron := n, mode := p.mode, band := w.band
                items := [{ place := 1, object := .job job, band := w.band, entries := [w], ready := false,
                            dispatched := false }] }
            counters := { s.counters with job := next job, order := next o, stamp := s.counters.stamp + 1 } }
          pass = .next (s.ended [] { s' with jobQueue := insertBefore (jobBefore s') job s.jobQueue }))
        ∧ (s.standing = .halted ∨ free ≤ s.settings.critical.get c ∨ 4096 ≤ s.jobs.length →
          pass = .next { taken with
            blocked := off.set c (if n ∈ s.blocked.get c then s.blocked.get c else s.blocked.get c ++ [n])
            marks := if s.standing = .running ∧ s.settings.critical.get c < free then s.marks.set c true else s.marks }))
      ∧ (∀ weights k c front back, w.format = .braille → ti.braille = some weights → s.tasks.length < 4096 →
        s.tasks.get s.counters.task = none → ti.copySets = front ++ k :: back → s.copySets.get k = some c →
        c.title = w.title → c.state = .available → (∀ m ∈ front, ∀ x, s.copySets.get m = some x → x.state ≠ .available) →
        let task := s.counters.task
        let s' : State := { charged with
          titles := s.titles.put w.title { ti with waiting := ti.waiting.erase n }
          copySets := s.copySets.put k { c with state := .reserved o 1 }
          tasks := s.tasks.put task { copySet := k, order := o, band := w.band, state := .queued }
          orders := s.orders.put o
            { patron := n, mode := p.mode, band := w.band
              items := [{ place := 1, object := .copySet k, band := w.band, entries := [w], ready := false,
                          dispatched := false }] }
          counters := { s.counters with task := next task, order := next o } }
        pass = .next (s.ended [] { s' with pullQueue := insertBefore (taskBefore s') task s.pullQueue }))
    ∧ (p.state = .active → p.held < p.allowance → s.heldTotal < 40960 → (∀ w ∈ p.wishes, SkippedAlone s w) →
      pass = .next { taken with blocked := off })
    ∧ (p.state = .active → p.held < p.allowance → s.heldTotal < 40960 → s.orders.length < 8192 → s.orders.get o = none →
      p.wishes.Pairwise (fun a b => ¬ (a.title = b.title ∧ a.format = b.format)) →
      ∃ t q, pass = .next (s.ended [] t) ∧ t.patrons.get n = some q ∧ q.wishes.Sublist p.wishes
        ∧ (∀ m, m ≠ n → t.patrons.get m = s.patrons.get m) ∧ (∀ m, m ≠ o → t.orders.get m = s.orders.get m)
        ∧ t = { taken with
            patrons := t.patrons, titles := t.titles, copySets := t.copySets, jobs := t.jobs, orders := t.orders
            tasks := t.tasks, counters := t.counters, heldTotal := t.heldTotal, reserved := t.reserved
            jobQueue := t.jobQueue, pullQueue := t.pullQueue, blocked := t.blocked, marks := t.marks }
        ∧ (t.orders.get o = none → t = { taken with blocked := t.blocked, marks := t.marks })
        ∧ (let spent := p.allowance ≤ q.held ∨ 40960 ≤ t.heldTotal
          let shut := fun (c : Cls) => s.standing = .halted
            ∨ (s.blank.get c).length - t.reserved.get c ≤ s.settings.critical.get c ∨ 4096 ≤ t.jobs.length
          let wants := fun (c : Cls) (w : WishEntry) => w.format = .cartridge
            ∧ ∃ ti img, s.titles.get w.title = some ti ∧ ti.withdrawn = false ∧ ti.image = some img ∧ classFor img = c
          (∀ w ti k x, w ∈ q.wishes → w.format = .braille → s.titles.get w.title = some ti → ti.withdrawn = false →
              ti.braille ≠ none → k ∈ ti.copySets → s.copySets.get k = some x → x.title = w.title → x.state = .available →
              spent ∨ 4096 ≤ t.tasks.length)
          ∧ (∀ c, (t.blocked.get c = (if n ∈ s.blocked.get c then s.blocked.get c else s.blocked.get c ++ [n])
                ∧ shut c ∧ ∃ w ∈ q.wishes, wants c w)
              ∨ (t.blocked.get c = leaves c ∧ ∀ w ∈ q.wishes, wants c w → spent))
          ∧ ∀ c, t.marks.get c = s.marks.get c
              ∨ (t.marks.get c = true ∧ s.standing = .running ∧ 4096 ≤ t.jobs.length ∧ n ∈ t.blocked.get c))
        ∧ ∀ r, t.orders.get o = some r →
            let jobAt := fun (i : Item) (j : Job) => ∃ k, i.object = .job k ∧ t.jobs.get k = some j
            let before := fun (x : Nat) (y : JobTitle) =>
              decide (p.wishes.findIdx (fun w => w.title == y.title && w.format == .cartridge)
                < p.wishes.findIdx (fun w => w.title == x && w.format == .cartridge))
            let earlier := fun (j : Job) (x : Nat) => j.titles.filter (before x)
            let refuses := fun (j : Job) (x fp : Nat) => p.limit ≤ (earlier j x).length
              ∨ room j.cls < 64 + ((earlier j x).map JobTitle.footprint).sum + fp
            let opened := fun (c : Cls) => countOf (fun (i : Item) => match i.object with
              | .job k => (t.jobs.get k).map Job.cls == some c
              | _ => false) r.items
            let sets := countOf (fun (i : Item) => match i.object with
              | .copySet _ => true
              | _ => false) r.items
            let placed := r.items.flatMap Item.entries
            r.patron = n ∧ r.mode = p.mode ∧ r.items ≠ [] ∧ (r.band = .urgent ↔ ∃ w ∈ placed, w.band = .urgent)
            ∧ r.items.map Item.place = List.range' 1 r.items.length
            ∧ q = { p with wishes := q.wishes, held := p.held + r.items.length }
            ∧ q.held ≤ p.allowance ∧ t.heldTotal = s.heldTotal + r.items.length ∧ t.heldTotal ≤ 40960
            ∧ (placed ++ q.wishes).Perm p.wishes
            ∧ (∀ w ∈ placed, ∃ ti, s.titles.get w.title = some ti ∧ ti.withdrawn = false
              ∧ (w.format = .cartridge → ti.image ≠ none) ∧ (w.format = .braille → ti.braille ≠ none))
            ∧ (∀ i ∈ r.items, i.ready = false ∧ i.dispatched = false ∧ i.entries ≠ []
              ∧ (i.band = .urgent ↔ ∃ w ∈ i.entries, w.band = .urgent)
              ∧ ((∃ j y ys ti img, jobAt i j ∧ j.order = o ∧ j.patron = n ∧ j.state = .queued ∧ j.attempts = 0 ∧ j.band = i.band
                    ∧ j.titles = y :: ys ∧ s.titles.get y.title = some ti ∧ ti.image = some img ∧ j.cls = classFor img
                    ∧ s.standing = .running ∧ t.jobs.length ≤ 4096
                    ∧ s.settings.critical.get j.cls < (s.blank.get j.cls).length - (t.reserved.get j.cls - 1)
                    ∧ j.titles.map JobTitle.title = i.entries.map (fun w => w.title)
                    ∧ (∀ w ∈ i.entries, w.format = .cartridge)
                    ∧ (∀ x ∈ j.titles, ∃ tx im, s.titles.get x.title = some tx ∧ tx.image = some im
                      ∧ x = { title := x.title, revision := im.revision, footprint := needs im })
                    ∧ ∀ xs x ys, j.titles = xs ++ x :: ys → xs ≠ [] →
                        xs.length < p.limit ∧ 64 + (xs.map JobTitle.footprint).sum + x.footprint ≤ room j.cls)
                ∨ ∃ k w ti x task, i.object = .copySet k ∧ i.entries = [w] ∧ w.format = .braille
                    ∧ s.titles.get w.title = some ti ∧ k ∈ ti.copySets
                    ∧ s.copySets.get k = some x ∧ x.title = w.title ∧ x.state = .available
                    ∧ (∀ front back, ti.copySets = front ++ k :: back → k ∉ front →
                      ∀ m ∈ front, ∀ y, s.copySets.get m = some y → y.title = w.title → y.state ≠ .available)
                    ∧ t.copySets.get k = some { x with state := .reserved o i.place }
                    ∧ s.tasks.get task = none ∧ t.tasks.length ≤ 4096 ∧ task ∈ t.pullQueue
                    ∧ t.tasks.get task = some { copySet := k, order := o, band := w.band, state := .queued }))
            ∧ (∀ c, t.reserved.get c = s.reserved.get c + opened c)
            ∧ t.jobs.length = s.jobs.length + (opened .c1 + opened .c2 + opened .c3) ∧ t.tasks.length = s.tasks.length + sets
            ∧ (∀ k, k ∈ t.jobQueue ↔ k ∈ s.jobQueue ∨ ∃ i ∈ r.items, i.object = .job k)
            ∧ (s.counters.stamp + r.items.length ≤ 4294967295 →
              (∀ k, s.jobs.get k ≠ none → t.jobs.get k = s.jobs.get k)
              ∧ r.items.filterMap (fun i => match i.object with
                  | .job k => (t.jobs.get k).map Job.stamp
                  | _ => none) = List.range' (s.counters.stamp + 1) (opened .c1 + opened .c2 + opened .c3))
            ∧ (∀ k, s.tasks.get k ≠ none → t.tasks.get k = s.tasks.get k)
            ∧ (∀ k, (∀ i ∈ r.items, i.object ≠ .copySet k) → t.copySets.get k = s.copySets.get k)
            ∧ (∀ m, t.titles.get m = (s.titles.get m).map (fun ti =>
                if placed.any (fun w => w.format == .braille && w.title == m) then { ti with waiting := ti.waiting.erase n }
                else ti))
            ∧ t.counters = { s.counters with
                job := t.counters.job, task := t.counters.task, stamp := t.counters.stamp, order := next o }
            ∧ (∀ front a mid b back ja jb x, r.items = front ++ a :: mid ++ b :: back → jobAt a ja → jobAt b jb →
                x ∈ jb.titles → refuses ja x.title x.footprint)
            ∧ ∀ a ja y ys w ti img, a ∈ r.items → jobAt a ja → ja.titles = y :: ys → w ∈ q.wishes → w.format = .cartridge →
                before w.title y = true → s.titles.get w.title = some ti → ti.withdrawn = false → ti.image = some img →
                refuses ja w.title (needs img))

/-- O55. With no offer in progress, the oldest pending set's offer begins and passes over the waiters that are not ACTIVE with
free units; it ends at once where the set is not AVAILABLE, its title is withdrawn, or no waiter is left to consider. An offer
in progress looks through the list as it then stands; the pass of its next waiter comes before the pass queue's, takes the
offered set first, and so ends the offer. The pass begins with the waiter considered and off the pass queue, and while any pass
runs no offer moves (R44, R46, R55, R60). When an offer's end is seen is log entry 14, that an idle step begins a pass log
entry 4, and that the pass leaves its patron on the blocked lists that a PATRON-SET made it stay on (R24) log entry 33. -/
def Obligations.CopySetOffer : Prop :=
  (∀ s : State, s.restartAsserted = false → s.running ≠ none → exec .copySetOffer s = .next s)
  ∧ ∀ (s : State) (k : Nat) (c : CopySet) (ti : Title), s.restartAsserted = false → s.running = none →
    s.copySets.get k = some c → s.titles.get c.title = some ti → (s.port .order).waiting = none →
    let offers := exec .copySetOffer s
    let eligible := fun (n : Nat) => ∃ p, s.patrons.get n = some p ∧ p.state = .active ∧ p.held < p.allowance
    let void := c.state ≠ .available ∨ ti.withdrawn = true
    (∀ rest, s.offer = none → s.pendingOffers = k :: rest →
      (void → offers = .next { s with pendingOffers := rest })
      ∧ (¬ void → (∀ n ∈ ti.waiting, ¬ eligible n) → offers = .next { s with pendingOffers := rest })
      ∧ (∀ front n back, ¬ void → ti.waiting = front ++ n :: back → (∀ m ∈ front, ¬ eligible m) → n ∉ front → eligible n →
          offers = .next { s with pendingOffers := rest, offer := some { set := k, considered := front } }))
    ∧ (s.offer = none → s.pendingOffers = [] → offers = .next s)
    ∧ (∀ done, s.offer = some { set := k, considered := done } →
      ((∀ n ∈ ti.waiting, n ∉ done → ¬ eligible n) → offers = .next { s with offer := none })
      ∧ (∀ front n back, ti.waiting.filter (fun m => m ∉ done) = front ++ n :: back → (∀ m ∈ front, ¬ eligible m) →
          n ∉ front → eligible n →
          offers = .next { s with offer := some { set := k, considered := done ++ front } }
          ∧ (s.pending = [] → step s = .next { s with
              offer := some { set := k, considered := done ++ front ++ [n] }
              passQueue := s.passQueue.erase n
              running := some { patron := n, offered := some k } })
          ∧ ∀ p w weights, s.patrons.get n = some p → p.wishes = [w] → w.format = .braille → w.title = c.title →
            ti.braille = some weights → ¬ void → s.heldTotal < 40960 → s.orders.length < 8192 → s.tasks.length < 4096 →
            s.orders.get s.counters.order = none → s.tasks.get s.counters.task = none →
            let o := s.counters.order
            let task := s.counters.task
            let next := fun (m : Nat) => if m < 16777215 then m + 1 else 1
            let leaves := fun (c : Cls) => if n ∈ s.stays.get c then s.blocked.get c else (s.blocked.get c).erase n
            let s' : State := { s with
              offer := none
              passQueue := s.passQueue.erase n
              patrons := s.patrons.put n { p with wishes := [], held := p.held + 1 }
              heldTotal := s.heldTotal + 1
              blocked := ⟨leaves .c1, leaves .c2, leaves .c3⟩
              titles := s.titles.put c.title { ti with waiting := ti.waiting.erase n }
              copySets := s.copySets.put k { c with state := .reserved o 1 }
              tasks := s.tasks.put task { copySet := k, order := o, band := w.band, state := .queued }
              orders := s.orders.put o
                { patron := n, mode := p.mode, band := w.band
                  items := [{ place := 1, object := .copySet k, band := w.band, entries := [w], ready := false,
                              dispatched := false }] }
              counters := { s.counters with task := next task, order := next o } }
            exec .selectionPass s =
              .next (s.ended [] { s' with pullQueue := insertBefore (taskBefore s') task s.pullQueue })))

/-- O56. The starved claim of a class gives its oldest starved job a free blank, where there are both, and does nothing
otherwise. The parcel backlog is every ready, undispatched item without parcels, those of URGENT orders first, then by order
number, then by item order. Serving it makes the parcels of its items whole from the head, cartridges and sets of either mode,
and stops at the first that needs more records than are free; then the TOGETHER groups that are due are released; what is left
is the backlog again. The parcel of a single waiting cartridge is a group of its own, released at once to the tail of its band;
nothing happens with no item waiting or no record free (R74, R113, R114, R115, R117, R118). That these run inside the events
that call for them is log entries 11 and 15; that such groups are released when the serving has stopped is log entry 13. -/
def Obligations.StarvedClaimAndBacklogServe : Prop :=
  ∀ s : State, s.restartAsserted = false →
    (∀ c, (s.starved.get c = [] ∨ (s.blank.get c).length ≤ s.reserved.get c → exec (.starvedClaim c) s = .next s)
      ∧ ∀ job rest j, s.starved.get c = job :: rest → s.reserved.get c < (s.blank.get c).length →
          s.jobs.get job = some j → j.cls = c →
          let s' : State := { s with
            starved := s.starved.set c rest
            jobs := s.jobs.put job { j with state := .queued }
            reserved := s.reserved.set c (s.reserved.get c + 1) }
          exec (.starvedClaim c) s = .next (s.ended [] { s' with jobQueue := insertBefore (jobBefore s') job s.jobQueue }))
    ∧ ((∀ e ∈ s.orders, e.2.items.Pairwise (fun a b => a.place ≠ b.place)) → s.orders.wf = true →
      (∀ o p, (o, p) ∈ backlog s ↔ ∃ r i, s.orders.get o = some r ∧ i ∈ r.items ∧ i.place = p ∧ i.ready = true
        ∧ i.dispatched = false ∧ ¬ hasParcel s o i)
      ∧ (backlog s).Pairwise (servedBefore s))
    ∧ (s.tablesWf = true → (∀ e ∈ s.orders, e.2.items.Pairwise (fun a b => a.place ≠ b.place)) →
      (∀ e ∈ s.orders, e.2.items.Pairwise (fun a b => a.object ≠ b.object)) →
      ∀ left v u, Served (backlog s) left s v → GroupsSettled (backlog s) v u →
        exec .parcelBacklogServe s = .next (s.ended [] u) ∧ backlog u = left)
    ∧ (backlog s = [] → exec .parcelBacklogServe s = .next s)
    ∧ ∀ o p r i serial, backlog s = [(o, p)] → s.orders.get o = some r → r.items = [i] → i.place = p →
      i.object = .cart serial → (∀ e ∈ s.parcels, e.2.order ≠ o) →
      (16384 ≤ s.parcels.length → exec .parcelBacklogServe s = .next s)
      ∧ ∀ front back, s.parcels.length < 16384 → s.groups.get s.counters.group = none →
          s.parcels.get s.counters.parcel = none →
          let band := if r.mode = .asReady then i.band else r.band
          let stands := fun (b : Band) (m : Nat) =>
            ∃ x y, s.parcels.get m = some x ∧ s.groups.get x.group = some y ∧ y.band = b
          s.dispatchQueue = front ++ back → (band = .normal → back = []) →
          (band = .urgent → (∀ m ∈ front, stands .urgent m) ∧ ∀ m ∈ back.head?, stands .normal m) →
          let g := s.counters.group
          let n := s.counters.parcel
          let next := fun (k : Nat) => if k < 16777215 then k + 1 else 1
          exec .parcelBacklogServe s = .next (s.ended [] { s with
            groups := s.groups.put g { band := band, parcels := [n], begun := false }
            parcels := s.parcels.put n { order := o, group := g, contents := .cartridges [serial], state := .ready }
            counters := { s.counters with group := next g, parcel := next n }
            dispatchQueue := front ++ n :: back })

/-! ### What every step keeps -/

/-- O57. The reset state is what the first start-up scan leaves over a record memory that has never held its records (R19,
R20, R21), and it meets every invariant below. That reset is the state after the first scan is log entry 3. -/
def Obligations.ResetInvariants : Prop :=
  exec .startUpScan State.powerOn = .next State.reset ∧ State.reset.inRange = true ∧ State.reset.tablesWf = true
    ∧ State.reset.portsSound

/-- O58. Every step keeps every setting, next-number counter, service day and bay record within its range (R2, R78, R97, R98,
R137, section 1.6). -/
def Obligations.RangesKept : Prop :=
  ∀ s t : State, s.inRange = true → step s = .next t → t.inRange = true

/-- O59. Every step keeps every record table in its canonical form: each live number once, in rising order (R2, R3). -/
def Obligations.TablesWfKept : Prop :=
  ∀ s t : State, s.tablesWf = true → step s = .next t → t.tablesWf = true

/-- O60. Every step keeps the ports' bookkeeping: at most 128 frames in a send list besides the answer, a bad-frame count of at
most 65,535, and a notice set of the link's kinds, in ascending notice code and class, none twice, the order the answers of
R172 and R173 and the NOTICE frames of R170 rest on; one answer in a send list exactly while a request is in progress and not
waiting; and a request that waits is the Order link's, for the patron of the running pass (R22, R167, R168, R170, R171). That
the answer is not among the 128 frames is log entry 10; that a frame already being sent is among them is the model's choice
(log entry 34). That a request not waiting is answered in the step that takes it, and which requests wait, is log entry 4. -/
def Obligations.PortsSoundKept : Prop :=
  ∀ s t : State, s.portsSound → step s = .next t → t.portsSound
end

