-- ==== Sys2Proof/Laws/Bytes.lean ====
section
/-! SUPPORT. Laws of the byte order, of bodies, and of the frame layout: what the part reads from bytes laid out as R165 gives
is what was written. -/

namespace Sys2Proof

@[simp] theorem leBytes_length (n v : Nat) : (leBytes n v).length = n := by
  induction n generalizing v with
  | zero => rfl
  | succ n ih => simp [leBytes, ih]

/-- The bytes of a number spell it, where they are wide enough (R165). -/
theorem leValue_leBytes (n v : Nat) (h : v < 256 ^ n) : leValue (leBytes n v) = v := by
  induction n generalizing v with
  | zero =>
    have : v = 0 := by simpa using h
    subst this
    rfl
  | succ n ih =>
    have h' : v / 256 < 256 ^ n := by
      rw [Nat.div_lt_iff_lt_mul (by decide)]
      rw [pow_succ] at h
      exact h
    simp only [leBytes, leValue, BitVec.toNat_ofNat, ih _ h']
    omega

/-- A body written from fields is as long as their widths together. -/
theorem writeFields_length : ∀ (ws vs : List Nat), ws.length = vs.length → (writeFields ws vs).length = ws.sum
  | [], [], _ => rfl
  | w :: ws, v :: vs, h => by
    simp [writeFields, writeFields_length ws vs (by simpa using h)]

/-- A body written from fields that fit their widths is read back as those fields (R169). -/
theorem readFields_writeFields : ∀ (ws vs : List Nat), List.Forall₂ (fun w v => v < 256 ^ w) ws vs →
    readFields ws (writeFields ws vs) = some vs
  | _, _, .nil => rfl
  | w :: ws, v :: vs, .cons hv h => by
    have hl := leBytes_length w v
    simp only [writeFields, readFields, List.length_append, hl]
    rw [if_neg (by omega), List.drop_left' hl, List.take_left' hl, readFields_writeFields ws vs h, leValue_leBytes w v hv]
    rfl

/-- A body is read exactly when its length is the sum of the widths (R169). -/
theorem readFields_eq_none_iff (ws : List Nat) (bs : List Byte) : readFields ws bs = none ↔ bs.length ≠ ws.sum := by
  induction ws generalizing bs with
  | nil => cases bs <;> simp [readFields]
  | cons w ws ih =>
    simp only [readFields]
    split
    · simp only [List.sum_cons, true_iff]
      omega
    · simp only [Option.map_eq_none_iff, ih, List.length_drop, List.sum_cons]
      omega

/-- As many values as widths. -/
theorem readFields_length {ws : List Nat} {bs : List Byte} {vs : List Nat} (h : readFields ws bs = some vs) :
    vs.length = ws.length := by
  induction ws generalizing bs vs with
  | nil => cases bs <;> simp_all [readFields]
  | cons w ws ih =>
    simp only [readFields] at h
    split at h
    · cases h
    · obtain ⟨vs', h', rfl⟩ := Option.map_eq_some_iff.1 h
      simp [ih h']

theorem RxFrame.covered_length (f : RxFrame) : f.covered.length = f.body.length + 5 := by
  simp [RxFrame.covered]
  omega

theorem RxFrame.tail_length (f : RxFrame) : f.tail.length = f.body.length + 7 := by
  simp [RxFrame.tail, RxFrame.covered_length]

/-- The length field of a frame's bytes counts its kind, tag and body (R165). -/
theorem RxFrame.lengthField_tail (f : RxFrame) (h : f.body.length ≤ Config.maxBody) :
    lengthField f.tail = f.body.length + 3 := by
  have hl : (leBytes 2 (3 + f.body.length)).length = 2 := leBytes_length _ _
  simp only [lengthField, RxFrame.tail, RxFrame.covered, List.append_assoc]
  rw [List.take_left' hl, leValue_leBytes]
  · omega
  · simp only [Config.maxBody] at h
    omega

/-- A check sent most significant byte first is read back (R165). -/
theorem checkBytes_value (c : Half) :
    256 * leValue [BitVec.ofNat 8 (c.toNat / 256)] + leValue [BitVec.ofNat 8 c.toNat] = c.toNat := by
  have := c.isLt
  simp only [leValue, BitVec.toNat_ofNat]
  omega

/-- A frame's own bytes are judged good and give the frame back (R165, R166). -/
theorem RxFrame.judge_tail (f : RxFrame) (h : f.body.length ≤ Config.maxBody) : judgeFrame f.tail = some f := by
  obtain ⟨kind, tag, body⟩ := f
  have hc : (RxFrame.covered ⟨kind, tag, body⟩).length = body.length + 5 := RxFrame.covered_length _
  have hf := RxFrame.lengthField_tail ⟨kind, tag, body⟩ h
  simp only at hf
  have ht : (RxFrame.tail ⟨kind, tag, body⟩).take (body.length + 5) = RxFrame.covered ⟨kind, tag, body⟩ := by
    rw [RxFrame.tail, List.take_left' hc]
  have hd : (RxFrame.tail ⟨kind, tag, body⟩).drop (body.length + 5) =
      [BitVec.ofNat 8 ((crc16 (RxFrame.covered ⟨kind, tag, body⟩)).toNat / 256),
        BitVec.ofNat 8 (crc16 (RxFrame.covered ⟨kind, tag, body⟩)).toNat] := by
    rw [RxFrame.tail, List.drop_left' hc]
  have htag : leValue [BitVec.ofNat 8 tag.toNat, BitVec.ofNat 8 (tag.toNat / 256)] = tag.toNat := by
    have := leValue_leBytes 2 tag.toNat (by simpa using tag.isLt)
    simpa [leBytes] using this
  simp only [judgeFrame, hf, show body.length + 3 + 2 = body.length + 5 from rfl, ht, hd]
  rw [if_pos]
  · simp [RxFrame.tail, RxFrame.covered, leBytes, leValue] at htag ⊢
    simp [htag]
  · simp only [List.take_succ_cons, List.take_zero, List.drop_succ_cons, List.drop_zero]
    exact (checkBytes_value _).symm

end Sys2Proof
end

