-- ==== Sys2Proof/Laws/Table.lean ====
section
/-! SUPPORT. Laws of the record tables and of the per-class and per-link figures: read after write, every other number left
alone, and the canonical form kept by every table operation. -/

namespace Sys2Proof.Machine

variable {α : Type}

@[simp] theorem Table.get_nil (n : Nat) : Table.get ([] : Table α) n = none := rfl

theorem Table.get_cons (e : Nat × α) (t : Table α) (n : Nat) :
    Table.get (e :: t) n = if n = e.1 then some e.2 else Table.get t n := by
  obtain ⟨k, v⟩ := e
  rfl

@[simp] theorem Table.get_put_same (t : Table α) (n : Nat) (v : α) : (t.put n v).get n = some v := by
  induction t with
  | nil => simp [Table.put, Table.get]
  | cons e t ih =>
    obtain ⟨k, w⟩ := e
    simp only [Table.put]
    split
    · simp [Table.get]
    · split
      · simp [Table.get]
      · simp [Table.get, *]

@[simp] theorem Table.get_put_other (t : Table α) {n m : Nat} (v : α) (h : m ≠ n) : (t.put n v).get m = t.get m := by
  induction t with
  | nil => simp [Table.put, Table.get, h]
  | cons e t ih =>
    obtain ⟨k, w⟩ := e
    simp only [Table.put]
    split
    · simp [Table.get, h]
    · split
      · subst_vars
        simp [Table.get, h]
      · simp only [Table.get, ih]

theorem Table.get_put (t : Table α) (n m : Nat) (v : α) :
    (t.put n v).get m = if m = n then some v else t.get m := by
  by_cases h : m = n
  · subst h
    simp
  · simp [h]

theorem Table.get_del (t : Table α) (n m : Nat) : (t.del n).get m = if m = n then none else t.get m := by
  induction t with
  | nil => simp [Table.del]
  | cons e t ih =>
    obtain ⟨k, w⟩ := e
    simp only [Table.del, List.filter_cons, bne_iff_ne] at ih ⊢
    by_cases hk : k = n
    · subst hk
      simp only [ne_eq, not_true_eq_false, if_false, ih, Table.get]
      split <;> simp [*]
    · simp only [ne_eq, hk, not_false_eq_true, if_true, Table.get, ih]
      split
      · subst_vars
        simp [hk]
      · rfl

@[simp] theorem Table.get_del_same (t : Table α) (n : Nat) : (t.del n).get n = none := by
  simp [Table.get_del]

@[simp] theorem Table.get_del_other (t : Table α) {n m : Nat} (h : m ≠ n) : (t.del n).get m = t.get m := by
  simp [Table.get_del, h]

/-- What a change in place gives at every number. -/
theorem Table.get_modify (t : Table α) (n m : Nat) (f : α → α) :
    (t.modify n f).get m = if m = n then (t.get n).map f else t.get m := by
  unfold Table.modify
  split
  · rename_i v hv
    rw [Table.get_put]
    split <;> simp [hv]
  · rename_i hv
    split
    · subst_vars
      simp [hv]
    · rfl

/-- What a change of every record gives at every number. -/
@[simp] theorem Table.get_mapAll (t : Table α) (f : Nat → α → α) (n : Nat) :
    (t.mapAll f).get n = (t.get n).map (f n) := by
  induction t with
  | nil => rfl
  | cons e t ih =>
    obtain ⟨k, w⟩ := e
    simp only [Table.mapAll, List.map_cons, Table.get] at ih ⊢
    split
    · subst_vars
      rfl
    · exact ih

/-- The second of two writes under one number stands. -/
@[simp] theorem Table.put_put (t : Table α) (n : Nat) (v w : α) : (t.put n v).put n w = t.put n w := by
  induction t with
  | nil => simp [Table.put]
  | cons e t ih =>
    obtain ⟨k, x⟩ := e
    simp only [Table.put]
    split
    · simp [Table.put]
    · split
      · subst_vars
        simp [Table.put]
      · simp [Table.put, *]

/-- A record written and then freed is freed. -/
@[simp] theorem Table.put_del (t : Table α) (n : Nat) (v : α) : (t.put n v).del n = t.del n := by
  induction t with
  | nil => simp [Table.put, Table.del]
  | cons e t ih =>
    obtain ⟨k, w⟩ := e
    simp only [Table.put]
    split
    · simp [Table.del]
    · split
      · subst_vars
        simp [Table.del]
      · simp only [Table.del] at ih ⊢
        simp [List.filter_cons, ih]

/-- A change of a live record writes it. -/
theorem Table.modify_some {t : Table α} {n : Nat} {v : α} (f : α → α) (h : t.get n = some v) :
    t.modify n f = t.put n (f v) := by
  simp [Table.modify, h]

/-- A record read stands in the table. -/
theorem Table.mem_of_get {t : Table α} {n : Nat} {v : α} (h : t.get n = some v) : (n, v) ∈ t := by
  induction t with
  | nil => simp at h
  | cons e t ih =>
    obtain ⟨k, w⟩ := e
    simp only [Table.get] at h
    split at h
    · cases h
      subst_vars
      simp
    · exact List.mem_cons_of_mem _ (ih h)

/-- A number without a record stands nowhere in the table. -/
theorem Table.get_eq_none_iff (t : Table α) (n : Nat) : t.get n = none ↔ n ∉ t.numbers := by
  induction t with
  | nil => simp [Table.numbers]
  | cons e t ih =>
    obtain ⟨k, w⟩ := e
    simp only [Table.get, Table.numbers, List.map_cons, List.mem_cons, not_or] at ih ⊢
    split
    · simp [*]
    · simp [*]

/-- In the canonical form every record of the table is the one read under its number. -/
theorem Table.get_of_mem {t : Table α} (h : t.wf = true) {e : Nat × α} (he : e ∈ t) : t.get e.1 = some e.2 := by
  rw [Table.wf, decide_eq_true_eq] at h
  induction t with
  | nil => simp at he
  | cons x t ih =>
    obtain ⟨k, w⟩ := x
    rw [List.pairwise_cons] at h
    simp only [Table.get]
    rcases List.mem_cons.1 he with rfl | he
    · simp
    · have hk := h.1 e he
      rw [if_neg (by simp only at hk; omega)]
      exact ih h.2 he

/-- A counter whose value is free gives that value (R2). -/
theorem freshNumber_free {t : Table α} {n : Nat} (h : t.get n = none) : freshNumber t n = n := by
  rw [Table.get_eq_none_iff] at h
  unfold freshNumber
  cases t.length <;> simp [skipLive, h]

/-- A counter's following value (R2). -/
theorem nextNumber_eq (n : Nat) : nextNumber n = if n < 16777215 then n + 1 else 1 := by
  unfold nextNumber
  have h : Config.maxNumber = 16777215 := rfl
  rw [h]
  by_cases hn : n < 16777215
  · rw [if_pos hn, if_neg (by omega)]
  · rw [if_neg hn, if_pos (by omega)]

/-! ### The canonical form -/

theorem Table.wf_iff (t : Table α) : t.wf = true ↔ t.Pairwise (fun a b => a.1 < b.1) := by
  simp [Table.wf]

@[simp] theorem Table.wf_nil : Table.wf ([] : Table α) = true := by
  simp [Table.wf_iff]

theorem Table.mem_put {t : Table α} {n : Nat} {v : α} {e : Nat × α} (h : e ∈ t.put n v) : e = (n, v) ∨ e ∈ t := by
  induction t with
  | nil => simpa [Table.put] using h
  | cons x t ih =>
    obtain ⟨k, w⟩ := x
    simp only [Table.put] at h
    split at h
    · simpa using h
    · split at h
      · simp only [List.mem_cons] at h ⊢
        tauto
      · simp only [List.mem_cons] at h ⊢
        rcases h with h | h
        · exact .inr (.inl h)
        · rcases ih h with h | h
          · exact .inl h
          · exact .inr (.inr h)

/-- Writing a record keeps the canonical form. -/
theorem Table.wf_put {t : Table α} (h : t.wf = true) (n : Nat) (v : α) : (t.put n v).wf = true := by
  rw [Table.wf_iff] at h ⊢
  induction t with
  | nil => simp [Table.put]
  | cons x t ih =>
    obtain ⟨k, w⟩ := x
    rw [List.pairwise_cons] at h
    simp only [Table.put]
    split
    · rename_i hlt
      refine List.pairwise_cons.2 ⟨?_, List.pairwise_cons.2 h⟩
      intro e he
      rcases List.mem_cons.1 he with rfl | he
      · exact hlt
      · exact lt_trans hlt (h.1 e he)
    · split
      · subst_vars
        exact List.pairwise_cons.2 ⟨h.1, h.2⟩
      · refine List.pairwise_cons.2 ⟨?_, ih h.2⟩
        intro e he
        rcases Table.mem_put he with rfl | he
        · show k < n
          omega
        · exact h.1 e he

theorem Table.wf_filter {t : Table α} (h : t.wf = true) (p : Nat × α → Bool) : Table.wf (t.filter p) = true := by
  rw [Table.wf_iff] at h ⊢
  exact h.filter p

/-- Freeing a record keeps the canonical form. -/
theorem Table.wf_del {t : Table α} (h : t.wf = true) (n : Nat) : (t.del n).wf = true :=
  Table.wf_filter h _

/-- Changing a record in place keeps the canonical form. -/
theorem Table.wf_modify {t : Table α} (h : t.wf = true) (n : Nat) (f : α → α) : (t.modify n f).wf = true := by
  unfold Table.modify
  split
  · exact Table.wf_put h _ _
  · exact h

/-- Changing every record keeps the canonical form. -/
theorem Table.wf_mapAll {t : Table α} (h : t.wf = true) (f : Nat → α → α) : (t.mapAll f).wf = true := by
  rw [Table.wf_iff] at h ⊢
  exact List.pairwise_map.2 h

/-! ### Per class and per link -/

@[simp] theorem PerClass.get_set_same (p : PerClass α) (c : Cls) (v : α) : (p.set c v).get c = v := by
  cases c <;> rfl

@[simp] theorem PerClass.get_set_other (p : PerClass α) {c d : Cls} (v : α) (h : d ≠ c) : (p.set c v).get d = p.get d := by
  cases c <;> cases d <;> first | rfl | exact absurd rfl h

@[simp] theorem PerLink.get_set_same (p : PerLink α) (l : Link) (v : α) : (p.set l v).get l = v := by
  cases l <;> rfl

@[simp] theorem PerLink.get_set_other (p : PerLink α) {l m : Link} (v : α) (h : m ≠ l) : (p.set l v).get m = p.get m := by
  cases l <;> cases m <;> first | rfl | exact absurd rfl h

@[simp] theorem PerLink.set_set (p : PerLink α) (l : Link) (v w : α) : (p.set l v).set l w = p.set l w := by
  cases l <;> rfl

@[simp] theorem PerLink.set_get (p : PerLink α) (l : Link) : p.set l (p.get l) = p := by
  cases l <;> rfl

theorem PerLink.ext_get {p q : PerLink α} (h : ∀ l, p.get l = q.get l) : p = q := by
  obtain ⟨a, b, c, d⟩ := p
  obtain ⟨a', b', c', d'⟩ := q
  have h1 := h .order
  have h2 := h .duplication
  have h3 := h .mailroom
  have h4 := h .returns
  simp only [PerLink.get] at h1 h2 h3 h4
  subst h1 h2 h3 h4
  rfl

/-! ### Queues -/

theorem mem_appendNew (l : List Nat) (n m : Nat) : m ∈ appendNew l n ↔ m ∈ l ∨ m = n := by
  unfold appendNew
  split
  · rename_i h
    constructor
    · exact .inl
    · rintro (h' | rfl) <;> assumption
  · simp

theorem nodup_appendNew {l : List Nat} (h : l.Nodup) (n : Nat) : (appendNew l n).Nodup := by
  unfold appendNew
  split
  · exact h
  · rename_i hn
    exact List.nodup_append.2 ⟨h, by simp, by intro a ha b hb; simp at hb; subst hb; rintro rfl; exact hn ha⟩

end Sys2Proof.Machine
end

