-- ==== Sys2Proof/Laws/Ports.lean ====
section
/-! SUPPORT. Laws of the ports: the end of an event and the notices it makes, a good frame taken as a request, and the
receiver on the bytes of one frame. -/

namespace Sys2Proof.Machine

/-! ### Notices left alone -/

theorem Port.Noticed.refl (p : Port) : p.Noticed p :=
  ⟨rfl, rfl, rfl, fun _ h => h, ⟨[], by simp⟩⟩

theorem Port.Noticed.trans {p q r : Port} (h : p.Noticed q) (h' : q.Noticed r) : p.Noticed r := by
  obtain ⟨ns, hs⟩ := h.sendList
  obtain ⟨ms, hs'⟩ := h'.sendList
  exact ⟨h'.rx.trans h.rx, h'.inProgress.trans h.inProgress, h'.badFrames.trans h.badFrames,
    fun n hn => h'.notices n (h.notices n hn), ⟨ns ++ ms, by simp [hs, hs']⟩⟩

theorem Noticed.refl (p : PerLink Port) : Noticed p p :=
  fun _ => .refl _

theorem Noticed.trans {p q r : PerLink Port} (h : Noticed p q) (h' : Noticed q r) : Noticed p r :=
  fun l => (h l).trans (h' l)

theorem mem_insertBefore {α : Type} (b : α → α → Bool) (x y : α) (l : List α) : y ∈ insertBefore b x l ↔ y = x ∨ y ∈ l := by
  induction l with
  | nil => simp [insertBefore]
  | cons z l ih =>
    simp only [insertBefore]
    split
    · simp
    · simp only [List.mem_cons, ih]
      tauto

theorem mem_addNotice (l : List Notice) (n m : Notice) : m ∈ addNotice l n ↔ m = n ∨ m ∈ l := by
  unfold addNotice
  split
  · rename_i h
    constructor
    · exact .inr
    · rintro (rfl | h') <;> assumption
  · exact mem_insertBefore _ _ _ _

/-- Two states that differ in their ports only, and there by notices only. -/
structure OnlyNotices (s t : State) : Prop where
  same : t = { s with ports := t.ports }
  noticed : Noticed s.ports t.ports

theorem OnlyNotices.refl (s : State) : OnlyNotices s s :=
  ⟨rfl, .refl _⟩

theorem OnlyNotices.trans {s t u : State} (h : OnlyNotices s t) (h' : OnlyNotices t u) : OnlyNotices s u :=
  ⟨by rw [h'.same, h.same], h.noticed.trans h'.noticed⟩

/-- Raising a kind changes the ports only, by notices only. -/
theorem raise_frame (l : Link) (n : Notice) (s : State) : OnlyNotices s (raise l n s) := by
  refine ⟨rfl, fun m => ?_⟩
  by_cases h : m = l
  · subst h
    simp only [raise, State.onPort, PerLink.get_set_same]
    exact ⟨rfl, rfl, rfl, fun k hk => (mem_addNotice _ _ _).2 (.inr hk), ⟨[], by simp⟩⟩
  · simp only [raise, State.onPort, PerLink.get_set_other _ _ h]
    exact .refl _

/-- A kind raised is pending. -/
theorem mem_raise (l : Link) (n : Notice) (s : State) : n ∈ ((raise l n s).port l).notices := by
  simp [raise, State.port, State.onPort, mem_addNotice]

theorem raiseIf_frame (b : Bool) (l : Link) (n : Notice) (s : State) : OnlyNotices s (raiseIf b l n s) := by
  unfold raiseIf
  split
  · exact raise_frame l n s
  · exact .refl _

@[simp] theorem raiseIf_false (l : Link) (n : Notice) (s : State) : raiseIf false l n s = s := rfl

theorem Port.pushNotice_noticed (p : Port) (n : Notice) : p.Noticed (p.pushNotice n) := by
  unfold Port.pushNotice
  split
  · exact .refl _
  · exact ⟨rfl, rfl, rfl, fun _ h => h, ⟨[n], rfl⟩⟩

theorem Port.noticeFrames_noticed (old now : Port) : now.Noticed (Port.noticeFrames old now) := by
  unfold Port.noticeFrames
  generalize now.notices.filter _ = ns
  induction ns generalizing now with
  | nil => exact .refl _
  | cons n ns ih => exact (now.pushNotice_noticed n).trans (ih _)

theorem noticeFrames_frame (s0 s : State) : OnlyNotices s (noticeFrames s0 s) := by
  refine ⟨rfl, fun l => ?_⟩
  cases l <;> exact Port.noticeFrames_noticed _ _

theorem levelNotices_frame (s0 : State) (c : Cls) (s : State) : OnlyNotices s (levelNotices s0 c s) := by
  unfold levelNotices
  exact ((raiseIf_frame _ _ _ _).trans (raiseIf_frame _ _ _ _)).trans (raiseIf_frame _ _ _ _)

theorem conditionNotices_frame (s0 s : State) : OnlyNotices s (conditionNotices s0 s) := by
  unfold conditionNotices
  exact (((((raiseIf_frame _ _ _ _).trans (raiseIf_frame _ _ _ _)).trans (raiseIf_frame _ _ _ _)).trans
    (levelNotices_frame _ _ _)).trans (levelNotices_frame _ _ _)).trans (levelNotices_frame _ _ _)

/-- The end of an event changes the ports only, by notices only. -/
theorem endEvent_frame (s0 s : State) : OnlyNotices s (endEvent s0 s) :=
  (conditionNotices_frame s0 s).trans (noticeFrames_frame _ _)

/-- An event after which no condition has come to hold makes no condition notice. -/
theorem conditionNotices_quiet {s0 s : State} (h1 : workWaitingDue s0 s = false) (h2 : pullWaitingDue s0 s = false)
    (h3 : parcelWaitingDue s0 s = false) (h4 : ∀ c, lowHolds s c = true → lowHolds s0 c = true)
    (h5 : ∀ c, criticalHolds s c = true → criticalHolds s0 c = true) : conditionNotices s0 s = s := by
  have key : ∀ c, levelNotices s0 c s = s := by
    intro c
    have hl : (!lowHolds s0 c && lowHolds s c) = false := by
      cases h : lowHolds s c <;> simp [h4 c, h]
    have hc : (!criticalHolds s0 c && criticalHolds s c) = false := by
      cases h : criticalHolds s c <;> simp [h5 c, h]
    simp [levelNotices, hl, hc]
  simp [conditionNotices, h1, h2, h3, key]

/-- An event that made no kind pending makes no NOTICE frame. -/
theorem noticeFrames_quiet {s0 s : State} (h : ∀ l, ∀ n ∈ (s.port l).notices, n ∈ (s0.port l).notices) :
    noticeFrames s0 s = s := by
  have key : ∀ l, Port.noticeFrames (s0.port l) (s.port l) = s.port l := by
    intro l
    have : (s.port l).notices.filter (fun n => decide (n ∉ (s0.port l).notices)) = [] := by
      simpa using h l
    rw [Port.noticeFrames, this]
    rfl
  unfold noticeFrames
  have h1 := key .order
  have h2 := key .duplication
  have h3 := key .mailroom
  have h4 := key .returns
  simp only [State.port, PerLink.get] at h1 h2 h3 h4
  rw [h1, h2, h3, h4]

/-- What an event's conditions are read from, unchanged (R75, R86, R107, R118, R125). -/
structure SameConditions (s0 s : State) : Prop where
  jobQueue : s.jobQueue = s0.jobQueue
  unwiped : s.unwiped = s0.unwiped
  tasks : s.tasks = s0.tasks
  parcels : s.parcels = s0.parcels
  dispatchQueue : s.dispatchQueue = s0.dispatchQueue
  blank : s.blank = s0.blank
  reserved : s.reserved = s0.reserved
  warn : s.settings.warn = s0.settings.warn
  critical : s.settings.critical = s0.settings.critical

theorem SameConditions.quiet {s0 s : State} (h : SameConditions s0 s) : conditionNotices s0 s = s := by
  apply conditionNotices_quiet
  · simp [workWaitingDue, h.jobQueue, h.unwiped]
  · simp [pullWaitingDue, hasQueuedTask, h.tasks]
  · simp [parcelWaitingDue, hasReadyParcel, parcelState, h.parcels, h.dispatchQueue]
  · intro c
    simp [lowHolds, freeBlanks, h.blank, h.reserved, h.warn]
  · intro c
    simp [criticalHolds, freeBlanks, h.blank, h.reserved, h.critical]

/-- The end of an event that changed no condition and made no kind pending does nothing. -/
theorem endEvent_quiet {s0 s : State} (h : SameConditions s0 s)
    (hn : ∀ l, ∀ n ∈ (s.port l).notices, n ∈ (s0.port l).notices) : endEvent s0 s = s := by
  rw [endEvent, h.quiet, noticeFrames_quiet hn]

/-! ### A good frame taken as a request -/

theorem kindOfCode_code (k : Kind) : kindOfCode k.code = some k := by
  cases k <;> decide

/-- The state a block takes a request in: the request in progress, the receiver past its frame. -/
def admitted (l : Link) (tag : Half) (kind : Byte) (s : State) : State :=
  { s with ports := s.ports.set l { s.port l with rx := .waitIdle true, inProgress := some ⟨tag, kind⟩ } }

theorem admit_setRx (l : Link) (f : RxFrame) (s : State) :
    startRequest l f (setRx l (.waitIdle true) s) = admitted l f.tag f.kind s := by
  simp [startRequest, setRx, State.onPort, admitted, State.port]

/-- A request waits only for the running pass of the patron it names (R22). -/
theorem mustWait_false {l : Link} {k : Kind} {tag : Half} {body : List Byte} {s : State}
    (h : ∀ n, patronNamed k body = some n → NoPassFor n s) : mustWait l ⟨k.code, tag, body⟩ s = false := by
  cases hr : s.running with
  | none => simp [mustWait, hr]
  | some r =>
    have : patronNamed k body ≠ some r.patron := fun hk => h _ hk r hr rfl
    simp [mustWait, hr, kindOfCode_code, this]

/-- A request on a ready port that names the patron of the running pass is held as the request in progress, with no answer
(R22, R168). -/
theorem request_waits {l : Link} {s : State} (h : Ready l s) (f : RxFrame) (hb : f.body.length ≤ Config.maxBody)
    (hw : mustWait l f s = true) :
    request l f s = s.withPort l
      { s.port l with rx := .waitIdle true, inProgress := some ⟨f.tag, f.kind⟩, waiting := some f.body } := by
  have hp : ((setRx l (.waitIdle true) s).port l).inProgress = none := by
    simpa [setRx, State.onPort, State.port] using h.free
  have hw' : mustWait l f (setRx l (.waitIdle true) s) = true := hw
  rw [request, if_neg (by simp [h.released]), if_pos h.hunting, if_pos hb, goodFrame, hp]
  simp [takeRequest, hw', admit_setRx, admitted, State.onPort, Port.wait, State.withPort]

/-- A request on a ready port that need not wait: its checks and its block's effects, its answer, and the end of the event
(R168 to R171). -/
theorem request_ready {l : Link} {s : State} (h : Ready l s) (f : RxFrame) (hb : f.body.length ≤ Config.maxBody)
    (hw : mustWait l f s = false) :
    request l f s =
      endEvent (setRx l (.waitIdle true) s)
        (sendFrame l (.answer f.tag f.kind (deliver l f (admitted l f.tag f.kind s)).answer)
          (deliver l f (admitted l f.tag f.kind s)).state) := by
  have hp : ((setRx l (.waitIdle true) s).port l).inProgress = none := by
    simpa [setRx, State.onPort, State.port] using h.free
  have hw' : mustWait l f (setRx l (.waitIdle true) s) = false := hw
  rw [request, if_neg (by simp [h.released]), if_pos h.hunting, if_pos hb, goodFrame, hp]
  simp [takeRequest, hw', answerRequest, admit_setRx]

/-- A request that passes the port's checks is delivered to its block (R169). -/
theorem deliver_taken {l : Link} {k : Kind} {body : List Byte} {take : State → Taken} (hr : roleOk l k = true)
    (ht : bodyOf l k body = some take) (tag : Half) (s : State) : deliver l ⟨k.code, tag, body⟩ s = take s := by
  simp [deliver, kindOfCode_code, hr, ht]

/-- The receive states and the send lists aside, a sent frame leaves a state as it was. -/
theorem sendFrame_eq (l : Link) (f : OutFrame) (s : State) :
    sendFrame l f s = { s with ports := s.ports.set l { s.port l with sendList := (s.port l).sendList ++ [f] } } := rfl

/-- The ports of an answered request before the notices of its end. -/
theorem sendFrame_admitted (l : Link) (tag : Half) (kind : Byte) (a : Answer) (s : State) :
    sendFrame l (.answer tag kind a) (admitted l tag kind s) = { s with ports := s.answered l tag kind a } := by
  simp [sendFrame, State.onPort, admitted, State.answered, Port.answered, State.port]

theorem Ready.answered_ports {l : Link} {s : State} (tag : Half) (kind : Byte) (a : Answer) (m : Link) (n : Notice)
    (h : n ∈ ((s.answered l tag kind a).get m).notices) : n ∈ (s.port m).notices := by
  by_cases hm : m = l
  · subst hm
    simpa [State.answered, Port.answered] using h
  · simpa [State.answered, hm, State.port] using h

/-- A request that is taken, changes no condition and raises nothing: its state, with its answer at the port (R168 to
R171). -/
theorem request_quiet {l : Link} {k : Kind} {body : List Byte} {take : State → Taken} {s s' : State} {tag : Half} {a : Answer}
    (h : Ready l s) (hb : body.length ≤ Config.maxBody) (hw : ∀ n, patronNamed k body = some n → NoPassFor n s)
    (hr : roleOk l k = true) (ht : bodyOf l k body = some take)
    (he : take (admitted l tag k.code s) = ⟨{ s' with ports := (admitted l tag k.code s).ports }, a⟩)
    (hq : SameConditions s s') : request l ⟨k.code, tag, body⟩ s = s.reply l tag k a s' := by
  rw [request_ready h _ hb (mustWait_false hw), deliver_taken hr ht, he, State.reply]
  have hs : sendFrame l (.answer tag k.code a) { s' with ports := (admitted l tag k.code s).ports } =
      { s' with ports := s.answered l tag k.code a } := by
    simp [sendFrame, State.onPort, admitted, State.answered, Port.answered, State.port]
  simp only [hs]
  apply endEvent_quiet
  · exact ⟨hq.jobQueue, hq.unwiped, hq.tasks, hq.parcels, hq.dispatchQueue, hq.blank, hq.reserved, hq.warn, hq.critical⟩
  · intro m n hn
    have := Ready.answered_ports (s := s) tag k.code a m n hn
    by_cases hm : m = l
    · subst hm
      simpa [setRx, State.onPort, State.port] using this
    · simpa [setRx, State.onPort, State.port, hm] using this

/-! ### The notices of an event, as one list -/

@[simp] theorem raiseAll_nil (s : State) : raiseAll [] s = s := rfl

@[simp] theorem raiseAll_cons (e : Link × Notice) (ns : List (Link × Notice)) (s : State) :
    raiseAll (e :: ns) s = raiseAll ns (raise e.1 e.2 s) := rfl

theorem raiseAll_append (ns ms : List (Link × Notice)) (s : State) : raiseAll (ns ++ ms) s = raiseAll ms (raiseAll ns s) := by
  simp [raiseAll]

theorem raiseAll_dueIf (b : Bool) (l : Link) (n : Notice) (s : State) :
    raiseAll (dueIf b [(l, n)]) s = raiseIf b l n s := by
  cases b <;> rfl

/-- Raising a kind is done at the ports, whatever the rest of the state. -/
theorem raise_eq (l : Link) (n : Notice) (s : State) : raise l n s = { s with ports := (raise l n s).ports } := rfl

/-- Raising kinds changes the ports only. -/
theorem raiseAll_eq (ns : List (Link × Notice)) (s : State) : raiseAll ns s = { s with ports := (raiseAll ns s).ports } := by
  induction ns generalizing s with
  | nil => rfl
  | cons e ns ih =>
    rw [raiseAll_cons, ih]
    rfl

/-- Kinds raised at equal ports leave equal ports. -/
theorem raiseAll_ports {s t : State} (h : s.ports = t.ports) (ns : List (Link × Notice)) :
    (raiseAll ns s).ports = (raiseAll ns t).ports := by
  induction ns generalizing s t with
  | nil => exact h
  | cons e ns ih =>
    simp only [raiseAll_cons]
    apply ih
    simp [raise, State.onPort, h]

/-- The kinds due do not depend on the ports. -/
theorem dueNotices_ports (s0 s : State) (ps : PerLink Port) : dueNotices s0 { s with ports := ps } = dueNotices s0 s := rfl

/-- A class's level notices as a list of kinds. -/
theorem levelNotices_eq (s0 : State) (c : Cls) (s u : State)
    (hl : lowHolds u c = lowHolds s c) (hc : criticalHolds u c = criticalHolds s c) :
    levelNotices s0 c u =
      raiseAll (dueIf (!lowHolds s0 c && lowHolds s c) [(.duplication, .poolLow c)]
        ++ dueIf (!criticalHolds s0 c && criticalHolds s c) [(.order, .poolCritical c), (.duplication, .poolCritical c)]) u := by
  rw [raiseAll_append, raiseAll_dueIf]
  simp only [levelNotices, hl, hc]
  cases (!criticalHolds s0 c && criticalHolds s c) <;> rfl

/-- The notices of an event's conditions, as the list of kinds due. -/
theorem conditionNotices_eq (s0 s : State) : conditionNotices s0 s = raiseAll (dueNotices s0 s) s := by
  have key : ∀ (u : State), u = { s with ports := u.ports } →
      levelNotices s0 .c3 (levelNotices s0 .c2 (levelNotices s0 .c1 u)) =
        raiseAll (allClasses.flatMap (fun c =>
          dueIf (!lowHolds s0 c && lowHolds s c) [(.duplication, .poolLow c)]
            ++ dueIf (!criticalHolds s0 c && criticalHolds s c)
                [(.order, .poolCritical c), (.duplication, .poolCritical c)])) u := by
    intro u hu
    simp only [allClasses, List.flatMap_cons, List.flatMap_nil, List.append_nil, raiseAll_append _ (_ ++ _)]
    have h : ∀ c v, v = { s with ports := v.ports } → lowHolds v c = lowHolds s c ∧ criticalHolds v c = criticalHolds s c := by
      intro c v hv
      rw [hv]
      exact ⟨rfl, rfl⟩
    have step : ∀ c v, v = { s with ports := v.ports } →
        levelNotices s0 c v = { s with ports := (levelNotices s0 c v).ports } := by
      intro c v hv
      rw [(levelNotices_frame s0 c v).same, hv]
    have h1 := step .c1 u hu
    have h2 := step .c2 _ h1
    rw [levelNotices_eq s0 .c3 s _ (h .c3 _ h2).1 (h .c3 _ h2).2, levelNotices_eq s0 .c2 s _ (h .c2 _ h1).1 (h .c2 _ h1).2,
      levelNotices_eq s0 .c1 s _ (h .c1 _ hu).1 (h .c1 _ hu).2]
  unfold conditionNotices dueNotices
  simp only [raiseAll_append _ (List.flatMap _ _), raiseAll_append, raiseAll_dueIf]
  exact key _ (by
    rw [(raiseIf_frame _ _ _ _).same, (raiseIf_frame _ _ _ _).same, (raiseIf_frame _ _ _ _).same])

/-- The end of an event that raised kinds inside it. -/
theorem endEvent_eq (s0 s' : State) (raised : List (Link × Notice)) :
    endEvent s0 (raiseAll raised s') = s0.ended raised s' := by
  rw [endEvent, conditionNotices_eq, State.ended, raiseAll_append]
  congr 2
  rw [raiseAll_eq]
  rfl

/-- The end of an event depends on its start's conditions and pending kinds only. -/
theorem ended_setRx (l : Link) (rx : RxState) (s : State) (raised : List (Link × Notice)) (s' : State) :
    (setRx l rx s).ended raised s' = s.ended raised s' := by
  have hn : ∀ m, ((setRx l rx s).port m).notices = (s.port m).notices := by
    intro m
    by_cases hm : m = l
    · subst hm
      simp [setRx, State.onPort, State.port]
    · simp [setRx, State.onPort, State.port, hm]
  have h1 := hn .order
  have h2 := hn .duplication
  have h3 := hn .mailroom
  have h4 := hn .returns
  simp only [State.port, PerLink.get] at h1 h2 h3 h4
  have hd : dueNotices (setRx l rx s) s' = dueNotices s s' := rfl
  simp only [State.ended, hd, noticeFrames, Port.noticeFrames, h1, h2, h3, h4]

/-- Sending a frame and making kinds pending do not meet. -/
theorem sendFrame_raiseAll (l : Link) (f : OutFrame) (ns : List (Link × Notice)) (s : State) :
    sendFrame l f (raiseAll ns s) = raiseAll ns (sendFrame l f s) := by
  induction ns generalizing s with
  | nil => rfl
  | cons e ns ih =>
    rw [raiseAll_cons, raiseAll_cons, ih]
    congr 1
    by_cases h : e.1 = l
    · simp [raise, sendFrame, State.onPort, h]
    · have hp : ∀ (p : PerLink Port) (a b : Port), (p.set l a).set e.1 b = (p.set e.1 b).set l a := by
        intro p a b
        cases l <;> cases e' : e.1 <;> first | rfl | exact absurd e' h
      simp [raise, sendFrame, State.onPort, h, Ne.symm h, hp]

/-- A request that is taken: the state its block leaves but for the kinds raised, its answer, its notices (R168 to R171). -/
theorem request_after {l : Link} {k : Kind} {body : List Byte} {take : State → Taken} {s s' : State} {tag : Half} {a : Answer}
    (raised : List (Link × Notice))
    (h : Ready l s) (hb : body.length ≤ Config.maxBody) (hw : ∀ n, patronNamed k body = some n → NoPassFor n s)
    (hr : roleOk l k = true) (ht : bodyOf l k body = some take)
    (he : take (admitted l tag k.code s) = ⟨raiseAll raised { s' with ports := (admitted l tag k.code s).ports }, a⟩) :
    request l ⟨k.code, tag, body⟩ s = s.after l tag k a raised s' := by
  rw [request_ready h _ hb (mustWait_false hw), deliver_taken hr ht, he, sendFrame_raiseAll, endEvent_eq, ended_setRx, State.after]
  congr 1
  simp [sendFrame, State.onPort, admitted, State.answered, Port.answered, State.port]

/-- An event after which no condition has come to hold. -/
theorem dueNotices_quiet {s0 s : State} (h : SameConditions s0 s) : dueNotices s0 s = [] := by
  have hl : ∀ c, (!lowHolds s0 c && lowHolds s c) = false := by
    intro c
    simp [lowHolds, freeBlanks, h.blank, h.reserved, h.warn]
  have hc : ∀ c, (!criticalHolds s0 c && criticalHolds s c) = false := by
    intro c
    simp [criticalHolds, freeBlanks, h.blank, h.reserved, h.critical]
  simp [dueNotices, dueIf, hl, hc, workWaitingDue, pullWaitingDue, parcelWaitingDue, hasQueuedTask, hasReadyParcel, parcelState,
    h.jobQueue, h.unwiped, h.tasks, h.parcels, h.dispatchQueue]

/-- An event that raises no kind ends as it stands. -/
theorem ended_quiet {s s' : State} (h : dueNotices s s' = [])
    (hn : ∀ l, ∀ n ∈ (s'.port l).notices, n ∈ (s.port l).notices) : s.ended [] s' = s' := by
  rw [State.ended, h]
  exact noticeFrames_quiet hn

/-- A request that raises no kind leaves its answer at the port and nothing else there. -/
theorem after_quiet {s s' : State} (l : Link) (tag : Half) (k : Kind) (a : Answer) (h : dueNotices s s' = []) :
    s.after l tag k a [] s' = s.reply l tag k a s' :=
  ended_quiet h fun m n hn => Ready.answered_ports tag k.code a m n hn

/-- A request whose block changes its own port only, making no kind pending: that port, with the answer in its send list. -/
theorem request_onPort {l : Link} {k : Kind} {body : List Byte} {take : State → Taken} {s : State} {tag : Half} {a : Answer}
    (f : Port → Port) (h : Ready l s) (hb : body.length ≤ Config.maxBody) (hw : ∀ n, patronNamed k body = some n → NoPassFor n s)
    (hr : roleOk l k = true)
    (ht : bodyOf l k body = some take)
    (he : take (admitted l tag k.code s) = ⟨(admitted l tag k.code s).onPort l f, a⟩)
    (hn : ∀ n ∈ (f { s.port l with rx := .waitIdle true, inProgress := some ⟨tag, k.code⟩ }).notices,
      n ∈ (s.port l).notices) :
    request l ⟨k.code, tag, body⟩ s =
      s.withPort l
        { f { s.port l with rx := .waitIdle true, inProgress := some ⟨tag, k.code⟩ } with
          sendList := (f { s.port l with rx := .waitIdle true, inProgress := some ⟨tag, k.code⟩ }).sendList
            ++ [.answer tag k.code a] } := by
  rw [request_ready h _ hb (mustWait_false hw), deliver_taken hr ht, he]
  have hs : sendFrame l (.answer tag k.code a) ((admitted l tag k.code s).onPort l f) = s.withPort l
      { f { s.port l with rx := .waitIdle true, inProgress := some ⟨tag, k.code⟩ } with
        sendList := (f { s.port l with rx := .waitIdle true, inProgress := some ⟨tag, k.code⟩ }).sendList
          ++ [.answer tag k.code a] } := by
    simp [sendFrame, State.onPort, admitted, State.withPort]
  simp only
  rw [hs]
  apply endEvent_quiet
  · exact ⟨rfl, rfl, rfl, rfl, rfl, rfl, rfl, rfl, rfl⟩
  · intro m n hm
    by_cases hml : m = l
    · subst hml
      simp only [State.withPort, State.port, PerLink.get_set_same] at hm
      simpa [setRx, State.onPort, State.port] using hn n hm
    · simpa [setRx, State.onPort, State.port, State.withPort, hml] using hm

/-- The ports after an event's notices differ by notices only. -/
theorem ended_noticed (s : State) (raised : List (Link × Notice)) (s' : State) : OnlyNotices s' (s.ended raised s') := by
  have hr : ∀ ns (u : State), OnlyNotices u (raiseAll ns u) := by
    intro ns
    induction ns with
    | nil => exact fun u => .refl u
    | cons e ns ih => exact fun u => (raise_frame e.1 e.2 u).trans (ih _)
  exact (hr _ _).trans (noticeFrames_frame _ _)

/-- A request was answered: its answer, then notices only. -/
theorem after_answered (s : State) (l : Link) (tag : Half) (k : Kind) (a : Answer) (raised : List (Link × Notice))
    (s' : State) : Answered s (s.after l tag k a raised s') l tag k.code a :=
  (ended_noticed s raised { s' with ports := s.answered l tag k.code a }).noticed

/-- What a request leaves is its block's state but for the ports. -/
theorem after_eq (s : State) (l : Link) (tag : Half) (k : Kind) (a : Answer) (raised : List (Link × Notice)) (s' : State) :
    s.after l tag k a raised s' = { s' with ports := (s.after l tag k a raised s').ports } :=
  (ended_noticed s raised { s' with ports := s.answered l tag k.code a }).same

end Sys2Proof.Machine
end

