-- ==== Sys2Proof/Laws/State.lean ====
section
/-! SUPPORT. One lemma per field of the state for each record write, so that no proof unfolds a record update. -/

namespace Sys2Proof.Machine

variable (s : State)

/-! ### `State.putPatron` -/

@[simp] theorem State.putPatron_restartAsserted (n : Nat) (p : Patron) : (s.putPatron n p).restartAsserted = s.restartAsserted := rfl
@[simp] theorem State.putPatron_virgin (n : Nat) (p : Patron) : (s.putPatron n p).virgin = s.virgin := rfl
@[simp] theorem State.putPatron_patrons (n : Nat) (p : Patron) : (s.putPatron n p).patrons = s.patrons.put n p := rfl
@[simp] theorem State.putPatron_titles (n : Nat) (p : Patron) : (s.putPatron n p).titles = s.titles := rfl
@[simp] theorem State.putPatron_copySets (n : Nat) (p : Patron) : (s.putPatron n p).copySets = s.copySets := rfl
@[simp] theorem State.putPatron_carts (n : Nat) (p : Patron) : (s.putPatron n p).carts = s.carts := rfl
@[simp] theorem State.putPatron_jobs (n : Nat) (p : Patron) : (s.putPatron n p).jobs = s.jobs := rfl
@[simp] theorem State.putPatron_orders (n : Nat) (p : Patron) : (s.putPatron n p).orders = s.orders := rfl
@[simp] theorem State.putPatron_tasks (n : Nat) (p : Patron) : (s.putPatron n p).tasks = s.tasks := rfl
@[simp] theorem State.putPatron_parcels (n : Nat) (p : Patron) : (s.putPatron n p).parcels = s.parcels := rfl
@[simp] theorem State.putPatron_groups (n : Nat) (p : Patron) : (s.putPatron n p).groups = s.groups := rfl
@[simp] theorem State.putPatron_loans (n : Nat) (p : Patron) : (s.putPatron n p).loans = s.loans := rfl
@[simp] theorem State.putPatron_counters (n : Nat) (p : Patron) : (s.putPatron n p).counters = s.counters := rfl
@[simp] theorem State.putPatron_heldTotal (n : Nat) (p : Patron) : (s.putPatron n p).heldTotal = s.heldTotal := rfl
@[simp] theorem State.putPatron_blank (n : Nat) (p : Patron) : (s.putPatron n p).blank = s.blank := rfl
@[simp] theorem State.putPatron_unwiped (n : Nat) (p : Patron) : (s.putPatron n p).unwiped = s.unwiped := rfl
@[simp] theorem State.putPatron_reserved (n : Nat) (p : Patron) : (s.putPatron n p).reserved = s.reserved := rfl
@[simp] theorem State.putPatron_starved (n : Nat) (p : Patron) : (s.putPatron n p).starved = s.starved := rfl
@[simp] theorem State.putPatron_jobQueue (n : Nat) (p : Patron) : (s.putPatron n p).jobQueue = s.jobQueue := rfl
@[simp] theorem State.putPatron_pullQueue (n : Nat) (p : Patron) : (s.putPatron n p).pullQueue = s.pullQueue := rfl
@[simp] theorem State.putPatron_dispatchQueue (n : Nat) (p : Patron) : (s.putPatron n p).dispatchQueue = s.dispatchQueue := rfl
@[simp] theorem State.putPatron_settings (n : Nat) (p : Patron) : (s.putPatron n p).settings = s.settings := rfl
@[simp] theorem State.putPatron_day (n : Nat) (p : Patron) : (s.putPatron n p).day = s.day := rfl
@[simp] theorem State.putPatron_dayOpen (n : Nat) (p : Patron) : (s.putPatron n p).dayOpen = s.dayOpen := rfl
@[simp] theorem State.putPatron_tally (n : Nat) (p : Patron) : (s.putPatron n p).tally = s.tally := rfl
@[simp] theorem State.putPatron_bays (n : Nat) (p : Patron) : (s.putPatron n p).bays = s.bays := rfl
@[simp] theorem State.putPatron_standing (n : Nat) (p : Patron) : (s.putPatron n p).standing = s.standing := rfl
@[simp] theorem State.putPatron_passQueue (n : Nat) (p : Patron) : (s.putPatron n p).passQueue = s.passQueue := rfl
@[simp] theorem State.putPatron_pendingOffers (n : Nat) (p : Patron) : (s.putPatron n p).pendingOffers = s.pendingOffers := rfl
@[simp] theorem State.putPatron_offer (n : Nat) (p : Patron) : (s.putPatron n p).offer = s.offer := rfl
@[simp] theorem State.putPatron_running (n : Nat) (p : Patron) : (s.putPatron n p).running = s.running := rfl
@[simp] theorem State.putPatron_blocked (n : Nat) (p : Patron) : (s.putPatron n p).blocked = s.blocked := rfl
@[simp] theorem State.putPatron_stays (n : Nat) (p : Patron) : (s.putPatron n p).stays = s.stays := rfl
@[simp] theorem State.putPatron_marks (n : Nat) (p : Patron) : (s.putPatron n p).marks = s.marks := rfl
@[simp] theorem State.putPatron_todayCount (n : Nat) (p : Patron) : (s.putPatron n p).todayCount = s.todayCount := rfl
@[simp] theorem State.putPatron_reservedCap (n : Nat) (p : Patron) : (s.putPatron n p).reservedCap = s.reservedCap := rfl
@[simp] theorem State.putPatron_ports (n : Nat) (p : Patron) : (s.putPatron n p).ports = s.ports := rfl
@[simp] theorem State.putPatron_pending (n : Nat) (p : Patron) : (s.putPatron n p).pending = s.pending := rfl

/-! ### `State.putJob` -/

@[simp] theorem State.putJob_restartAsserted (n : Nat) (j : Job) : (s.putJob n j).restartAsserted = s.restartAsserted := rfl
@[simp] theorem State.putJob_virgin (n : Nat) (j : Job) : (s.putJob n j).virgin = s.virgin := rfl
@[simp] theorem State.putJob_patrons (n : Nat) (j : Job) : (s.putJob n j).patrons = s.patrons := rfl
@[simp] theorem State.putJob_titles (n : Nat) (j : Job) : (s.putJob n j).titles = s.titles := rfl
@[simp] theorem State.putJob_copySets (n : Nat) (j : Job) : (s.putJob n j).copySets = s.copySets := rfl
@[simp] theorem State.putJob_carts (n : Nat) (j : Job) : (s.putJob n j).carts = s.carts := rfl
@[simp] theorem State.putJob_jobs (n : Nat) (j : Job) : (s.putJob n j).jobs = s.jobs.put n j := rfl
@[simp] theorem State.putJob_orders (n : Nat) (j : Job) : (s.putJob n j).orders = s.orders := rfl
@[simp] theorem State.putJob_tasks (n : Nat) (j : Job) : (s.putJob n j).tasks = s.tasks := rfl
@[simp] theorem State.putJob_parcels (n : Nat) (j : Job) : (s.putJob n j).parcels = s.parcels := rfl
@[simp] theorem State.putJob_groups (n : Nat) (j : Job) : (s.putJob n j).groups = s.groups := rfl
@[simp] theorem State.putJob_loans (n : Nat) (j : Job) : (s.putJob n j).loans = s.loans := rfl
@[simp] theorem State.putJob_counters (n : Nat) (j : Job) : (s.putJob n j).counters = s.counters := rfl
@[simp] theorem State.putJob_heldTotal (n : Nat) (j : Job) : (s.putJob n j).heldTotal = s.heldTotal := rfl
@[simp] theorem State.putJob_blank (n : Nat) (j : Job) : (s.putJob n j).blank = s.blank := rfl
@[simp] theorem State.putJob_unwiped (n : Nat) (j : Job) : (s.putJob n j).unwiped = s.unwiped := rfl
@[simp] theorem State.putJob_reserved (n : Nat) (j : Job) : (s.putJob n j).reserved = s.reserved := rfl
@[simp] theorem State.putJob_starved (n : Nat) (j : Job) : (s.putJob n j).starved = s.starved := rfl
@[simp] theorem State.putJob_jobQueue (n : Nat) (j : Job) : (s.putJob n j).jobQueue = s.jobQueue := rfl
@[simp] theorem State.putJob_pullQueue (n : Nat) (j : Job) : (s.putJob n j).pullQueue = s.pullQueue := rfl
@[simp] theorem State.putJob_dispatchQueue (n : Nat) (j : Job) : (s.putJob n j).dispatchQueue = s.dispatchQueue := rfl
@[simp] theorem State.putJob_settings (n : Nat) (j : Job) : (s.putJob n j).settings = s.settings := rfl
@[simp] theorem State.putJob_day (n : Nat) (j : Job) : (s.putJob n j).day = s.day := rfl
@[simp] theorem State.putJob_dayOpen (n : Nat) (j : Job) : (s.putJob n j).dayOpen = s.dayOpen := rfl
@[simp] theorem State.putJob_tally (n : Nat) (j : Job) : (s.putJob n j).tally = s.tally := rfl
@[simp] theorem State.putJob_bays (n : Nat) (j : Job) : (s.putJob n j).bays = s.bays := rfl
@[simp] theorem State.putJob_standing (n : Nat) (j : Job) : (s.putJob n j).standing = s.standing := rfl
@[simp] theorem State.putJob_passQueue (n : Nat) (j : Job) : (s.putJob n j).passQueue = s.passQueue := rfl
@[simp] theorem State.putJob_pendingOffers (n : Nat) (j : Job) : (s.putJob n j).pendingOffers = s.pendingOffers := rfl
@[simp] theorem State.putJob_offer (n : Nat) (j : Job) : (s.putJob n j).offer = s.offer := rfl
@[simp] theorem State.putJob_running (n : Nat) (j : Job) : (s.putJob n j).running = s.running := rfl
@[simp] theorem State.putJob_blocked (n : Nat) (j : Job) : (s.putJob n j).blocked = s.blocked := rfl
@[simp] theorem State.putJob_stays (n : Nat) (j : Job) : (s.putJob n j).stays = s.stays := rfl
@[simp] theorem State.putJob_marks (n : Nat) (j : Job) : (s.putJob n j).marks = s.marks := rfl
@[simp] theorem State.putJob_todayCount (n : Nat) (j : Job) : (s.putJob n j).todayCount = s.todayCount := rfl
@[simp] theorem State.putJob_reservedCap (n : Nat) (j : Job) : (s.putJob n j).reservedCap = s.reservedCap := rfl
@[simp] theorem State.putJob_ports (n : Nat) (j : Job) : (s.putJob n j).ports = s.ports := rfl
@[simp] theorem State.putJob_pending (n : Nat) (j : Job) : (s.putJob n j).pending = s.pending := rfl

/-! ### `State.putCart` -/

@[simp] theorem State.putCart_restartAsserted (n : Nat) (c : Cart) : (s.putCart n c).restartAsserted = s.restartAsserted := rfl
@[simp] theorem State.putCart_virgin (n : Nat) (c : Cart) : (s.putCart n c).virgin = s.virgin := rfl
@[simp] theorem State.putCart_patrons (n : Nat) (c : Cart) : (s.putCart n c).patrons = s.patrons := rfl
@[simp] theorem State.putCart_titles (n : Nat) (c : Cart) : (s.putCart n c).titles = s.titles := rfl
@[simp] theorem State.putCart_copySets (n : Nat) (c : Cart) : (s.putCart n c).copySets = s.copySets := rfl
@[simp] theorem State.putCart_carts (n : Nat) (c : Cart) : (s.putCart n c).carts = s.carts.put n c := rfl
@[simp] theorem State.putCart_jobs (n : Nat) (c : Cart) : (s.putCart n c).jobs = s.jobs := rfl
@[simp] theorem State.putCart_orders (n : Nat) (c : Cart) : (s.putCart n c).orders = s.orders := rfl
@[simp] theorem State.putCart_tasks (n : Nat) (c : Cart) : (s.putCart n c).tasks = s.tasks := rfl
@[simp] theorem State.putCart_parcels (n : Nat) (c : Cart) : (s.putCart n c).parcels = s.parcels := rfl
@[simp] theorem State.putCart_groups (n : Nat) (c : Cart) : (s.putCart n c).groups = s.groups := rfl
@[simp] theorem State.putCart_loans (n : Nat) (c : Cart) : (s.putCart n c).loans = s.loans := rfl
@[simp] theorem State.putCart_counters (n : Nat) (c : Cart) : (s.putCart n c).counters = s.counters := rfl
@[simp] theorem State.putCart_heldTotal (n : Nat) (c : Cart) : (s.putCart n c).heldTotal = s.heldTotal := rfl
@[simp] theorem State.putCart_blank (n : Nat) (c : Cart) : (s.putCart n c).blank = s.blank := rfl
@[simp] theorem State.putCart_unwiped (n : Nat) (c : Cart) : (s.putCart n c).unwiped = s.unwiped := rfl
@[simp] theorem State.putCart_reserved (n : Nat) (c : Cart) : (s.putCart n c).reserved = s.reserved := rfl
@[simp] theorem State.putCart_starved (n : Nat) (c : Cart) : (s.putCart n c).starved = s.starved := rfl
@[simp] theorem State.putCart_jobQueue (n : Nat) (c : Cart) : (s.putCart n c).jobQueue = s.jobQueue := rfl
@[simp] theorem State.putCart_pullQueue (n : Nat) (c : Cart) : (s.putCart n c).pullQueue = s.pullQueue := rfl
@[simp] theorem State.putCart_dispatchQueue (n : Nat) (c : Cart) : (s.putCart n c).dispatchQueue = s.dispatchQueue := rfl
@[simp] theorem State.putCart_settings (n : Nat) (c : Cart) : (s.putCart n c).settings = s.settings := rfl
@[simp] theorem State.putCart_day (n : Nat) (c : Cart) : (s.putCart n c).day = s.day := rfl
@[simp] theorem State.putCart_dayOpen (n : Nat) (c : Cart) : (s.putCart n c).dayOpen = s.dayOpen := rfl
@[simp] theorem State.putCart_tally (n : Nat) (c : Cart) : (s.putCart n c).tally = s.tally := rfl
@[simp] theorem State.putCart_bays (n : Nat) (c : Cart) : (s.putCart n c).bays = s.bays := rfl
@[simp] theorem State.putCart_standing (n : Nat) (c : Cart) : (s.putCart n c).standing = s.standing := rfl
@[simp] theorem State.putCart_passQueue (n : Nat) (c : Cart) : (s.putCart n c).passQueue = s.passQueue := rfl
@[simp] theorem State.putCart_pendingOffers (n : Nat) (c : Cart) : (s.putCart n c).pendingOffers = s.pendingOffers := rfl
@[simp] theorem State.putCart_offer (n : Nat) (c : Cart) : (s.putCart n c).offer = s.offer := rfl
@[simp] theorem State.putCart_running (n : Nat) (c : Cart) : (s.putCart n c).running = s.running := rfl
@[simp] theorem State.putCart_blocked (n : Nat) (c : Cart) : (s.putCart n c).blocked = s.blocked := rfl
@[simp] theorem State.putCart_stays (n : Nat) (c : Cart) : (s.putCart n c).stays = s.stays := rfl
@[simp] theorem State.putCart_marks (n : Nat) (c : Cart) : (s.putCart n c).marks = s.marks := rfl
@[simp] theorem State.putCart_todayCount (n : Nat) (c : Cart) : (s.putCart n c).todayCount = s.todayCount := rfl
@[simp] theorem State.putCart_reservedCap (n : Nat) (c : Cart) : (s.putCart n c).reservedCap = s.reservedCap := rfl
@[simp] theorem State.putCart_ports (n : Nat) (c : Cart) : (s.putCart n c).ports = s.ports := rfl
@[simp] theorem State.putCart_pending (n : Nat) (c : Cart) : (s.putCart n c).pending = s.pending := rfl

/-! ### `State.putSet` -/

@[simp] theorem State.putSet_restartAsserted (n : Nat) (c : CopySet) : (s.putSet n c).restartAsserted = s.restartAsserted := rfl
@[simp] theorem State.putSet_virgin (n : Nat) (c : CopySet) : (s.putSet n c).virgin = s.virgin := rfl
@[simp] theorem State.putSet_patrons (n : Nat) (c : CopySet) : (s.putSet n c).patrons = s.patrons := rfl
@[simp] theorem State.putSet_titles (n : Nat) (c : CopySet) : (s.putSet n c).titles = s.titles := rfl
@[simp] theorem State.putSet_copySets (n : Nat) (c : CopySet) : (s.putSet n c).copySets = s.copySets.put n c := rfl
@[simp] theorem State.putSet_carts (n : Nat) (c : CopySet) : (s.putSet n c).carts = s.carts := rfl
@[simp] theorem State.putSet_jobs (n : Nat) (c : CopySet) : (s.putSet n c).jobs = s.jobs := rfl
@[simp] theorem State.putSet_orders (n : Nat) (c : CopySet) : (s.putSet n c).orders = s.orders := rfl
@[simp] theorem State.putSet_tasks (n : Nat) (c : CopySet) : (s.putSet n c).tasks = s.tasks := rfl
@[simp] theorem State.putSet_parcels (n : Nat) (c : CopySet) : (s.putSet n c).parcels = s.parcels := rfl
@[simp] theorem State.putSet_groups (n : Nat) (c : CopySet) : (s.putSet n c).groups = s.groups := rfl
@[simp] theorem State.putSet_loans (n : Nat) (c : CopySet) : (s.putSet n c).loans = s.loans := rfl
@[simp] theorem State.putSet_counters (n : Nat) (c : CopySet) : (s.putSet n c).counters = s.counters := rfl
@[simp] theorem State.putSet_heldTotal (n : Nat) (c : CopySet) : (s.putSet n c).heldTotal = s.heldTotal := rfl
@[simp] theorem State.putSet_blank (n : Nat) (c : CopySet) : (s.putSet n c).blank = s.blank := rfl
@[simp] theorem State.putSet_unwiped (n : Nat) (c : CopySet) : (s.putSet n c).unwiped = s.unwiped := rfl
@[simp] theorem State.putSet_reserved (n : Nat) (c : CopySet) : (s.putSet n c).reserved = s.reserved := rfl
@[simp] theorem State.putSet_starved (n : Nat) (c : CopySet) : (s.putSet n c).starved = s.starved := rfl
@[simp] theorem State.putSet_jobQueue (n : Nat) (c : CopySet) : (s.putSet n c).jobQueue = s.jobQueue := rfl
@[simp] theorem State.putSet_pullQueue (n : Nat) (c : CopySet) : (s.putSet n c).pullQueue = s.pullQueue := rfl
@[simp] theorem State.putSet_dispatchQueue (n : Nat) (c : CopySet) : (s.putSet n c).dispatchQueue = s.dispatchQueue := rfl
@[simp] theorem State.putSet_settings (n : Nat) (c : CopySet) : (s.putSet n c).settings = s.settings := rfl
@[simp] theorem State.putSet_day (n : Nat) (c : CopySet) : (s.putSet n c).day = s.day := rfl
@[simp] theorem State.putSet_dayOpen (n : Nat) (c : CopySet) : (s.putSet n c).dayOpen = s.dayOpen := rfl
@[simp] theorem State.putSet_tally (n : Nat) (c : CopySet) : (s.putSet n c).tally = s.tally := rfl
@[simp] theorem State.putSet_bays (n : Nat) (c : CopySet) : (s.putSet n c).bays = s.bays := rfl
@[simp] theorem State.putSet_standing (n : Nat) (c : CopySet) : (s.putSet n c).standing = s.standing := rfl
@[simp] theorem State.putSet_passQueue (n : Nat) (c : CopySet) : (s.putSet n c).passQueue = s.passQueue := rfl
@[simp] theorem State.putSet_pendingOffers (n : Nat) (c : CopySet) : (s.putSet n c).pendingOffers = s.pendingOffers := rfl
@[simp] theorem State.putSet_offer (n : Nat) (c : CopySet) : (s.putSet n c).offer = s.offer := rfl
@[simp] theorem State.putSet_running (n : Nat) (c : CopySet) : (s.putSet n c).running = s.running := rfl
@[simp] theorem State.putSet_blocked (n : Nat) (c : CopySet) : (s.putSet n c).blocked = s.blocked := rfl
@[simp] theorem State.putSet_stays (n : Nat) (c : CopySet) : (s.putSet n c).stays = s.stays := rfl
@[simp] theorem State.putSet_marks (n : Nat) (c : CopySet) : (s.putSet n c).marks = s.marks := rfl
@[simp] theorem State.putSet_todayCount (n : Nat) (c : CopySet) : (s.putSet n c).todayCount = s.todayCount := rfl
@[simp] theorem State.putSet_reservedCap (n : Nat) (c : CopySet) : (s.putSet n c).reservedCap = s.reservedCap := rfl
@[simp] theorem State.putSet_ports (n : Nat) (c : CopySet) : (s.putSet n c).ports = s.ports := rfl
@[simp] theorem State.putSet_pending (n : Nat) (c : CopySet) : (s.putSet n c).pending = s.pending := rfl

/-! ### `State.putParcel` -/

@[simp] theorem State.putParcel_restartAsserted (n : Nat) (p : Parcel) : (s.putParcel n p).restartAsserted = s.restartAsserted := rfl
@[simp] theorem State.putParcel_virgin (n : Nat) (p : Parcel) : (s.putParcel n p).virgin = s.virgin := rfl
@[simp] theorem State.putParcel_patrons (n : Nat) (p : Parcel) : (s.putParcel n p).patrons = s.patrons := rfl
@[simp] theorem State.putParcel_titles (n : Nat) (p : Parcel) : (s.putParcel n p).titles = s.titles := rfl
@[simp] theorem State.putParcel_copySets (n : Nat) (p : Parcel) : (s.putParcel n p).copySets = s.copySets := rfl
@[simp] theorem State.putParcel_carts (n : Nat) (p : Parcel) : (s.putParcel n p).carts = s.carts := rfl
@[simp] theorem State.putParcel_jobs (n : Nat) (p : Parcel) : (s.putParcel n p).jobs = s.jobs := rfl
@[simp] theorem State.putParcel_orders (n : Nat) (p : Parcel) : (s.putParcel n p).orders = s.orders := rfl
@[simp] theorem State.putParcel_tasks (n : Nat) (p : Parcel) : (s.putParcel n p).tasks = s.tasks := rfl
@[simp] theorem State.putParcel_parcels (n : Nat) (p : Parcel) : (s.putParcel n p).parcels = s.parcels.put n p := rfl
@[simp] theorem State.putParcel_groups (n : Nat) (p : Parcel) : (s.putParcel n p).groups = s.groups := rfl
@[simp] theorem State.putParcel_loans (n : Nat) (p : Parcel) : (s.putParcel n p).loans = s.loans := rfl
@[simp] theorem State.putParcel_counters (n : Nat) (p : Parcel) : (s.putParcel n p).counters = s.counters := rfl
@[simp] theorem State.putParcel_heldTotal (n : Nat) (p : Parcel) : (s.putParcel n p).heldTotal = s.heldTotal := rfl
@[simp] theorem State.putParcel_blank (n : Nat) (p : Parcel) : (s.putParcel n p).blank = s.blank := rfl
@[simp] theorem State.putParcel_unwiped (n : Nat) (p : Parcel) : (s.putParcel n p).unwiped = s.unwiped := rfl
@[simp] theorem State.putParcel_reserved (n : Nat) (p : Parcel) : (s.putParcel n p).reserved = s.reserved := rfl
@[simp] theorem State.putParcel_starved (n : Nat) (p : Parcel) : (s.putParcel n p).starved = s.starved := rfl
@[simp] theorem State.putParcel_jobQueue (n : Nat) (p : Parcel) : (s.putParcel n p).jobQueue = s.jobQueue := rfl
@[simp] theorem State.putParcel_pullQueue (n : Nat) (p : Parcel) : (s.putParcel n p).pullQueue = s.pullQueue := rfl
@[simp] theorem State.putParcel_dispatchQueue (n : Nat) (p : Parcel) : (s.putParcel n p).dispatchQueue = s.dispatchQueue := rfl
@[simp] theorem State.putParcel_settings (n : Nat) (p : Parcel) : (s.putParcel n p).settings = s.settings := rfl
@[simp] theorem State.putParcel_day (n : Nat) (p : Parcel) : (s.putParcel n p).day = s.day := rfl
@[simp] theorem State.putParcel_dayOpen (n : Nat) (p : Parcel) : (s.putParcel n p).dayOpen = s.dayOpen := rfl
@[simp] theorem State.putParcel_tally (n : Nat) (p : Parcel) : (s.putParcel n p).tally = s.tally := rfl
@[simp] theorem State.putParcel_bays (n : Nat) (p : Parcel) : (s.putParcel n p).bays = s.bays := rfl
@[simp] theorem State.putParcel_standing (n : Nat) (p : Parcel) : (s.putParcel n p).standing = s.standing := rfl
@[simp] theorem State.putParcel_passQueue (n : Nat) (p : Parcel) : (s.putParcel n p).passQueue = s.passQueue := rfl
@[simp] theorem State.putParcel_pendingOffers (n : Nat) (p : Parcel) : (s.putParcel n p).pendingOffers = s.pendingOffers := rfl
@[simp] theorem State.putParcel_offer (n : Nat) (p : Parcel) : (s.putParcel n p).offer = s.offer := rfl
@[simp] theorem State.putParcel_running (n : Nat) (p : Parcel) : (s.putParcel n p).running = s.running := rfl
@[simp] theorem State.putParcel_blocked (n : Nat) (p : Parcel) : (s.putParcel n p).blocked = s.blocked := rfl
@[simp] theorem State.putParcel_stays (n : Nat) (p : Parcel) : (s.putParcel n p).stays = s.stays := rfl
@[simp] theorem State.putParcel_marks (n : Nat) (p : Parcel) : (s.putParcel n p).marks = s.marks := rfl
@[simp] theorem State.putParcel_todayCount (n : Nat) (p : Parcel) : (s.putParcel n p).todayCount = s.todayCount := rfl
@[simp] theorem State.putParcel_reservedCap (n : Nat) (p : Parcel) : (s.putParcel n p).reservedCap = s.reservedCap := rfl
@[simp] theorem State.putParcel_ports (n : Nat) (p : Parcel) : (s.putParcel n p).ports = s.ports := rfl
@[simp] theorem State.putParcel_pending (n : Nat) (p : Parcel) : (s.putParcel n p).pending = s.pending := rfl

/-! ### `State.putGroup` -/

@[simp] theorem State.putGroup_restartAsserted (n : Nat) (g : DispatchGroup) : (s.putGroup n g).restartAsserted = s.restartAsserted := rfl
@[simp] theorem State.putGroup_virgin (n : Nat) (g : DispatchGroup) : (s.putGroup n g).virgin = s.virgin := rfl
@[simp] theorem State.putGroup_patrons (n : Nat) (g : DispatchGroup) : (s.putGroup n g).patrons = s.patrons := rfl
@[simp] theorem State.putGroup_titles (n : Nat) (g : DispatchGroup) : (s.putGroup n g).titles = s.titles := rfl
@[simp] theorem State.putGroup_copySets (n : Nat) (g : DispatchGroup) : (s.putGroup n g).copySets = s.copySets := rfl
@[simp] theorem State.putGroup_carts (n : Nat) (g : DispatchGroup) : (s.putGroup n g).carts = s.carts := rfl
@[simp] theorem State.putGroup_jobs (n : Nat) (g : DispatchGroup) : (s.putGroup n g).jobs = s.jobs := rfl
@[simp] theorem State.putGroup_orders (n : Nat) (g : DispatchGroup) : (s.putGroup n g).orders = s.orders := rfl
@[simp] theorem State.putGroup_tasks (n : Nat) (g : DispatchGroup) : (s.putGroup n g).tasks = s.tasks := rfl
@[simp] theorem State.putGroup_parcels (n : Nat) (g : DispatchGroup) : (s.putGroup n g).parcels = s.parcels := rfl
@[simp] theorem State.putGroup_groups (n : Nat) (g : DispatchGroup) : (s.putGroup n g).groups = s.groups.put n g := rfl
@[simp] theorem State.putGroup_loans (n : Nat) (g : DispatchGroup) : (s.putGroup n g).loans = s.loans := rfl
@[simp] theorem State.putGroup_counters (n : Nat) (g : DispatchGroup) : (s.putGroup n g).counters = s.counters := rfl
@[simp] theorem State.putGroup_heldTotal (n : Nat) (g : DispatchGroup) : (s.putGroup n g).heldTotal = s.heldTotal := rfl
@[simp] theorem State.putGroup_blank (n : Nat) (g : DispatchGroup) : (s.putGroup n g).blank = s.blank := rfl
@[simp] theorem State.putGroup_unwiped (n : Nat) (g : DispatchGroup) : (s.putGroup n g).unwiped = s.unwiped := rfl
@[simp] theorem State.putGroup_reserved (n : Nat) (g : DispatchGroup) : (s.putGroup n g).reserved = s.reserved := rfl
@[simp] theorem State.putGroup_starved (n : Nat) (g : DispatchGroup) : (s.putGroup n g).starved = s.starved := rfl
@[simp] theorem State.putGroup_jobQueue (n : Nat) (g : DispatchGroup) : (s.putGroup n g).jobQueue = s.jobQueue := rfl
@[simp] theorem State.putGroup_pullQueue (n : Nat) (g : DispatchGroup) : (s.putGroup n g).pullQueue = s.pullQueue := rfl
@[simp] theorem State.putGroup_dispatchQueue (n : Nat) (g : DispatchGroup) : (s.putGroup n g).dispatchQueue = s.dispatchQueue := rfl
@[simp] theorem State.putGroup_settings (n : Nat) (g : DispatchGroup) : (s.putGroup n g).settings = s.settings := rfl
@[simp] theorem State.putGroup_day (n : Nat) (g : DispatchGroup) : (s.putGroup n g).day = s.day := rfl
@[simp] theorem State.putGroup_dayOpen (n : Nat) (g : DispatchGroup) : (s.putGroup n g).dayOpen = s.dayOpen := rfl
@[simp] theorem State.putGroup_tally (n : Nat) (g : DispatchGroup) : (s.putGroup n g).tally = s.tally := rfl
@[simp] theorem State.putGroup_bays (n : Nat) (g : DispatchGroup) : (s.putGroup n g).bays = s.bays := rfl
@[simp] theorem State.putGroup_standing (n : Nat) (g : DispatchGroup) : (s.putGroup n g).standing = s.standing := rfl
@[simp] theorem State.putGroup_passQueue (n : Nat) (g : DispatchGroup) : (s.putGroup n g).passQueue = s.passQueue := rfl
@[simp] theorem State.putGroup_pendingOffers (n : Nat) (g : DispatchGroup) : (s.putGroup n g).pendingOffers = s.pendingOffers := rfl
@[simp] theorem State.putGroup_offer (n : Nat) (g : DispatchGroup) : (s.putGroup n g).offer = s.offer := rfl
@[simp] theorem State.putGroup_running (n : Nat) (g : DispatchGroup) : (s.putGroup n g).running = s.running := rfl
@[simp] theorem State.putGroup_blocked (n : Nat) (g : DispatchGroup) : (s.putGroup n g).blocked = s.blocked := rfl
@[simp] theorem State.putGroup_stays (n : Nat) (g : DispatchGroup) : (s.putGroup n g).stays = s.stays := rfl
@[simp] theorem State.putGroup_marks (n : Nat) (g : DispatchGroup) : (s.putGroup n g).marks = s.marks := rfl
@[simp] theorem State.putGroup_todayCount (n : Nat) (g : DispatchGroup) : (s.putGroup n g).todayCount = s.todayCount := rfl
@[simp] theorem State.putGroup_reservedCap (n : Nat) (g : DispatchGroup) : (s.putGroup n g).reservedCap = s.reservedCap := rfl
@[simp] theorem State.putGroup_ports (n : Nat) (g : DispatchGroup) : (s.putGroup n g).ports = s.ports := rfl
@[simp] theorem State.putGroup_pending (n : Nat) (g : DispatchGroup) : (s.putGroup n g).pending = s.pending := rfl

/-! ### `State.putBay` -/

@[simp] theorem State.putBay_restartAsserted (n : Nat) (b : Bay) : (s.putBay n b).restartAsserted = s.restartAsserted := rfl
@[simp] theorem State.putBay_virgin (n : Nat) (b : Bay) : (s.putBay n b).virgin = s.virgin := rfl
@[simp] theorem State.putBay_patrons (n : Nat) (b : Bay) : (s.putBay n b).patrons = s.patrons := rfl
@[simp] theorem State.putBay_titles (n : Nat) (b : Bay) : (s.putBay n b).titles = s.titles := rfl
@[simp] theorem State.putBay_copySets (n : Nat) (b : Bay) : (s.putBay n b).copySets = s.copySets := rfl
@[simp] theorem State.putBay_carts (n : Nat) (b : Bay) : (s.putBay n b).carts = s.carts := rfl
@[simp] theorem State.putBay_jobs (n : Nat) (b : Bay) : (s.putBay n b).jobs = s.jobs := rfl
@[simp] theorem State.putBay_orders (n : Nat) (b : Bay) : (s.putBay n b).orders = s.orders := rfl
@[simp] theorem State.putBay_tasks (n : Nat) (b : Bay) : (s.putBay n b).tasks = s.tasks := rfl
@[simp] theorem State.putBay_parcels (n : Nat) (b : Bay) : (s.putBay n b).parcels = s.parcels := rfl
@[simp] theorem State.putBay_groups (n : Nat) (b : Bay) : (s.putBay n b).groups = s.groups := rfl
@[simp] theorem State.putBay_loans (n : Nat) (b : Bay) : (s.putBay n b).loans = s.loans := rfl
@[simp] theorem State.putBay_counters (n : Nat) (b : Bay) : (s.putBay n b).counters = s.counters := rfl
@[simp] theorem State.putBay_heldTotal (n : Nat) (b : Bay) : (s.putBay n b).heldTotal = s.heldTotal := rfl
@[simp] theorem State.putBay_blank (n : Nat) (b : Bay) : (s.putBay n b).blank = s.blank := rfl
@[simp] theorem State.putBay_unwiped (n : Nat) (b : Bay) : (s.putBay n b).unwiped = s.unwiped := rfl
@[simp] theorem State.putBay_reserved (n : Nat) (b : Bay) : (s.putBay n b).reserved = s.reserved := rfl
@[simp] theorem State.putBay_starved (n : Nat) (b : Bay) : (s.putBay n b).starved = s.starved := rfl
@[simp] theorem State.putBay_jobQueue (n : Nat) (b : Bay) : (s.putBay n b).jobQueue = s.jobQueue := rfl
@[simp] theorem State.putBay_pullQueue (n : Nat) (b : Bay) : (s.putBay n b).pullQueue = s.pullQueue := rfl
@[simp] theorem State.putBay_dispatchQueue (n : Nat) (b : Bay) : (s.putBay n b).dispatchQueue = s.dispatchQueue := rfl
@[simp] theorem State.putBay_settings (n : Nat) (b : Bay) : (s.putBay n b).settings = s.settings := rfl
@[simp] theorem State.putBay_day (n : Nat) (b : Bay) : (s.putBay n b).day = s.day := rfl
@[simp] theorem State.putBay_dayOpen (n : Nat) (b : Bay) : (s.putBay n b).dayOpen = s.dayOpen := rfl
@[simp] theorem State.putBay_tally (n : Nat) (b : Bay) : (s.putBay n b).tally = s.tally := rfl
@[simp] theorem State.putBay_bays (n : Nat) (b : Bay) : (s.putBay n b).bays = s.bays.set n b := rfl
@[simp] theorem State.putBay_standing (n : Nat) (b : Bay) : (s.putBay n b).standing = s.standing := rfl
@[simp] theorem State.putBay_passQueue (n : Nat) (b : Bay) : (s.putBay n b).passQueue = s.passQueue := rfl
@[simp] theorem State.putBay_pendingOffers (n : Nat) (b : Bay) : (s.putBay n b).pendingOffers = s.pendingOffers := rfl
@[simp] theorem State.putBay_offer (n : Nat) (b : Bay) : (s.putBay n b).offer = s.offer := rfl
@[simp] theorem State.putBay_running (n : Nat) (b : Bay) : (s.putBay n b).running = s.running := rfl
@[simp] theorem State.putBay_blocked (n : Nat) (b : Bay) : (s.putBay n b).blocked = s.blocked := rfl
@[simp] theorem State.putBay_stays (n : Nat) (b : Bay) : (s.putBay n b).stays = s.stays := rfl
@[simp] theorem State.putBay_marks (n : Nat) (b : Bay) : (s.putBay n b).marks = s.marks := rfl
@[simp] theorem State.putBay_todayCount (n : Nat) (b : Bay) : (s.putBay n b).todayCount = s.todayCount := rfl
@[simp] theorem State.putBay_reservedCap (n : Nat) (b : Bay) : (s.putBay n b).reservedCap = s.reservedCap := rfl
@[simp] theorem State.putBay_ports (n : Nat) (b : Bay) : (s.putBay n b).ports = s.ports := rfl
@[simp] theorem State.putBay_pending (n : Nat) (b : Bay) : (s.putBay n b).pending = s.pending := rfl

/-! ### `State.onPort` -/

@[simp] theorem State.onPort_restartAsserted (l : Link) (f : Port → Port) : (s.onPort l f).restartAsserted = s.restartAsserted := rfl
@[simp] theorem State.onPort_virgin (l : Link) (f : Port → Port) : (s.onPort l f).virgin = s.virgin := rfl
@[simp] theorem State.onPort_patrons (l : Link) (f : Port → Port) : (s.onPort l f).patrons = s.patrons := rfl
@[simp] theorem State.onPort_titles (l : Link) (f : Port → Port) : (s.onPort l f).titles = s.titles := rfl
@[simp] theorem State.onPort_copySets (l : Link) (f : Port → Port) : (s.onPort l f).copySets = s.copySets := rfl
@[simp] theorem State.onPort_carts (l : Link) (f : Port → Port) : (s.onPort l f).carts = s.carts := rfl
@[simp] theorem State.onPort_jobs (l : Link) (f : Port → Port) : (s.onPort l f).jobs = s.jobs := rfl
@[simp] theorem State.onPort_orders (l : Link) (f : Port → Port) : (s.onPort l f).orders = s.orders := rfl
@[simp] theorem State.onPort_tasks (l : Link) (f : Port → Port) : (s.onPort l f).tasks = s.tasks := rfl
@[simp] theorem State.onPort_parcels (l : Link) (f : Port → Port) : (s.onPort l f).parcels = s.parcels := rfl
@[simp] theorem State.onPort_groups (l : Link) (f : Port → Port) : (s.onPort l f).groups = s.groups := rfl
@[simp] theorem State.onPort_loans (l : Link) (f : Port → Port) : (s.onPort l f).loans = s.loans := rfl
@[simp] theorem State.onPort_counters (l : Link) (f : Port → Port) : (s.onPort l f).counters = s.counters := rfl
@[simp] theorem State.onPort_heldTotal (l : Link) (f : Port → Port) : (s.onPort l f).heldTotal = s.heldTotal := rfl
@[simp] theorem State.onPort_blank (l : Link) (f : Port → Port) : (s.onPort l f).blank = s.blank := rfl
@[simp] theorem State.onPort_unwiped (l : Link) (f : Port → Port) : (s.onPort l f).unwiped = s.unwiped := rfl
@[simp] theorem State.onPort_reserved (l : Link) (f : Port → Port) : (s.onPort l f).reserved = s.reserved := rfl
@[simp] theorem State.onPort_starved (l : Link) (f : Port → Port) : (s.onPort l f).starved = s.starved := rfl
@[simp] theorem State.onPort_jobQueue (l : Link) (f : Port → Port) : (s.onPort l f).jobQueue = s.jobQueue := rfl
@[simp] theorem State.onPort_pullQueue (l : Link) (f : Port → Port) : (s.onPort l f).pullQueue = s.pullQueue := rfl
@[simp] theorem State.onPort_dispatchQueue (l : Link) (f : Port → Port) : (s.onPort l f).dispatchQueue = s.dispatchQueue := rfl
@[simp] theorem State.onPort_settings (l : Link) (f : Port → Port) : (s.onPort l f).settings = s.settings := rfl
@[simp] theorem State.onPort_day (l : Link) (f : Port → Port) : (s.onPort l f).day = s.day := rfl
@[simp] theorem State.onPort_dayOpen (l : Link) (f : Port → Port) : (s.onPort l f).dayOpen = s.dayOpen := rfl
@[simp] theorem State.onPort_tally (l : Link) (f : Port → Port) : (s.onPort l f).tally = s.tally := rfl
@[simp] theorem State.onPort_bays (l : Link) (f : Port → Port) : (s.onPort l f).bays = s.bays := rfl
@[simp] theorem State.onPort_standing (l : Link) (f : Port → Port) : (s.onPort l f).standing = s.standing := rfl
@[simp] theorem State.onPort_passQueue (l : Link) (f : Port → Port) : (s.onPort l f).passQueue = s.passQueue := rfl
@[simp] theorem State.onPort_pendingOffers (l : Link) (f : Port → Port) : (s.onPort l f).pendingOffers = s.pendingOffers := rfl
@[simp] theorem State.onPort_offer (l : Link) (f : Port → Port) : (s.onPort l f).offer = s.offer := rfl
@[simp] theorem State.onPort_running (l : Link) (f : Port → Port) : (s.onPort l f).running = s.running := rfl
@[simp] theorem State.onPort_blocked (l : Link) (f : Port → Port) : (s.onPort l f).blocked = s.blocked := rfl
@[simp] theorem State.onPort_stays (l : Link) (f : Port → Port) : (s.onPort l f).stays = s.stays := rfl
@[simp] theorem State.onPort_marks (l : Link) (f : Port → Port) : (s.onPort l f).marks = s.marks := rfl
@[simp] theorem State.onPort_todayCount (l : Link) (f : Port → Port) : (s.onPort l f).todayCount = s.todayCount := rfl
@[simp] theorem State.onPort_reservedCap (l : Link) (f : Port → Port) : (s.onPort l f).reservedCap = s.reservedCap := rfl
@[simp] theorem State.onPort_ports (l : Link) (f : Port → Port) : (s.onPort l f).ports = s.ports.set l (f (s.ports.get l)) := rfl
@[simp] theorem State.onPort_pending (l : Link) (f : Port → Port) : (s.onPort l f).pending = s.pending := rfl

/-! ### `State.withPort` -/

@[simp] theorem State.withPort_restartAsserted (l : Link) (p : Port) : (s.withPort l p).restartAsserted = s.restartAsserted := rfl
@[simp] theorem State.withPort_virgin (l : Link) (p : Port) : (s.withPort l p).virgin = s.virgin := rfl
@[simp] theorem State.withPort_patrons (l : Link) (p : Port) : (s.withPort l p).patrons = s.patrons := rfl
@[simp] theorem State.withPort_titles (l : Link) (p : Port) : (s.withPort l p).titles = s.titles := rfl
@[simp] theorem State.withPort_copySets (l : Link) (p : Port) : (s.withPort l p).copySets = s.copySets := rfl
@[simp] theorem State.withPort_carts (l : Link) (p : Port) : (s.withPort l p).carts = s.carts := rfl
@[simp] theorem State.withPort_jobs (l : Link) (p : Port) : (s.withPort l p).jobs = s.jobs := rfl
@[simp] theorem State.withPort_orders (l : Link) (p : Port) : (s.withPort l p).orders = s.orders := rfl
@[simp] theorem State.withPort_tasks (l : Link) (p : Port) : (s.withPort l p).tasks = s.tasks := rfl
@[simp] theorem State.withPort_parcels (l : Link) (p : Port) : (s.withPort l p).parcels = s.parcels := rfl
@[simp] theorem State.withPort_groups (l : Link) (p : Port) : (s.withPort l p).groups = s.groups := rfl
@[simp] theorem State.withPort_loans (l : Link) (p : Port) : (s.withPort l p).loans = s.loans := rfl
@[simp] theorem State.withPort_counters (l : Link) (p : Port) : (s.withPort l p).counters = s.counters := rfl
@[simp] theorem State.withPort_heldTotal (l : Link) (p : Port) : (s.withPort l p).heldTotal = s.heldTotal := rfl
@[simp] theorem State.withPort_blank (l : Link) (p : Port) : (s.withPort l p).blank = s.blank := rfl
@[simp] theorem State.withPort_unwiped (l : Link) (p : Port) : (s.withPort l p).unwiped = s.unwiped := rfl
@[simp] theorem State.withPort_reserved (l : Link) (p : Port) : (s.withPort l p).reserved = s.reserved := rfl
@[simp] theorem State.withPort_starved (l : Link) (p : Port) : (s.withPort l p).starved = s.starved := rfl
@[simp] theorem State.withPort_jobQueue (l : Link) (p : Port) : (s.withPort l p).jobQueue = s.jobQueue := rfl
@[simp] theorem State.withPort_pullQueue (l : Link) (p : Port) : (s.withPort l p).pullQueue = s.pullQueue := rfl
@[simp] theorem State.withPort_dispatchQueue (l : Link) (p : Port) : (s.withPort l p).dispatchQueue = s.dispatchQueue := rfl
@[simp] theorem State.withPort_settings (l : Link) (p : Port) : (s.withPort l p).settings = s.settings := rfl
@[simp] theorem State.withPort_day (l : Link) (p : Port) : (s.withPort l p).day = s.day := rfl
@[simp] theorem State.withPort_dayOpen (l : Link) (p : Port) : (s.withPort l p).dayOpen = s.dayOpen := rfl
@[simp] theorem State.withPort_tally (l : Link) (p : Port) : (s.withPort l p).tally = s.tally := rfl
@[simp] theorem State.withPort_bays (l : Link) (p : Port) : (s.withPort l p).bays = s.bays := rfl
@[simp] theorem State.withPort_standing (l : Link) (p : Port) : (s.withPort l p).standing = s.standing := rfl
@[simp] theorem State.withPort_passQueue (l : Link) (p : Port) : (s.withPort l p).passQueue = s.passQueue := rfl
@[simp] theorem State.withPort_pendingOffers (l : Link) (p : Port) : (s.withPort l p).pendingOffers = s.pendingOffers := rfl
@[simp] theorem State.withPort_offer (l : Link) (p : Port) : (s.withPort l p).offer = s.offer := rfl
@[simp] theorem State.withPort_running (l : Link) (p : Port) : (s.withPort l p).running = s.running := rfl
@[simp] theorem State.withPort_blocked (l : Link) (p : Port) : (s.withPort l p).blocked = s.blocked := rfl
@[simp] theorem State.withPort_stays (l : Link) (p : Port) : (s.withPort l p).stays = s.stays := rfl
@[simp] theorem State.withPort_marks (l : Link) (p : Port) : (s.withPort l p).marks = s.marks := rfl
@[simp] theorem State.withPort_todayCount (l : Link) (p : Port) : (s.withPort l p).todayCount = s.todayCount := rfl
@[simp] theorem State.withPort_reservedCap (l : Link) (p : Port) : (s.withPort l p).reservedCap = s.reservedCap := rfl
@[simp] theorem State.withPort_ports (l : Link) (p : Port) : (s.withPort l p).ports = s.ports.set l p := rfl
@[simp] theorem State.withPort_pending (l : Link) (p : Port) : (s.withPort l p).pending = s.pending := rfl

end Sys2Proof.Machine
end

