-- ==== Sys2Proof/Laws/Ops.lean ====
section
/-! SUPPORT. What the shared operations do. A `_frame` lemma says which fields an operation may write and that it writes no
other; an `_eq` lemma gives what it writes where its records are live. -/

namespace Sys2Proof.Machine

/-! ### Patrons -/

theorem appendPass_eq (n : Nat) (s : State) :
    appendPass n s = { s with passQueue := if n ∈ s.passQueue then s.passQueue else s.passQueue ++ [n] } := rfl

theorem appendPassOpen_frame (n : Nat) (s : State) :
    appendPassOpen n s = { s with passQueue := (appendPassOpen n s).passQueue } := by
  unfold appendPassOpen
  split <;> rfl

theorem lowerHeld_frame (n k : Nat) (s : State) :
    lowerHeld n k s = { s with patrons := (lowerHeld n k s).patrons, heldTotal := (lowerHeld n k s).heldTotal } := by
  unfold lowerHeld
  split <;> rfl

theorem lowerHeld_eq {s : State} {n : Nat} {p : Patron} (k : Nat) (h : s.patrons.get n = some p) :
    lowerHeld n k s = { s with patrons := s.patrons.put n { p with held := p.held - k }, heldTotal := s.heldTotal - k } := by
  simp [lowerHeld, h, State.putPatron]

theorem freeIfDone_frame (n : Nat) (s : State) : freeIfDone n s = { s with patrons := (freeIfDone n s).patrons } := by
  unfold freeIfDone
  split
  · split <;> rfl
  · rfl

/-- A patron that is not CLOSING is not freed. -/
theorem freeIfDone_open {s : State} {n : Nat} {p : Patron} (h : s.patrons.get n = some p) (hp : p.state ≠ .closing) :
    freeIfDone n s = s := by
  simp [freeIfDone, h, hp]

theorem suspensionCheck_frame (n : Nat) (s : State) :
    suspensionCheck n s =
      { s with
        patrons := (suspensionCheck n s).patrons
        passQueue := (suspensionCheck n s).passQueue
        ports := (suspensionCheck n s).ports } := by
  unfold suspensionCheck
  split
  · split
    · rfl
    · split <;> rfl
  · rfl

theorem closeLoan_frame (n m : Nat) (s : State) :
    closeLoan n m s =
      { s with loans := s.loans.del n, patrons := (closeLoan n m s).patrons, heldTotal := (closeLoan n m s).heldTotal } := by
  unfold closeLoan
  rw [freeIfDone_frame, lowerHeld_frame]

/-- A loan of a patron that is not CLOSING closes: the record freed, H and the total of held units down by 1 (R151). -/
theorem closeLoan_open {s : State} {n m : Nat} {p : Patron} (h : s.patrons.get m = some p) (hp : p.state ≠ .closing) :
    closeLoan n m s =
      { s with
        loans := s.loans.del n
        patrons := s.patrons.put m { p with held := p.held - 1 }
        heldTotal := s.heldTotal - 1 } := by
  simp [closeLoan, lowerHeld, h, State.putPatron, freeIfDone, hp]

theorem keepBlocked_frame (n : Nat) (s : State) : keepBlocked n s = { s with stays := (keepBlocked n s).stays } := rfl

/-- A PATRON-SET makes its own patron stay on each list it stands on, and no one else (R24). -/
theorem mem_staysAfterSet (n m : Nat) (s : State) (c : Cls) :
    m ∈ staysAfterSet n s c ↔ m ∈ s.stays.get c ∨ (m = n ∧ n ∈ s.blocked.get c) := by
  unfold staysAfterSet
  split <;> simp [mem_appendNew, *]

/-- A patron that stays on a list is on it after a pass's settlement too (R24). -/
theorem mem_settleBlocked_stays {n : Nat} {stays l : List Nat} (noted : Bool) (hs : n ∈ stays) (hl : n ∈ l) :
    n ∈ settleBlocked n noted stays l := by
  simp [settleBlocked, hs, hl, appendNew]

/-- A patron that the walk skipped for no entry of a class, and that does not stay, leaves the class's list (R49). -/
theorem settleBlocked_leaves {n : Nat} {stays l : List Nat} (hs : n ∉ stays) : settleBlocked n false stays l = l.erase n := by
  simp [settleBlocked, hs]

/-- The suspension condition without loan `n` is another loan overdue by suspend-after (R142). -/
theorem suspensionHolds_closed {s t : State} (n m : Nat) (hl : t.loans = s.loans.del n) (hs : t.settings = s.settings) :
    suspensionHolds t m = lateBesides s n m := by
  simp only [suspensionHolds, lateBesides, hl, hs, Table.del, List.any_filter, Bool.and_assoc]
  rfl

/-- A loan of a patron with a record closes at check-in (R151): PATRON-SUSPENDED is raised where the check suspends the patron. -/
theorem checkInLoan_eq {s : State} {l : Loan} {p : Patron} (n : Nat) (h : s.patrons.get l.patron = some p) :
    checkInLoan n l s =
      raiseIf (p.state != .suspended && s.rechecked n l p == .suspended) .order .patronSuspended (s.checkedIn n l p) := by
  have hc := fun t => suspensionHolds_closed (s := s) (t := t) n l.patron
  unfold checkInLoan
  cases hp : p.state
  case closing =>
    by_cases hh : p.held ≤ 1 <;> cases hl : l.state <;>
      simp [closeLoan, lowerHeld, h, State.putPatron, freeIfDone, hp, Nat.sub_eq_zero_iff_le, hh, appendPassOpen, notClosing,
        Loan.isOverdue, suspensionCheck, hl, State.rechecked, PatronState.checked, State.checkedIn, raiseIf]
  all_goals
    rw [closeLoan_open h (by simp [hp])]
    cases hl : l.state <;> cases hb : lateBesides s n l.patron <;> by_cases hq : l.patron ∈ s.passQueue <;>
      simp [appendPassOpen, notClosing, hp, appendPass, appendNew, hq, Loan.isOverdue, hl, suspensionCheck, hc, hb,
        State.putPatron, State.rechecked, PatronState.checked, State.checkedIn, raiseIf]

/-! ### Wish lists and waiting lists -/

theorem leaveWaitingAll_frame (n : Nat) (ws : List WishEntry) (s : State) :
    leaveWaitingAll n ws s = { s with titles := (leaveWaitingAll n ws s).titles } := by
  unfold leaveWaitingAll
  induction ws generalizing s with
  | nil => rfl
  | cons w ws ih =>
    rw [List.foldl_cons, ih]
    split <;> rfl

theorem returnEntries_frame (n : Nat) (entries : List WishEntry) (s : State) :
    returnEntries n entries s =
      { s with patrons := (returnEntries n entries s).patrons, titles := (returnEntries n entries s).titles } := by
  have h : ∀ (ws : List WishEntry) (u : State),
      ws.foldl (fun acc w => if w.format = .braille then joinWaitingHead n w.title acc else acc) u =
        { u with
          titles := (ws.foldl (fun acc w => if w.format = .braille then joinWaitingHead n w.title acc else acc) u).titles } := by
    intro ws
    induction ws with
    | nil => intro u; rfl
    | cons w ws ih =>
      intro u
      rw [List.foldl_cons, ih]
      split <;> rfl
  unfold returnEntries
  split
  · dsimp only
    rw [h]
    rfl
  · rfl

/-! ### Write jobs, cartridges and pools -/

theorem queueWithBlank_frame (n : Nat) (j : Job) (s : State) :
    queueWithBlank n j s =
      { s with
        jobs := s.jobs.put n { j with state := .queued }
        reserved := s.reserved.set j.cls (s.reserved.get j.cls + 1)
        jobQueue := (queueWithBlank n j s).jobQueue } := rfl

theorem starveJob_frame (n : Nat) (j : Job) (s : State) :
    starveJob n j s =
      { s with jobs := s.jobs.put n { j with state := .starved }, starved := (starveJob n j s).starved } := rfl

theorem needBlank_frame (n : Nat) (s : State) :
    needBlank n s =
      { s with
        jobs := (needBlank n s).jobs
        reserved := (needBlank n s).reserved
        jobQueue := (needBlank n s).jobQueue
        starved := (needBlank n s).starved } := by
  unfold needBlank
  split
  · split <;> rfl
  · rfl

theorem claimStarved_frame (c : Cls) (s : State) :
    claimStarved c s =
      { s with
        jobs := (claimStarved c s).jobs
        reserved := (claimStarved c s).reserved
        jobQueue := (claimStarved c s).jobQueue
        starved := (claimStarved c s).starved } := by
  unfold claimStarved
  split
  · rfl
  · split
    · split <;> rfl
    · rfl

theorem toUnwiped_frame (serial : Nat) (s : State) :
    toUnwiped serial s = { s with carts := (toUnwiped serial s).carts, unwiped := (toUnwiped serial s).unwiped } := by
  unfold toUnwiped
  split <;> rfl

theorem toUnwiped_eq {s : State} {serial : Nat} {c : Cart} (h : s.carts.get serial = some c) :
    toUnwiped serial s =
      { s with carts := s.carts.put serial { c with state := .unwiped }, unwiped := s.unwiped ++ [serial] } := by
  simp [toUnwiped, h, State.putCart]

theorem faultCart_frame (serial : Nat) (s : State) :
    faultCart serial s = { s with carts := (faultCart serial s).carts, unwiped := (faultCart serial s).unwiped } := by
  unfold faultCart
  split
  · split
    · rfl
    · rw [toUnwiped_frame]
      rfl
  · rfl

theorem wipedCart_frame (serial : Nat) (s : State) :
    wipedCart serial s =
      { s with
        carts := (wipedCart serial s).carts
        blank := (wipedCart serial s).blank
        jobs := (wipedCart serial s).jobs
        reserved := (wipedCart serial s).reserved
        jobQueue := (wipedCart serial s).jobQueue
        starved := (wipedCart serial s).starved } := by
  unfold wipedCart
  split
  · split
    · rfl
    · dsimp only
      rw [claimStarved_frame]
      rfl
  · rfl

/-! ### Blocked lists -/

theorem releaseIf_frame (b : Bool) (c : Cls) (s : State) :
    releaseIf b c s =
      { s with
        passQueue := (releaseIf b c s).passQueue
        blocked := (releaseIf b c s).blocked
        stays := (releaseIf b c s).stays } := by
  unfold releaseIf
  split <;> rfl

theorem releaseLists_frame (s0 s : State) :
    releaseLists s0 s =
      { s with
        passQueue := (releaseLists s0 s).passQueue
        blocked := (releaseLists s0 s).blocked
        stays := (releaseLists s0 s).stays
        marks := (releaseLists s0 s).marks } := by
  unfold releaseLists
  dsimp only
  split
  · rw [releaseIf_frame, releaseIf_frame, releaseIf_frame]
  · rw [releaseIf_frame, releaseIf_frame, releaseIf_frame]

/-- An event that frees no job record. -/
theorem jobFreed_same {s0 s : State} (h : ∀ e ∈ s0.jobs, s.jobs.get e.1 ≠ none) : jobFreed s0 s = false := by
  simp only [jobFreed, List.any_eq_false, Option.isNone_iff_eq_none]
  exact h

/-- An event that frees no job record and brings no class's free blanks above its critical level releases no list (R50, R51). -/
theorem releaseLists_quiet {s0 s : State} (hj : jobFreed s0 s = false)
    (hc : ∀ c, criticalHolds s0 c = true → criticalHolds s c = true) : releaseLists s0 s = s := by
  have hd : ∀ c, releaseDue s0 s c = false := by
    intro c
    simp only [releaseDue, hj, Bool.false_and, Bool.or_false]
    cases h : criticalHolds s0 c
    · rfl
    · simp [hc c h]
  simp [releaseLists, releaseIf, hd, hj]

/-! ### Copy sets, orders and items -/

theorem makeAvailable_frame (n : Nat) (s : State) :
    makeAvailable n s =
      { s with copySets := (makeAvailable n s).copySets, pendingOffers := (makeAvailable n s).pendingOffers } := by
  unfold makeAvailable
  split
  · dsimp only
    split
    · split <;> rfl
    · rfl
  · rfl

/-- A set becomes AVAILABLE, and joins the pending offers where its title's waiting list is not empty (R45). -/
theorem makeAvailable_eq {s : State} {n : Nat} {c : CopySet} {t : Title} (hc : s.copySets.get n = some c)
    (ht : s.titles.get c.title = some t) :
    makeAvailable n s =
      { s with
        copySets := s.copySets.put n { c with state := .available }
        pendingOffers :=
          if t.waiting = [] ∨ n ∈ s.pendingOffers then s.pendingOffers else s.pendingOffers ++ [n] } := by
  simp only [makeAvailable, hc, ht, State.putSet, appendNew, List.isEmpty_iff]
  by_cases h : t.waiting = []
  · simp [h]
  · by_cases h' : n ∈ s.pendingOffers <;> simp [h, h']

theorem makeIncomplete_frame (n : Nat) (missing : List Nat) (s : State) :
    makeIncomplete n missing s = { s with copySets := (makeIncomplete n missing s).copySets } := by
  unfold makeIncomplete
  split <;> rfl

theorem completeOrder_frame (n : Nat) (s : State) :
    completeOrder n s = { s with orders := (completeOrder n s).orders } := by
  unfold completeOrder
  split
  · split <;> rfl
  · rfl

/-! ### Parcels -/

/-- Two states that differ in parcels, groups, the next-number counters and the dispatch queue only. -/
def OnlyParcels (s t : State) : Prop :=
  t = { s with parcels := t.parcels, groups := t.groups, counters := t.counters, dispatchQueue := t.dispatchQueue }

theorem OnlyParcels.refl (s : State) : OnlyParcels s s := rfl

theorem OnlyParcels.trans {s t u : State} (h : OnlyParcels s t) (h' : OnlyParcels t u) : OnlyParcels s u := by
  unfold OnlyParcels at *
  rw [h', h]

theorem newGroup_frame (b : Band) (s : State) : OnlyParcels s (newGroup b s).1 := rfl

theorem newParcel_frame (o g : Nat) (c : Contents) (s : State) : OnlyParcels s (newParcel o g c s) := rfl

theorem newParcels_frame (o g : Nat) (x : ItemObject) (s : State) : OnlyParcels s (newParcels o g x s) := by
  have h : ∀ (cs : List Contents) (u : State), OnlyParcels u (cs.foldl (fun acc c => newParcel o g c acc) u) := by
    intro cs
    induction cs with
    | nil => exact fun u => .refl u
    | cons c cs ih => exact fun u => (newParcel_frame o g c u).trans (ih _)
  exact h _ _

theorem joinParcel_frame (o serial n : Nat) (s : State) : OnlyParcels s (joinParcel o serial n s) := rfl

theorem releaseGroup_frame (g : Nat) (s : State) : OnlyParcels s (releaseGroup g s) := by
  unfold releaseGroup
  split
  · rfl
  · exact .refl s

theorem releaseTogether_frame (o : Nat) (s : State) : OnlyParcels s (releaseTogether o s) := by
  unfold releaseTogether
  split
  · split
    · exact releaseGroup_frame _ s
    · exact .refl s
  · exact .refl s

theorem togetherGroup_frame (n : Nat) (o : Order) (s : State) : OnlyParcels s (togetherGroup n o s).1 := by
  unfold togetherGroup
  split
  · exact .refl s
  · exact newGroup_frame _ s

/-- Making an item's parcels writes parcels, groups, counters and the dispatch queue only (R113 to R118). -/
theorem makeParcels_frame (n : Nat) (o : Order) (i : Item) (s : State) : OnlyParcels s (makeParcels n o i s) := by
  unfold makeParcels
  split
  · exact ((newGroup_frame _ s).trans (newParcels_frame _ _ _ _)).trans (releaseGroup_frame _ _)
  · split
    · exact joinParcel_frame _ _ _ s
    · exact (togetherGroup_frame n o s).trans (newParcels_frame _ _ _ _)

theorem serveList_frame (l : List (Nat × Nat)) (s : State) : OnlyParcels s (serveList l s) := by
  induction l generalizing s with
  | nil => exact .refl s
  | cons e l ih =>
    obtain ⟨n, p⟩ := e
    unfold serveList
    split
    · exact ih s
    · split
      · exact ih s
      · split
        · exact (makeParcels_frame _ _ _ s).trans (ih _)
        · exact .refl s

/-- Serving the parcel backlog writes parcels, groups, counters and the dispatch queue only (R113, R118). -/
theorem serveBacklog_frame (s : State) : OnlyParcels s (serveBacklog s) := by
  have h : ∀ (l : List (Nat × Nat)) (u : State), OnlyParcels u (l.foldl (fun acc e => releaseTogether e.1 acc) u) := by
    intro l
    induction l with
    | nil => exact fun u => .refl u
    | cons e l ih => exact fun u => (releaseTogether_frame e.1 u).trans (ih _)
  exact (serveList_frame _ s).trans (h _ _)

/-- Serving an empty backlog does nothing. -/
theorem serveBacklog_nil {s : State} (h : backlog s = []) : serveBacklog s = s := by
  simp [serveBacklog, h, serveList]

/-! ### Cancellation -/

/-- A cancelled job writes the job records, the lists and counts its job stands in, and the Selection Engine's lists only
(R120). -/
theorem cancelJob_frame (n : Nat) (s : State) :
    cancelJob n s =
      { s with
        jobs := (cancelJob n s).jobs
        jobQueue := (cancelJob n s).jobQueue
        starved := (cancelJob n s).starved
        reserved := (cancelJob n s).reserved
        passQueue := (cancelJob n s).passQueue
        blocked := (cancelJob n s).blocked
        stays := (cancelJob n s).stays
        marks := (cancelJob n s).marks } := by
  unfold cancelJob
  split
  · rfl
  · split
    · rw [releaseLists_frame, releaseReservation, claimStarved_frame]; rfl
    · rw [releaseLists_frame]; rfl
    · rfl
    · rfl

/-- A STARVED job's record is freed with the marked lists' release; no count changes (R51, R120). -/
theorem cancelJob_starved {n : Nat} {s : State} {j : Job} (h : s.jobs.get n = some j) (hs : j.state = .starved) :
    cancelJob n s =
      releaseLists s { s with
        jobs := s.jobs.del n
        starved := s.starved.set j.cls ((s.starved.get j.cls).erase n) } := by
  simp [cancelJob, h, hs, freeJob]

/-- A QUEUED job's record is freed, its reservation is released, the oldest starved job claims, and then the lists are released
(R74, R120). -/
theorem cancelJob_queued {n : Nat} {s : State} {j : Job} (h : s.jobs.get n = some j) (hs : j.state = .queued) :
    cancelJob n s =
      releaseLists s (claimStarved j.cls { s with
        jobs := s.jobs.del n
        jobQueue := s.jobQueue.erase n
        reserved := s.reserved.set j.cls (s.reserved.get j.cls - 1) }) := by
  simp [cancelJob, h, hs, freeJob, releaseReservation]

/-- With restore, the patron's list, the waiting lists and the pass queue are written, and nothing else (R121 steps 1, 2). -/
theorem restoreEntries_frame (n : Nat) (entries : List WishEntry) (s : State) :
    restoreEntries n entries s =
      { s with
        patrons := (restoreEntries n entries s).patrons
        titles := (restoreEntries n entries s).titles
        passQueue := (restoreEntries n entries s).passQueue } := by
  unfold restoreEntries
  rw [appendPassOpen_frame, returnEntries_frame]

/-! ### Bays -/

/-- A bay number in range names the bay of that place. -/
theorem bay_some {s : State} {n : Nat} {b : Bay} (hn : n < 32) (hb : s.bays[n]? = some b) : s.bay n = some b := by
  have h : Config.bayCount = 32 := rfl
  simp [State.bay, h, hn, hb]

theorem idleBay_frame (n : Nat) (k : WorkKind) (serial : Nat) (e : Ending) (s : State) :
    idleBay n k serial e s = { s with bays := (idleBay n k serial e s).bays } := by
  unfold idleBay
  split
  · split <;> rfl
  · rfl

theorem countGood_frame (n : Nat) (s : State) : countGood n s = { s with bays := (countGood n s).bays } := by
  unfold countGood
  split
  · split <;> rfl
  · rfl

theorem haltCheck_frame (s : State) :
    haltCheck s = { s with standing := (haltCheck s).standing, ports := (haltCheck s).ports } := by
  unfold haltCheck
  split <;> rfl

theorem startRest_frame (n : Nat) (b : Bay) (s : State) :
    startRest n b s =
      { s with
        bays := (startRest n b s).bays, standing := (startRest n b s).standing, ports := (startRest n b s).ports } := by
  unfold startRest
  split
  · rfl
  · rw [haltCheck_frame]
    rfl

/-- Counting a bad outcome writes the bay, the standing and the notice sets only (R97, R98, R101). -/
theorem countBadOutcome_frame (n : Nat) (s : State) :
    countBadOutcome n s =
      { s with
        bays := (countBadOutcome n s).bays
        standing := (countBadOutcome n s).standing
        ports := (countBadOutcome n s).ports } := by
  unfold countBadOutcome
  split
  · split
    · exact startRest_frame _ _ s
    · split
      · exact startRest_frame _ _ s
      · rfl
    · rfl
  · rfl

/-! ### Requests -/

/-- A frame's command does what a good frame on its link does (R169). -/
theorem exec_ofFrame (l : Link) (f : RxFrame) (s : State) : exec (Instr.ofFrame l f) s = .next (request l f s) := by
  obtain ⟨kind, tag, body⟩ := f
  have hk : ∀ k, kindOfCode kind = some k → k.code = kind := by
    intro k h
    simpa using List.find?_some h
  simp only [Instr.ofFrame]
  split
  all_goals
    rename_i h
    first
      | (have hc := hk _ h; subst hc; rfl)
      | rfl

end Sys2Proof.Machine
end

