-- ==== Sys2Proof/Laws/PerInstr.lean ====
section
/-! SUPPORT. One lemma per command about its spelling: the frame a well-formed command is sent as holds at most 1,024 body
bytes, and its kind byte, tag and body name that command again (R165, R169). -/

namespace Sys2Proof.Laws.FrameSpelling

open Sys2Proof.Machine

/-- The frame of a well-formed command has a body in range and names the command. -/
def Statement (i : Instr) : Prop :=
  i.wellFormed = true → ∀ (l : Link) (f : RxFrame), i.frame = some (l, f) →
    f.body.length ≤ Config.maxBody ∧ Instr.ofFrame l f = i

/-- A command spelled by a request kind. -/
theorem of_kind {i : Instr} {l : Link} {k : Kind} {tag : Half} {body : List Byte}
    (hw : i.wellFormed = decide (body.length ≤ Config.maxBody)) (hf : i.frame = some (l, ⟨k.code, tag, body⟩))
    (ho : Instr.ofFrame l ⟨k.code, tag, body⟩ = i) : Statement i := by
  intro h m f hmf
  rw [hf] at hmf
  simp only [Option.some.injEq, Prod.mk.injEq] at hmf
  obtain ⟨rfl, rfl⟩ := hmf
  exact ⟨of_decide_eq_true (hw ▸ h), ho⟩

/-- A command that is no frame of its own. -/
theorem of_none {i : Instr} (hf : i.frame = none) : Statement i := by
  intro _ m f hmf
  rw [hf] at hmf
  cases hmf

theorem status (link : Link) (tag : Half) (body : List Byte) : Statement (.status link tag body) :=
  of_kind (k := .status) rfl rfl rfl

theorem noticeAck (link : Link) (tag : Half) (body : List Byte) : Statement (.noticeAck link tag body) :=
  of_kind (k := .noticeAck) rfl rfl rfl

theorem patronSet (link : Link) (tag : Half) (body : List Byte) : Statement (.patronSet link tag body) :=
  of_kind (k := .patronSet) rfl rfl rfl

theorem patronPause (link : Link) (tag : Half) (body : List Byte) : Statement (.patronPause link tag body) :=
  of_kind (k := .patronPause) rfl rfl rfl

theorem patronResume (link : Link) (tag : Half) (body : List Byte) : Statement (.patronResume link tag body) :=
  of_kind (k := .patronResume) rfl rfl rfl

theorem patronClose (link : Link) (tag : Half) (body : List Byte) : Statement (.patronClose link tag body) :=
  of_kind (k := .patronClose) rfl rfl rfl

theorem patronRead (link : Link) (tag : Half) (body : List Byte) : Statement (.patronRead link tag body) :=
  of_kind (k := .patronRead) rfl rfl rfl

theorem wishAdd (link : Link) (tag : Half) (body : List Byte) : Statement (.wishAdd link tag body) :=
  of_kind (k := .wishAdd) rfl rfl rfl

theorem wishDrop (link : Link) (tag : Half) (body : List Byte) : Statement (.wishDrop link tag body) :=
  of_kind (k := .wishDrop) rfl rfl rfl

theorem wishMove (link : Link) (tag : Half) (body : List Byte) : Statement (.wishMove link tag body) :=
  of_kind (k := .wishMove) rfl rfl rfl

theorem wishRead (link : Link) (tag : Half) (body : List Byte) : Statement (.wishRead link tag body) :=
  of_kind (k := .wishRead) rfl rfl rfl

theorem titleSet (link : Link) (tag : Half) (body : List Byte) : Statement (.titleSet link tag body) :=
  of_kind (k := .titleSet) rfl rfl rfl

theorem titleWithdraw (link : Link) (tag : Half) (body : List Byte) : Statement (.titleWithdraw link tag body) :=
  of_kind (k := .titleWithdraw) rfl rfl rfl

theorem copysetAdd (link : Link) (tag : Half) (body : List Byte) : Statement (.copysetAdd link tag body) :=
  of_kind (k := .copysetAdd) rfl rfl rfl

theorem loanRead (link : Link) (tag : Half) (body : List Byte) : Statement (.loanRead link tag body) :=
  of_kind (k := .loanRead) rfl rfl rfl

theorem renew (link : Link) (tag : Half) (body : List Byte) : Statement (.renew link tag body) :=
  of_kind (k := .renew) rfl rfl rfl

theorem orderCancel (link : Link) (tag : Half) (body : List Byte) : Statement (.orderCancel link tag body) :=
  of_kind (k := .orderCancel) rfl rfl rfl

theorem newDay (link : Link) (tag : Half) (body : List Byte) : Statement (.newDay link tag body) :=
  of_kind (k := .newDay) rfl rfl rfl

theorem serviceSet (link : Link) (tag : Half) (body : List Byte) : Statement (.serviceSet link tag body) :=
  of_kind (k := .serviceSet) rfl rfl rfl

theorem storeClear (link : Link) (tag : Half) (body : List Byte) : Statement (.storeClear link tag body) :=
  of_kind (k := .storeClear) rfl rfl rfl

theorem cartEnrol (link : Link) (tag : Half) (body : List Byte) : Statement (.cartEnrol link tag body) :=
  of_kind (k := .cartEnrol) rfl rfl rfl

theorem cartForget (link : Link) (tag : Half) (body : List Byte) : Statement (.cartForget link tag body) :=
  of_kind (k := .cartForget) rfl rfl rfl

theorem poolSet (link : Link) (tag : Half) (body : List Byte) : Statement (.poolSet link tag body) :=
  of_kind (k := .poolSet) rfl rfl rfl

theorem bayOnline (link : Link) (tag : Half) (body : List Byte) : Statement (.bayOnline link tag body) :=
  of_kind (k := .bayOnline) rfl rfl rfl

theorem bayOffline (link : Link) (tag : Half) (body : List Byte) : Statement (.bayOffline link tag body) :=
  of_kind (k := .bayOffline) rfl rfl rfl

theorem bayRestore (link : Link) (tag : Half) (body : List Byte) : Statement (.bayRestore link tag body) :=
  of_kind (k := .bayRestore) rfl rfl rfl

theorem dupRestart (link : Link) (tag : Half) (body : List Byte) : Statement (.dupRestart link tag body) :=
  of_kind (k := .dupRestart) rfl rfl rfl

theorem work (link : Link) (tag : Half) (body : List Byte) : Statement (.work link tag body) :=
  of_kind (k := .work) rfl rfl rfl

theorem writeDone (link : Link) (tag : Half) (body : List Byte) : Statement (.writeDone link tag body) :=
  of_kind (k := .writeDone) rfl rfl rfl

theorem wipeDone (link : Link) (tag : Half) (body : List Byte) : Statement (.wipeDone link tag body) :=
  of_kind (k := .wipeDone) rfl rfl rfl

theorem bayFault (link : Link) (tag : Half) (body : List Byte) : Statement (.bayFault link tag body) :=
  of_kind (k := .bayFault) rfl rfl rfl

theorem bayRead (link : Link) (tag : Half) (body : List Byte) : Statement (.bayRead link tag body) :=
  of_kind (k := .bayRead) rfl rfl rfl

theorem nextPull (link : Link) (tag : Half) (body : List Byte) : Statement (.nextPull link tag body) :=
  of_kind (k := .nextPull) rfl rfl rfl

theorem pulled (link : Link) (tag : Half) (body : List Byte) : Statement (.pulled link tag body) :=
  of_kind (k := .pulled) rfl rfl rfl

theorem notFound (link : Link) (tag : Half) (body : List Byte) : Statement (.notFound link tag body) :=
  of_kind (k := .notFound) rfl rfl rfl

theorem setFound (link : Link) (tag : Half) (body : List Byte) : Statement (.setFound link tag body) :=
  of_kind (k := .setFound) rfl rfl rfl

theorem nextParcel (link : Link) (tag : Half) (body : List Byte) : Statement (.nextParcel link tag body) :=
  of_kind (k := .nextParcel) rfl rfl rfl

theorem packed (link : Link) (tag : Half) (body : List Byte) : Statement (.packed link tag body) :=
  of_kind (k := .packed) rfl rfl rfl

theorem unpack (link : Link) (tag : Half) (body : List Byte) : Statement (.unpack link tag body) :=
  of_kind (k := .unpack) rfl rfl rfl

theorem cartIn (link : Link) (tag : Half) (body : List Byte) : Statement (.cartIn link tag body) :=
  of_kind (k := .cartIn) rfl rfl rfl

theorem volIn (link : Link) (tag : Half) (body : List Byte) : Statement (.volIn link tag body) :=
  of_kind (k := .volIn) rfl rfl rfl

theorem copysetRead (link : Link) (tag : Half) (body : List Byte) : Statement (.copysetRead link tag body) :=
  of_kind (k := .copysetRead) rfl rfl rfl

theorem unknownKind (link : Link) (kind : Byte) (tag : Half) (body : List Byte) : Statement (.unknownKind link kind tag body) := by
  intro h l f hf
  simp only [Instr.wellFormed, Bool.and_eq_true, Option.isNone_iff_eq_none, decide_eq_true_eq] at h
  simp only [Instr.frame, Option.some.injEq, Prod.mk.injEq] at hf
  obtain ⟨rfl, rfl⟩ := hf
  exact ⟨h.2, by simp [Instr.ofFrame, h.1]⟩

theorem busy (link : Link) (kind : Byte) (tag : Half) (body : List Byte) : Statement (.busy link kind tag body) :=
  of_none rfl

theorem receiveError (link : Link) (chars : List RxChar) : Statement (.receiveError link chars) :=
  of_none rfl

theorem frameSent (link : Link) : Statement (.frameSent link) :=
  of_none rfl

theorem linkRestart (link : Link) : Statement (.linkRestart link) :=
  of_none rfl

theorem restartLine : Statement .restartLine :=
  of_none rfl

theorem startUpScan : Statement .startUpScan :=
  of_none rfl

theorem minuteEvent : Statement .minuteEvent :=
  of_none rfl

theorem deadlineExpiry (bay : Nat) : Statement (.deadlineExpiry bay) :=
  of_none rfl

theorem restExpiry (bay : Nat) : Statement (.restExpiry bay) :=
  of_none rfl

theorem selectionPass : Statement .selectionPass :=
  of_none rfl

theorem copySetOffer : Statement .copySetOffer :=
  of_none rfl

theorem starvedClaim (cls : Cls) : Statement (.starvedClaim cls) :=
  of_none rfl

theorem parcelBacklogServe : Statement .parcelBacklogServe :=
  of_none rfl

theorem frameSeparatingIdle (link : Link) : Statement (.frameSeparatingIdle link) :=
  of_none rfl

end Sys2Proof.Laws.FrameSpelling
end

