-- ==== Sys2Proof/Tests/Slice0.lean ====
section
/-! SUPPORT. Small tests of the commands, each on one step, with expected results taken from the worked examples and tables of
spec/ or reckoned by hand from its rules; the refusals of `wellFormed`; and, for every statement with hypotheses, a theorem
`witness_<statement>` that shows states and operands which meet them. -/

namespace Sys2Proof.Tests

open Sys2Proof Sys2Proof.Machine

/-! ### Helpers -/

/-- A port between frames with nothing to send and nothing pending. -/
def idlePort : Port := { rx := .hunt, inProgress := none, waiting := none, sendList := [], notices := [], badFrames := 0 }

/-- The part after reset, with its ports between frames and their notices read and sent. -/
def quiet : State := { State.reset with ports := ⟨idlePort, idlePort, idlePort, idlePort⟩ }

/-- Whether an outcome is a next state with a property. -/
def sees (o : Host.Outcome State Fault Refusal) (f : State → Bool) : Bool :=
  match o with
  | .next t => f t
  | _ => false

/-- Whether an outcome is a next state whose oldest frame on a link is an answer with an outcome code and field values. -/
def answers (l : Link) (o : Host.Outcome State Fault Refusal) (code : OutcomeCode) (vals : List Nat) : Bool :=
  sees o (fun t => match (t.port l).sendList with
    | .answer _ _ a :: _ => a.outcome == code && a.fields.map AnsField.value == vals
    | _ => false)

/-- The notices on a link's send list after an outcome, oldest first. -/
def noticesSent (l : Link) (o : Host.Outcome State Fault Refusal) (ns : List Notice) : Bool :=
  sees o (fun t => (t.port l).sendList.filterMap (fun f => match f with
    | .notice n => some n
    | _ => none) == ns)

/-- What holds of every record of a table holds of the one read. -/
theorem of_all {α : Type} {t : Table α} {n : Nat} {P : Nat → α → Prop} (h : ∀ e ∈ t, P e.1 e.2) : ∀ r, t.get n = some r → P n r :=
  fun _ hr => h _ (Table.mem_of_get hr)

/-- The part with no pass running makes no request wait. -/
theorem noPass {s : State} (h : s.running = none) (n : Nat) : NoPassFor n s := by
  intro r hr
  rw [h] at hr
  cases hr

/-- `CancelReady`, from what a table's lists show. -/
theorem cancelReady_of {s : State} {n : Nat} {os : List Nat}
    (h1 : s.tablesWf = true ∧ (∃ p ∈ s.patrons.get n, (goneItems s os).length ≤ p.held) ∧ os.Nodup
      ∧ (∀ o ∈ os, ∃ r ∈ s.orders.get o, r.patron = n ∧ r.items.Pairwise (fun a b => a.place ≠ b.place)))
    (h2 : ∀ e ∈ s.orders, e.1 ∈ os → ∀ i ∈ e.2.items, i.dispatched = false → ∀ e' ∈ s.orders, e'.1 ∈ os →
      ∀ i' ∈ e'.2.items, i'.dispatched = false → i.object = i'.object → e.1 = e'.1 ∧ i.place = i'.place)
    (h3 : s.tasks.Pairwise (fun a b => a.2.copySet ≠ b.2.copySet)
      ∧ (∀ e ∈ s.parcels, (match e.2.contents with
          | .cartridges cs => decide cs.Nodup
          | .volumes _ _ => true) = true) ∧ s.dispatchQueue.Nodup)
    (h4 : (∀ e ∈ s.parcels, e.2.order ∈ os → ∃ g ∈ s.groups.get e.2.group, e.1 ∈ g.parcels)
      ∧ (∀ e ∈ s.groups, e.2.parcels.Nodup ∧ ∀ m ∈ e.2.parcels, ∃ p ∈ s.parcels.get m, p.group = e.1)
      ∧ (∀ e ∈ s.parcels, ∀ e' ∈ s.parcels, e.2.group = e'.2.group → e.2.order = e'.2.order))
    (h5 : (∀ o ∈ os, ∀ r ∈ s.orders.get o, r.mode = .together →
        ∀ e ∈ s.parcels, ∀ e' ∈ s.parcels, e.2.order = o → e'.2.order = o → e.2.group = e'.2.group)
      ∧ ∀ c ∈ allClasses, s.starved.get c = [] ∨ ∀ e ∈ goneJobs s os .queued, e.2.cls ≠ c) :
    CancelReady s n os where
  tables := h1.1
  held := h1.2.1
  orders := ⟨h1.2.2.1, h1.2.2.2⟩
  objects := fun o ho _ hr i hi hd o' ho' _ hr' => h2 _ (Table.mem_of_get hr) ho i hi hd _ (Table.mem_of_get hr') ho'
  tasks := h3.1
  serials := fun e he cs hc => by have := h3.2.1 e he; simpa [hc] using this
  queue := h3.2.2
  inGroup := h4.1
  groups := h4.2.1
  oneOrder := h4.2.2
  oneGroup := fun o ho r hr => h5.1 o ho r hr
  noClaim := fun c => h5.2 c (by cases c <;> decide)

/-- `NewlyReady`, from what the tables' lists show. -/
theorem newlyReady_of {s : State} {o : Nat} {r : Order} {i : Item} {obj : ItemObject}
    (h1 : backlog s = [] ∧ s.orders.wf = true ∧ i.dispatched = false ∧ r.items.Pairwise (fun a b => a.place ≠ b.place)
      ∧ r.items.Pairwise (fun a b => a.object ≠ b.object) ∧ ∀ x ∈ r.items, x.place ≠ i.place → x.object ≠ obj)
    (h2 : (∀ e ∈ s.parcels, e.2.order = o → e.2.contents.holds obj = false)
      ∧ ∀ e ∈ s.parcels, e.2.order = o → ∀ rg ∈ s.groups.get e.2.group, ∀ m ∈ rg.parcels, ∃ p ∈ s.parcels.get m, p.order = o) :
    NewlyReady s o r i obj :=
  ⟨h1.1, h1.2.1, h1.2.2.1, h1.2.2.2.1, h1.2.2.2.2.1, h1.2.2.2.2.2, h2.1, fun e he ho rg hr => h2.2 e he ho rg hr⟩

/-- What the tables' lists show of `ParcelRoom`. -/
abbrev RoomShown (s : State) (count : Nat) : Prop :=
  s.parcels.length + count ≤ 16384 ∧ s.counters.parcel + count ≤ 16777215
    ∧ (∀ k ∈ List.range count, s.parcels.get (s.counters.parcel + k) = none) ∧ s.counters.group < 16777215
    ∧ s.groups.get s.counters.group = none ∧ ∀ m ∈ s.dispatchQueue, ∃ p ∈ s.parcels.get m, s.groups.get p.group ≠ none

/-- `ParcelRoom`, from what the tables' lists show. -/
theorem parcelRoom_of {s : State} {count : Nat} (h : RoomShown s count) : ParcelRoom s count :=
  ⟨h.1, h.2.1, fun k hk => h.2.2.1 k (List.mem_range.mpr hk), h.2.2.2.1, h.2.2.2.2.1, h.2.2.2.2.2⟩

/-- `LiveGroup` of an order with one parcel. -/
theorem liveGroup_of {s : State} {o g : Nat} {rg : DispatchGroup}
    (h : (∀ e ∈ s.parcels, e.2.order = o → e.2.group = g) ∧ (∃ e ∈ s.parcels, e.2.order = o) ∧ s.groups.get g = some rg
      ∧ rg.begun = false ∧ rg.parcels ≠ []) : LiveGroup s o g rg :=
  ⟨h.1, h.2.1, h.2.2.1, h.2.2.2.1, h.2.2.2.2⟩

/-- `hasParcel` as a test of a state's parcels. -/
abbrev hasParcelB (s : State) (o : Nat) (i : Item) : Bool :=
  s.parcels.any (fun e => e.2.order == o && e.2.contents.holds i.object)

theorem hasParcel_iff {s : State} {o : Nat} {i : Item} : hasParcel s o i ↔ hasParcelB s o i = true := by
  simp [hasParcel, hasParcelB, List.any_eq_true, Bool.and_eq_true]

/-- A group that waits for an item of its order. -/
theorem settled_waits {s : State} {o : Nat} {r : Order} (hr : s.orders.get o = some r)
    (h : ∃ i ∈ r.items, i.dispatched = false ∧ (i.ready = false ∨ hasParcelB s o i = false)) : GroupSettled s o s := by
  refine .inl ⟨fun r' hr' => ?_, rfl⟩
  obtain ⟨i, hi, hd, hw⟩ := h
  rw [hr] at hr'
  cases hr'
  exact .inr (.inl ⟨i, hi, hd, hw.imp id fun hn => by rw [hasParcel_iff, hn]; decide⟩)

/-- An order without a FORMING parcel has no group that waits. -/
theorem settled_noForming {s : State} {o : Nat} (h : ∀ e ∈ s.parcels, e.2.order = o → e.2.state ≠ .forming) : GroupSettled s o s :=
  .inl ⟨fun _ _ => .inr (.inr h), rfl⟩

/-- An AS-READY order has no group that waits. -/
theorem settled_asReady {s : State} {o : Nat} {r : Order} (hr : s.orders.get o = some r) (hm : r.mode = .asReady) :
    GroupSettled s o s :=
  .inl ⟨fun r' hr' => by rw [hr] at hr'; cases hr'; exact .inl hm, rfl⟩

/-- A waiting group that is due, from what the tables' lists show: no parcel of the URGENT band stands in the queue. -/
theorem settled_due {s : State} {o g : Nat} {r : Order} {rg : DispatchGroup} (front back : List Nat) (hg : LiveGroup s o g rg)
    (h : s.orders.get o = some r ∧ r.mode = .together
      ∧ (∀ i ∈ r.items, i.dispatched = true ∨ i.ready = true ∧ hasParcelB s o i = true)
      ∧ ∃ e ∈ s.parcels, e.2.order = o ∧ e.2.state = .forming)
    (hq : s.dispatchQueue = front ++ back ∧ (rg.band = .normal → back = []) ∧ (rg.band = .urgent → front = [])
      ∧ ∀ m ∈ back, ∀ p ∈ s.parcels.get m, ∀ y ∈ s.groups.get p.group, y.band ≠ .urgent) :
    GroupSettled s o (s.groupReleased rg.parcels front back) :=
  .inr ⟨g, r, rg, front, back,
    ⟨h.1, h.2.1, hg, fun i hi => (h.2.2.1 i hi).imp id fun x => ⟨x.1, hasParcel_iff.mpr x.2⟩, h.2.2.2⟩,
    ⟨hq.1, hq.2.1, fun hu => ⟨by simp [hq.2.2.1 hu], fun m hm ⟨p, y, hp, hy, hb⟩ =>
      hq.2.2.2 m (List.mem_of_mem_head? hm) p hp y hy hb⟩⟩, rfl⟩

/-- A parcel without room, from what the tables' lists show. -/
theorem noRoom_of {s : State} {m : Nat}
    (h : ∀ p ∈ s.parcels.get m, (match p.contents with
      | .cartridges serials => decide (p.state = .forming ∧ serials.length < 4)
      | .volumes _ _ => false) = false) : ¬ hasRoom s m := by
  rintro ⟨p, serials, hp, hf, hc, hl⟩
  have := h p hp
  simp [hc, hf, hl] at this

/-- An AS-READY item of the NORMAL band whose parcels are made. -/
theorem parcelled_asReady {s : State} {o : Nat} {r : Order} {i : Item}
    (h : r.mode = .asReady ∧ i.band = .normal ∧ s.parcelContents i.object ≠ [])
    (hr : ParcelRoom s (s.parcelContents i.object).length) :
    ItemParcelled s o r i
      { s.withParcels o s.counters.group [] i.band (s.parcelContents i.object) .ready with
        dispatchQueue := s.dispatchQueue ++ List.range' s.counters.parcel (s.parcelContents i.object).length ++ [] } :=
  .asReady _ [] h.1 h.2.2 hr ⟨by simp, fun _ => rfl, fun hu => by simp [h.2.1] at hu⟩

/-- The serving of a backlog of one item. -/
theorem backlogServed_one {s v u : State} {o p : Nat} {r : Order} {i : Item}
    (h : backlog s = [(o, p)] ∧ s.orders.get o = some r ∧ r.items.find? (fun x => x.place == p) = some i)
    (hv : ItemParcelled s o r i v) (hu : GroupSettled v o u) : BacklogServed s u := by
  refine ⟨[], v, ?_, ?_⟩ <;> rw [h.1]
  · exact .makes _ _ _ _ _ _ _ _ _ h.2.1 h.2.2 hv (.done _)
  · exact .settles _ _ _ _ _ _ hu (.done _)

/-- The serving of a backlog of one AS-READY item of the NORMAL band. -/
theorem backlogServed_asReady {s : State} (o p : Nat) (r : Order) (i : Item)
    (h : backlog s = [(o, p)] ∧ s.orders.get o = some r ∧ r.items.find? (fun x => x.place == p) = some i)
    (hm : r.mode = .asReady ∧ i.band = .normal ∧ s.parcelContents i.object ≠ [])
    (hr : RoomShown s (s.parcelContents i.object).length) : ∃ u, BacklogServed s u :=
  ⟨_, backlogServed_one h (parcelled_asReady hm (parcelRoom_of hr)) (settled_asReady (r := r) h.2.1 hm.1)⟩

/-- A command that is a request of one kind. -/
abbrev Asks := Link → Half → List Byte → Instr

/-! ### What is well formed -/

/-- The commands that are requests. -/
def requests : List Asks :=
  [Instr.status, Instr.noticeAck, Instr.patronSet, Instr.patronPause, Instr.patronResume, Instr.patronClose,
    Instr.patronRead, Instr.wishAdd, Instr.wishDrop, Instr.wishMove, Instr.wishRead, Instr.titleSet, Instr.titleWithdraw,
    Instr.copysetAdd, Instr.loanRead, Instr.renew, Instr.orderCancel, Instr.newDay, Instr.serviceSet, Instr.storeClear,
    Instr.cartEnrol, Instr.cartForget, Instr.poolSet, Instr.bayOnline, Instr.bayOffline, Instr.bayRestore,
    Instr.dupRestart, Instr.work, Instr.writeDone, Instr.wipeDone, Instr.bayFault, Instr.bayRead, Instr.nextPull,
    Instr.pulled, Instr.notFound, Instr.setFound, Instr.nextParcel, Instr.packed, Instr.unpack, Instr.cartIn, Instr.volIn,
    Instr.copysetRead]

/-- A body one byte longer than a frame can carry (R165). -/
def longBody : List Byte := List.replicate 1025 0

theorem test_longBody_refused : requests.all (fun r => !(r .order 7 longBody).wellFormed) = true := by decide +kernel

theorem test_fullBody_taken : requests.all (fun r => (r .order 7 (List.replicate 1024 0)).wellFormed) = true := by
  decide +kernel

theorem test_longBody_busy_refused : (Instr.busy .order 0x20 7 longBody).wellFormed = false := by decide +kernel

theorem test_longBody_unknownKind_refused : (Instr.unknownKind .order 0x00 7 longBody).wellFormed = false := by
  decide +kernel

theorem test_knownKind_refused : (Instr.unknownKind .order Kind.status.code 7 []).wellFormed = false := by decide

theorem test_noCharacters_refused : (Instr.receiveError .order []).wellFormed = false := by decide

theorem test_bay32_deadline_refused : (Instr.deadlineExpiry 32).wellFormed = false := by decide

theorem test_bay32_rest_refused : (Instr.restExpiry 32).wellFormed = false := by decide

theorem test_bay31_taken : (Instr.deadlineExpiry 31).wellFormed = true ∧ (Instr.restExpiry 31).wellFormed = true := by decide

/-! ### The table's words, the step and the frames -/

theorem test_no_word : decodeTableWord 8 0 = none ∧ quiet.withFetchWord 8 0 = quiet := by decide

theorem test_step_order :
    sees (step { quiet with pending := [.minuteEvent, .selectionPass] }) (fun t => t.pending == [.selectionPass]) = true := by
  decide

/-- The check value of CRC-16 with polynomial 0x1021 from 0xFFFF over the digits 1 to 9 (R166). -/
theorem test_check : crc16 [0x31, 0x32, 0x33, 0x34, 0x35, 0x36, 0x37, 0x38, 0x39] = 0x29B1 := by decide +kernel

/-- The WORK frame of section 10.6, step 1, byte by byte. -/
theorem test_work_frame :
    (Instr.frame (.work .duplication 0x0101 [5])).map (fun e => e.2.bytes.take 7)
      = some [0xA5, 0x04, 0x00, Kind.work.code, 0x01, 0x01, 0x05] := by
  decide +kernel

/-- A NOTICE frame of POOL-LOW(2): kind 0xF1, tag 0, notice code 0x11 and class 2 (section 10.7). -/
theorem test_notice_frame :
    (OutFrame.notice (.poolLow .c2)).bytes.take 8 = [0xA5, 0x05, 0x00, 0xF1, 0x00, 0x00, 0x11, 0x02] := by
  decide +kernel

/-- Bodies of no byte and of the longest length. -/
theorem witness_FrameSpellingRoundTrip :
    (Instr.wellFormed (.storeClear .order 7 []) = true
        ∧ Instr.frame (.storeClear .order 7 []) = some (.order, ⟨Kind.storeClear.code, 7, []⟩))
      ∧ (Instr.wellFormed (.work .returns 0xFFFF (List.replicate 1024 0xA5)) = true
        ∧ Instr.frame (.work .returns 0xFFFF (List.replicate 1024 0xA5))
            = some (.returns, ⟨Kind.work.code, 0xFFFF, List.replicate 1024 0xA5⟩)) :=
  ⟨⟨rfl, rfl⟩, by decide +kernel, rfl⟩

theorem witness_ReceiverReadsWholeFrame :
    (⟨Kind.status.code, 7, []⟩ : RxFrame).body.length ≤ 1024
      ∧ (⟨Kind.status.code, 7, List.replicate 1024 0⟩ : RxFrame).body.length ≤ 1024 := by
  decide +kernel

/-! ### The ports -/

/-- The part with the Order port as given. -/
def onOrder (p : Port) : State := quiet.withPort .order p

/-- The characters behind the start byte of a STATUS frame whose check is not its CRC. -/
def badCheck : List Byte := [3, 0, 0x01, 7, 0, 0, 0]

theorem witness_ReceiveErrorsAndIdle :
    (quiet.restartAsserted = false ∧ (quiet.port .order).rx = .hunt)
      ∧ (leValue [0x02, 0x00] < 3 ∧ 1027 < leValue [0x04, 0x04])
      ∧ (3 ≤ lengthField badCheck ∧ lengthField badCheck ≤ 1027 ∧ badCheck.length = lengthField badCheck + 4
        ∧ judgeFrame badCheck = none)
      ∧ ((onOrder { idlePort with rx := .frame [3, 0] }).port .order).rx = .frame [3, 0]
      ∧ ((onOrder { idlePort with rx := .waitIdle true }).port .order).rx = .waitIdle true
      ∧ ((onOrder { idlePort with rx := .waitIdle false }).port .order).rx = .waitIdle false := by
  decide +kernel

theorem test_receiveError_counts :
    sees (exec (.receiveError .order [.data 0x00]) (onOrder { idlePort with badFrames := 65535 }))
      (fun t => (t.port .order).badFrames == 65535 && (t.port .order).rx == .waitIdle false) = true := by
  decide

theorem test_idle_ends_partial_frame :
    sees (exec (.frameSeparatingIdle .order) (onOrder { idlePort with rx := .frame [3] }))
      (fun t => (t.port .order).badFrames == 1 && (t.port .order).rx == .hunt) = true := by
  decide

/-- The Duplication port of section 10.6 at step 2: the WORK answer and the BUSY answer in the send list. -/
def afterBusy : State :=
  quiet.withPort .duplication { idlePort with
    inProgress := some ⟨0x0101, Kind.work.code⟩
    sendList := [.answer 0x0101 Kind.work.code ⟨.done, []⟩, .busy 0x0102 Kind.bayRead.code, .notice .workWaiting] }

theorem witness_FrameLeavesSendList :
    afterBusy.restartAsserted = false
      ∧ (afterBusy.port .duplication).sendList.head? = some (.answer 0x0101 Kind.work.code ⟨.done, []⟩)
      ∧ ((afterBusy.port .duplication).sendList.drop 1).head? = some (.busy 0x0102 Kind.bayRead.code)
      ∧ ((afterBusy.port .duplication).sendList.drop 2).head? = some (.notice .workWaiting)
      ∧ (afterBusy.port .order).sendList = [] := by
  decide

theorem test_answer_leaves :
    sees (exec (.frameSent .duplication) afterBusy) (fun t => (t.port .duplication).inProgress == none
      && (t.port .duplication).sendList == [.busy 0x0102 Kind.bayRead.code, .notice .workWaiting]) = true := by
  decide

/-- The Duplication link of section 10.6: bad-frame count 3, three kinds pending, three class-2 blanks free, bay 5 qualified. -/
def disturbed : State :=
  { quiet with
    carts := [(1, ⟨.c2, .blank, 0, 0⟩), (2, ⟨.c2, .blank, 0, 0⟩), (3, ⟨.c2, .blank, 0, 0⟩)]
    blank := ⟨[], [1, 2, 3], []⟩
    bays := quiet.bays.set 5 ⟨.service .qualified 0 1 .idle, 0, none⟩
    ports := quiet.ports.set .duplication
      { idlePort with badFrames := 3, notices := [.workWaiting, .poolLow .c2, .poolCritical .c2] } }

theorem witness_LinkRestart : disturbed.restartAsserted = false ∧ quiet.restartAsserted = false := by decide

/-- Section 10.6, step 9, with the class-1 and class-3 pools empty. -/
theorem test_linkRestart :
    sees (exec (.linkRestart .duplication) disturbed) (fun t => (t.port .duplication).badFrames == 0
      && (t.port .duplication).notices == [.poolLow .c1, .poolLow .c2, .poolLow .c3, .poolCritical .c1, .poolCritical .c2,
            .poolCritical .c3]) = true := by
  decide

theorem witness_RestartLineStopsThePart :
    ({ quiet with restartAsserted := true }).restartAsserted = true ∧ Instr.minuteEvent ≠ .restartLine
      ∧ Instr.minuteEvent ≠ .startUpScan := by
  decide

theorem test_restartLine :
    sees (exec .restartLine disturbed) (fun t => t.restartAsserted && (t.port .duplication).notices == []
      && t.blank == disturbed.blank) = true := by
  decide

/-- A send list with a place left, and one without. -/
def busyPort (n : Nat) : Port :=
  { idlePort with inProgress := some ⟨1, Kind.status.code⟩, sendList := List.replicate n (.busy 0 0) }

/-- The first clause's boundaries; the second clause is witnessed by `witness_BusyNewcomer_waits`, which needs a running pass. -/
theorem witness_BusyNewcomer :
    ((onOrder (busyPort 127)).restartAsserted = false ∧ ((onOrder (busyPort 127)).port .order).rx = .hunt
        ∧ ((onOrder (busyPort 127)).port .order).inProgress.isSome = true
        ∧ countOf (fun f => !f.isAnswer) ((onOrder (busyPort 127)).port .order).sendList < 128)
      ∧ (((onOrder (busyPort 128)).port .order).rx = .hunt
        ∧ ((onOrder (busyPort 128)).port .order).inProgress.isSome = true
        ∧ 128 ≤ countOf (fun f => !f.isAnswer) ((onOrder (busyPort 128)).port .order).sendList)
      ∧ (List.replicate 1024 (0 : Byte)).length ≤ 1024 := by
  decide +kernel

/-- Section 10.6, step 2. -/
theorem test_busy :
    sees (exec (.busy .duplication Kind.bayRead.code 0x0102 [5])
        (quiet.withPort .duplication { idlePort with inProgress := some ⟨0x0101, Kind.work.code⟩ }))
      (fun t => (t.port .duplication).sendList == [.busy 0x0102 Kind.bayRead.code]
        && (t.port .duplication).inProgress == some ⟨0x0101, Kind.work.code⟩) = true := by
  decide

theorem ready_quiet (l : Link) : Ready l quiet := by
  cases l <;> exact ⟨rfl, rfl, rfl⟩

theorem witness_PortChecks :
    (Ready .order quiet ∧ ([] : List Byte).length ≤ 1024 ∧ ∀ k : Kind, k.code ≠ 0x00)
      ∧ (Kind.work.role = some .duplication ∧ Link.duplication ≠ .order)
      ∧ (Kind.patronRead.role = some .order ∧ Kind.patronRead.widths = some [2] ∧ [(0 : Byte)].length ≠ [2].sum)
      ∧ (Kind.status.role = none ∧ Kind.status.widths = some [] ∧ [(0 : Byte)].length ≠ ([] : List Nat).sum)
      ∧ ((3 : Byte) ≠ 1 ∧ (3 : Byte) ≠ 2 ∧ (3 : Byte) ≠ 0) :=
  ⟨⟨ready_quiet _, by decide, by intro k; cases k <;> decide⟩, by decide, by decide, by decide, by decide⟩

/-- A LOAN-READ by number cut short; a TITLE-SET without its braille action, with an image cut short, with data behind KEEP, and
with a SET of no weight, of an odd byte and of 41 weights. -/
theorem witness_PortChecks_lengths :
    ((∀ n, ([1, 1, 1] : List Byte) ≠ 1 :: writeFields [3] [n]) ∧ ∀ n k, ([1, 1, 1] : List Byte) ≠ 2 :: writeFields [2, 3] [n, k])
      ∧ (∀ (t : Nat) (ia : ImageAction) (ba : BrailleAction), ([9, 0, 1, 5] : List Byte) = leBytes 2 t ++ ia.bytes ++ ba.bytes →
          ∃ ws, ba = .set ws ∧ (ws = [] ∨ 40 < ws.length))
      ∧ ([9, 0, 0, 0, 1] : List Byte) = leBytes 2 9 ++ ImageAction.keep.bytes ++ 0 :: [1]
      ∧ ([9, 0, 0, 1] : List Byte) = leBytes 2 9 ++ ImageAction.keep.bytes ++ 1 :: []
      ∧ ([9, 0, 0, 1, 5] : List Byte) = leBytes 2 9 ++ ImageAction.keep.bytes ++ 1 :: [5]
      ∧ (80 < (List.replicate 82 (1 : Byte)).length ∧ (List.replicate 82 (1 : Byte)).length % 2 ≠ 1) := by
  refine ⟨⟨by intro n; simp [writeFields, leBytes], by intro n k; simp⟩, ?_, by decide⟩
  intro t ia ba h
  have hl := congrArg List.length h
  cases ia <;> cases ba <;> simp [leBytes, ImageAction.bytes, BrailleAction.bytes, writeFields] at hl h

theorem test_unknownKind : answers .order (exec (.unknownKind .order 0x00 7 [1, 2]) quiet) .unknownKind [] = true := by decide

theorem test_wrongLink_before_badLength : answers .order (exec (.work .order 7 []) quiet) .wrongLink [] = true := by decide

theorem witness_StatusReportsAndClears : Ready .duplication disturbed := ⟨rfl, rfl, rfl⟩

/-- Section 10.6, step 5. -/
theorem test_status :
    answers .duplication (exec (.status .duplication 0x0103 []) disturbed) .done
        [3, 3, 0x04, 0, 0, 0x11, 2, 1, 0x12, 2, 1] = true
      ∧ sees (exec (.status .duplication 0x0103 []) disturbed) (fun t => (t.port .duplication).badFrames == 0
          && (t.port .duplication).notices == [.poolLow .c2, .poolCritical .c2]) = true := by
  decide

theorem witness_NoticeAck :
    (Ready .duplication disturbed ∧ Fits [1, 1] [0x11, 2] ∧ Fits [1, 1] [0x04, 0] ∧ Fits [1, 1] [0x05, 0])
      ∧ (Notice.poolLow .c2 ∈ kindsOfLink .duplication ∧ (Notice.poolLow .c2).code = 0x11 ∧ (Notice.poolLow .c2).cls = 2
        ∧ Notice.poolLow .c2 ∈ (disturbed.port .duplication).notices
        ∧ levelCondition disturbed (.poolLow .c2) = some true)
      ∧ (Notice.workWaiting.code = 0x04 ∧ Notice.workWaiting ∈ (disturbed.port .duplication).notices
        ∧ levelCondition disturbed .workWaiting ≠ some true)
      ∧ (Notice.bayResting.code = 0x05 ∧ Notice.bayResting ∉ (disturbed.port .duplication).notices)
      ∧ (∀ n ∈ kindsOfLink .duplication, n.code = 0x11 → n.cls ≠ 4) := by
  refine ⟨⟨⟨rfl, rfl, rfl⟩, ?_⟩, by decide⟩
  unfold Fits; decide

/-- Section 10.6, step 7. -/
theorem test_noticeAck_still :
    answers .duplication (exec (.noticeAck .duplication 0x0105 [0x11, 2]) disturbed) .still
      [3, 0x04, 0, 0, 0x11, 2, 1, 0x12, 2, 1] = true := by
  decide

theorem test_noticeAck_done :
    answers .duplication (exec (.noticeAck .duplication 7 [0x04, 0]) disturbed) .done [2, 0x11, 2, 1, 0x12, 2, 1] = true := by
  decide

/-! ### The scan -/

/-- The disturbed part with the restart line asserted, bay 5 wiping, a pull in the Mailroom's hands and a parcel being packed. -/
def stopped : State :=
  { disturbed with
    restartAsserted := true
    patrons := [(9, ⟨.active, 3, 2, .c1, .together, 2, [⟨8, .cartridge, .normal, 0⟩]⟩)]
    titles := [(7, ⟨false, none, some [100], [1, 2], []⟩)]
    copySets := [(1, ⟨7, .pulling 1 1⟩), (2, ⟨7, .inDispatch 2 1⟩)]
    carts := disturbed.carts ++ [(4, ⟨.c1, .wiping, 0, 0⟩)]
    orders := [(1, ⟨9, .together, .normal, [⟨1, .copySet 1, .normal, [⟨7, .braille, .normal, 0⟩], false, false⟩]⟩),
      (2, ⟨9, .together, .normal, [⟨1, .copySet 2, .normal, [⟨7, .braille, .normal, 0⟩], true, false⟩]⟩)]
    tasks := [(1, ⟨1, 1, .normal, .handed⟩)]
    pullQueue := [1]
    groups := [(1, ⟨.normal, [1], true⟩)]
    parcels := [(1, ⟨2, 1, .volumes 2 [1], .packing⟩)]
    dispatchQueue := [1]
    bays := disturbed.bays.set 5 ⟨.service .qualified 3 1 (.wiping 4 2), 1, none⟩ }

theorem witness_ScanRepeats :
    stopped.tablesWf = true ∧ stopped.restartAsserted = true ∧ ∃ t, exec .startUpScan stopped = .next t :=
  ⟨by decide, rfl, _, rfl⟩

theorem witness_ScanEffects :
    (stopped.restartAsserted = true ∧ stopped.virgin = false ∧ stopped.jobs.wf = true)
      ∧ ({ stopped with virgin := true }).restartAsserted = true ∧ ({ stopped with virgin := true }).virgin = true := by
  decide

/-- The taken-back wipe of R103: the cartridge is UNWIPED, the bay idle with ending TAKEN-BACK, its rests kept. -/
theorem test_scan_takes_back :
    sees (exec .startUpScan stopped) (fun t => t.unwiped == [4]
      && (t.bays[5]?.map (fun b => (b.condition, b.restsToday, b.last)))
        == some (.service .qualifying 0 0 .idle, 1, some ⟨.wipe, 4, .takenBack⟩)
      && t.passQueue == [9] && t.todayCount == 0 && t.reservedCap == 1) = true := by
  decide

theorem test_scan_virgin :
    sees (exec .startUpScan { stopped with virgin := true })
      (fun t => t.patrons == [] && t.settings == Settings.default && t.counters == Counters.initial) = true := by
  decide

/-! ### Patrons and wish lists -/

theorem fits_of {ws vs : List Nat} (h : List.Forall₂ (fun w v => v < 256 ^ w) ws vs) : Fits ws vs := h

/-- A wish entry added on day 0. -/
def wish (title : Nat) (f : Format) (b : Band) : WishEntry := ⟨title, f, b, 0⟩

/-- Patron 4410 of section 2.6. -/
def reader : Patron :=
  { state := .active, allowance := 3, limit := 2, cls := .c1, mode := .asReady, held := 3
    wishes := [wish 820 .cartridge .urgent, wish 1207 .braille .normal, wish 95 .cartridge .normal] }

/-- A patron that holds nothing and wants title 1207 in braille. -/
def waiter : Patron := ⟨.active, 2, 1, .c1, .together, 0, [wish 1207 .braille .normal]⟩

/-- A title with an image of 1,000 AU and no braille form. -/
def recorded : Title := ⟨false, some ⟨1000, 1⟩, none, [], []⟩

/-- The records of section 2.6, with a second patron on the waiting list of title 1207, one that is SUSPENDED for loan 4, one that
is PAUSED, and one that is CLOSING. -/
def morning : State :=
  { quiet with
    patrons := [(5, { waiter with state := .closing, held := 1, wishes := [] }), (6, { waiter with state := .paused 9 }),
      (77, waiter), (913, { waiter with state := .suspended }), (4410, reader)]
    titles := [(95, recorded), (300, recorded), (502, recorded),
      (610, ⟨false, none, some [100, 100], [271], [913]⟩), (820, recorded), (1033, ⟨false, none, some [100], [880], []⟩),
      (1207, ⟨false, none, some [90, 90], [], [2051, 4410, 77]⟩), (1500, { recorded with withdrawn := true })]
    copySets := [(271, ⟨610, .pulling 12044 1⟩), (880, ⟨1033, .onLoan 2⟩)]
    carts := [(900, ⟨.c1, .onLoan 1, 3, 0⟩)]
    orders := [(12044, ⟨4410, .asReady, .normal, [⟨1, .copySet 271, .normal, [wish 610 .braille .normal], false, false⟩]⟩)]
    tasks := [(1, ⟨271, 12044, .normal, .handed⟩)]
    pullQueue := [1]
    heldTotal := 4
    loans := [(1, ⟨4410, .cartridge 900 [502, 517], 28, 8, 0, .out⟩), (2, ⟨4410, .copySet 880, 42, 10, 1, .out⟩),
      (4, ⟨913, .cartridge 901 [95], 28, 0, 0, .overdue 20⟩)] }

theorem ready_morning (l : Link) : Ready l morning := by
  cases l <;> exact ⟨rfl, rfl, rfl⟩

theorem witness_PatronSet :
    (Ready .order morning ∧ Fits [2, 1, 1, 1, 1] [1, 0, 9, 0, 3] ∧ Fits [2, 1, 1, 1, 1] [16384, 12, 8, 3, 2]
        ∧ Fits [2, 1, 1, 1, 1] [0, 1, 1, 1, 1] ∧ Fits [2, 1, 1, 1, 1] [16385, 1, 1, 1, 1] ∧ ∀ n, NoPassFor n morning)
      ∧ (morning.patrons.get 1 = none ∧ morning.patrons.get 16384 = none ∧ 16384 < 16385)
      ∧ (morning.patrons.get 4410 = some reader ∧ reader.state ≠ .closing)
      ∧ ∃ q, morning.patrons.get 5 = some q ∧ q.state = .closing :=
  ⟨⟨ready_morning _, fits_of (by decide), fits_of (by decide), fits_of (by decide), fits_of (by decide), noPass rfl⟩, by decide,
    by decide, _, rfl, rfl⟩

theorem test_patronSet_clamps :
    answers .order (exec (.patronSet .order 7 [0x01, 0x00, 0, 9, 4, 3]) quiet) .clamped [1, 1, 1, 8, 3, 1, 0, 0, 0, 0, 0] = true := by
  decide

/-- R23: a raised allowance brings the patron to the pass queue; and R24: a patron on a blocked list stays on it at a new K. -/
theorem test_patronSet_releases :
    sees (exec (.patronSet .order 7 [0x3A, 0x11, 4, 2, 1, 2]) morning) (fun t => t.passQueue == [4410]
        && (t.patrons.get 4410).map Patron.allowance == some 4) = true
      ∧ sees (exec (.patronSet .order 7 [0x3A, 0x11, 4, 2, 3, 2]) { morning with blocked := ⟨[], [6, 4410], []⟩ })
        (fun t => (t.patrons.get 4410).map Patron.cls == some .c3 && t.blocked == ⟨[], [6, 4410], []⟩
          && t.stays == ⟨[], [4410], []⟩) = true := by
  decide

theorem witness_PatronPauseAndResume :
    (Ready .order morning ∧ (∀ n, NoPassFor n morning) ∧ morning.patrons.get 16384 = none
        ∧ morning.patrons.get 0 = none ∧ Fits [2, 2] [4410, 32767] ∧ Fits [2, 2] [6, 32768] ∧ morning.day < 65536)
      ∧ (morning.patrons.get 4410 = some reader ∧ reader.state = .active)
      ∧ (∃ p, morning.patrons.get 6 = some p ∧ p.state = .paused 9
        ∧ ¬ ∃ l loan e, (l, loan) ∈ morning.loans ∧ loan.patron = 6 ∧ loan.state = .overdue e ∧ morning.settings.suspendAfter ≤ e)
      ∧ (∃ p, morning.patrons.get 913 = some p ∧ p.state = .suspended)
      ∧ (∃ p, morning.patrons.get 5 = some p ∧ p.state = .closing)
      ∧ (∃ l loan e, (l, loan) ∈ ({ morning with loans := [(4, ⟨6, .cartridge 901 [95], 28, 0, 0, .overdue 14⟩)] }).loans
        ∧ loan.patron = 6 ∧ loan.state = .overdue e ∧ morning.settings.suspendAfter ≤ e) := by
  refine ⟨⟨ready_morning _, noPass rfl, by decide, by decide, fits_of (by decide), fits_of (by decide), by decide⟩, by decide,
    ⟨_, rfl, rfl, ?_⟩, ⟨_, rfl, rfl⟩,
    ⟨_, rfl, rfl⟩, 4, _, 14, .head _, rfl, rfl, by decide⟩
  rintro ⟨l, loan, e, hmem, hp, -, -⟩
  have : ∀ x ∈ morning.loans, x.2.patron ≠ 6 := by decide
  exact this _ hmem hp

/-- A pause length of 32,768 days is clamped to one (R25). -/
theorem test_pause_clamped :
    answers .order (exec (.patronPause .order 7 [0x3A, 0x11, 0x00, 0x80]) morning)
      .clamped [4410, 2, 3, 2, 1, 2, 3, 1, 3, 2, 1, 0] = true := by
  decide

theorem test_resume_late :
    sees (exec (.patronResume .order 7 [6, 0])
        { morning with loans := [(4, ⟨6, .cartridge 901 [95], 28, 0, 0, .overdue 14⟩)] })
      (fun t => (t.patrons.get 6).map Patron.state == some .suspended && (t.port .order).notices == [.patronSuspended]) = true := by
  decide

theorem witness_PatronClose :
    (Ready .order morning ∧ (∀ n, NoPassFor n morning) ∧ morning.patrons.get 77 = some waiter ∧ waiter.state ≠ .closing
        ∧ (∀ e ∈ morning.orders, e.2.patron ≠ 77) ∧ backlog morning = [])
      ∧ (16385 < 65536 ∧ morning.patrons.get 1 = none) ∧ (∃ p, morning.patrons.get 5 = some p ∧ p.state = .closing)
      ∧ (morning.patrons.get 4410 = some reader ∧ morning.orders.select (fun _ r => r.patron == 4410) = [12044]
        ∧ backlog morning = [] ∧ lastSent morning [12044] = [] ∧ CancelReady morning 4410 [12044]) :=
  ⟨⟨ready_morning _, noPass rfl, by decide⟩, by decide, ⟨_, rfl, rfl⟩, by decide, by decide, by decide, by decide,
    cancelReady_of (by decide +kernel) (by decide +kernel) (by decide +kernel) (by decide +kernel) (by decide +kernel)⟩

/-- R29: the wish is freed, the waiting-list place left, and a patron that holds nothing freed at once, with an answer that carries
H and its record. -/
theorem test_close_frees :
    sees (exec (.patronClose .order 7 [77, 0]) morning) (fun t => t.patrons.get 77 == none
        && (t.titles.get 1207).map Title.waiting == some [2051, 4410]) = true
      ∧ answers .order (exec (.patronClose .order 7 [77, 0]) morning) .done [0, 77, 4, 2, 1, 1, 1, 0, 0, 0, 0, 0] = true := by
  decide

/-- R120: the item whose set is PULLING is cancelled with its task freed and its set AVAILABLE, and the set is offered. -/
theorem test_close_cancels :
    sees (exec (.patronClose .order 7 [0x3A, 0x11]) morning) (fun t => t.tasks == [] && t.pendingOffers == [271]
      && (t.patrons.get 4410).map (fun p => (p.state, p.held, p.wishes)) == some (.closing, 2, [])
      && (t.copySets.get 271).map CopySet.state == some .available && t.passQueue == []) = true := by
  decide

theorem witness_PatronReadAndWishRead :
    (Ready .order morning ∧ (∀ n, NoPassFor n morning) ∧ (4410 < 65536 ∧ morning.patrons.get 4410 = some reader))
      ∧ (16384 < 65535 ∧ morning.patrons.get 16384 = none) ∧ (∃ p, morning.patrons.get 5 = some p ∧ p.state = .closing) :=
  ⟨⟨ready_morning _, noPass rfl, by decide⟩, by decide, _, rfl, rfl⟩

theorem test_patronRead :
    answers .order (exec (.patronRead .order 7 [0x3A, 0x11]) morning) .done [4410, 1, 3, 2, 1, 2, 3, 3, 2, 1, 0] = true := by
  decide

/-- Section 2.6: the 1207 entry shows waiting-list position 2 of 3. -/
theorem test_wishRead :
    answers .order (exec (.wishRead .order 7 [0x3A, 0x11]) morning) .done
      [820, 1, 1, 0, 1207, 2, 2, 0, 2, 3, 95, 1, 2, 0] = true := by
  decide

/-- R39, section 10.7: the widths of a BRAILLE entry's fields, the waiting-list position's one byte among them. -/
theorem test_wishRead_widths :
    (wishFields morning 4410 (wish 1207 .braille .normal)).map AnsField.width = [2, 1, 1, 2, 1, 2] := by
  decide

theorem witness_WishAdd :
    (Ready .order morning ∧ (∀ n, NoPassFor n morning) ∧ Fits [2, 2, 1, 1] [4410, 300, 1, 1] ∧ Fits [2, 2, 1, 1] [6, 610, 2, 0])
      ∧ (morning.patrons.get 4410 = some reader ∧ reader.state ≠ .closing ∧ morning.titles.get 300 = some recorded
        ∧ formatOfCode 1 = some .cartridge
        ∧ reader.wishes = [wish 820 .cartridge .urgent] ++ [wish 1207 .braille .normal, wish 95 .cartridge .normal]
        ∧ (∀ w ∈ [wish 820 .cartridge .urgent], w.band = .urgent)
        ∧ (∀ w ∈ [wish 1207 .braille .normal, wish 95 .cartridge .normal], w.band = .normal)
        ∧ (∀ w ∈ reader.wishes, ¬ (w.title = 300 ∧ w.format = .cartridge)) ∧ holdsTitle morning 4410 300 .cartridge = false
        ∧ recorded.withdrawn = false ∧ recorded.image ≠ none ∧ reader.wishes.length < 64 ∧ wishEntryCount morning < 262144)
      ∧ ∃ p r, morning.patrons.get 6 = some p ∧ p.state ≠ .closing ∧ morning.titles.get 610 = some r ∧ r.withdrawn = false
        ∧ formatOfCode 2 = some .braille ∧ r.braille ≠ none ∧ (∀ w ∈ p.wishes, w.band = .normal)
        ∧ (∀ w ∈ p.wishes, ¬ (w.title = 610 ∧ w.format = .braille)) ∧ holdsTitle morning 6 610 .braille = false :=
  ⟨⟨ready_morning _, noPass rfl, fits_of (by decide), fits_of (by decide)⟩, by decide, _, _, rfl, by decide, rfl, by decide⟩

/-- Section 2.6: 300 joins directly behind 820, position 2, length 4, and no append to the pass queue. -/
theorem test_wishAdd_urgent :
    answers .order (exec (.wishAdd .order 7 (writeFields [2, 2, 1, 1] [4410, 300, 1, 1])) morning) .done [2, 4] = true
      ∧ sees (exec (.wishAdd .order 7 (writeFields [2, 2, 1, 1] [4410, 300, 1, 1])) morning)
        (fun t => (t.patrons.get 4410).map (fun p => p.wishes.map WishEntry.title) == some [820, 300, 1207, 95]
          && t.passQueue == []) = true := by
  decide

/-- Section 2.6: title 610 is HELD by the set item of order 12044; title 1207 is in the list already. -/
theorem test_wishAdd_refused :
    answers .order (exec (.wishAdd .order 7 (writeFields [2, 2, 1, 1] [4410, 610, 2, 2])) morning) .held [] = true
      ∧ answers .order (exec (.wishAdd .order 7 (writeFields [2, 2, 1, 1] [4410, 1207, 2, 2])) morning) .already [] = true := by
  decide

/-- A patron whose wish list is full. -/
def fullReader : Patron := { reader with wishes := List.replicate 64 (wish 820 .cartridge .urgent) }

/-- The morning with a full wish list. -/
def fullMorning : State := { morning with patrons := [(4410, fullReader)] }

/-- 4,096 patrons with 64 entries each hold every wish entry record (R4). -/
def crowd : List (Nat × Patron) := (List.range' 1 4096).map (fun n => (n, fullReader))

theorem crowd_entries : sumOf (fun e : Nat × Patron => e.2.wishes.length) crowd = 262144 := by
  decide +kernel

theorem witness_WishAddRefusals :
    (Ready .order morning ∧ Ready .order fullMorning ∧ Fits [2, 2, 1, 1] [4410, 60000, 2, 255] ∧ (∀ n, NoPassFor n morning)
        ∧ NoPassFor 4410 fullMorning)
      ∧ (Fits [2, 2, 1, 1] [0, 0, 0, 0] ∧ Fits [2, 2, 1, 1] [16385, 60001, 3, 3] ∧ morning.patrons.get 16384 = none
        ∧ morning.titles.get 60000 = none ∧ ∃ p, morning.patrons.get 5 = some p ∧ p.state = .closing)
      ∧ (∃ w ∈ reader.wishes, w.title = 1207 ∧ w.format = .braille)
      ∧ (holdsTitle morning 4410 610 .braille = true ∧ ¬ ∃ w ∈ reader.wishes, w.title = 610 ∧ w.format = .braille)
      ∧ (morning.titles.get 1500 = some { recorded with withdrawn := true } ∧ holdsTitle morning 4410 1500 .cartridge = false)
      ∧ (morning.titles.get 300 = some recorded ∧ recorded.braille.isSome = false ∧ recorded.image.isSome = true
        ∧ holdsTitle morning 4410 300 .braille = false ∧ recorded.withdrawn = false)
      ∧ (fullMorning.patrons.get 4410 = some fullReader ∧ 64 ≤ fullReader.wishes.length
        ∧ holdsTitle fullMorning 4410 300 .cartridge = false)
      ∧ 262144 ≤ sumOf (fun e : Nat × Patron => e.2.wishes.length) crowd :=
  ⟨⟨ready_morning _, ⟨rfl, rfl, rfl⟩, fits_of (by decide), noPass rfl, noPass rfl _⟩,
    ⟨fits_of (by decide), fits_of (by decide), by decide, by decide, _, rfl, rfl⟩, by decide, by decide, by decide, by decide,
    by decide, crowd_entries.ge⟩

theorem witness_WishDrop :
    (Ready .order morning ∧ (∀ n, NoPassFor n morning) ∧ Fits [2, 2, 1] [16385, 60001, 0] ∧ Fits [2, 2, 1] [5, 1, 3]
        ∧ morning.patrons.get 0 = none ∧ (∃ p, morning.patrons.get 5 = some p ∧ p.state = .closing)
        ∧ Fits [2, 2, 1] [4410, 1207, 2] ∧ morning.patrons.get 4410 = some reader ∧ reader.state ≠ .closing
        ∧ formatOfCode 2 = some .braille
        ∧ reader.wishes = [wish 820 .cartridge .urgent] ++ wish 1207 .braille .normal :: [wish 95 .cartridge .normal]
        ∧ (∀ x ∈ [wish 820 .cartridge .urgent], ¬ (x.title = 1207 ∧ x.format = .braille)))
      ∧ (∀ x ∈ reader.wishes, ¬ (x.title = 610 ∧ x.format = .braille)) :=
  ⟨⟨ready_morning _, noPass rfl, fits_of (by decide), fits_of (by decide), by decide, ⟨_, rfl, rfl⟩, fits_of (by decide), by decide⟩,
    by decide⟩

theorem test_wishDrop :
    answers .order (exec (.wishDrop .order 7 (writeFields [2, 2, 1] [4410, 1207, 2])) morning) .done [2] = true
      ∧ sees (exec (.wishDrop .order 7 (writeFields [2, 2, 1] [4410, 1207, 2])) morning)
        (fun t => (t.titles.get 1207).map Title.waiting == some [2051, 77]) = true := by
  decide

theorem witness_WishMove :
    (Ready .order morning ∧ (∀ n, NoPassFor n morning) ∧ Fits [2, 2, 1, 1, 1] [16385, 60001, 0, 3, 0]
        ∧ morning.patrons.get 0 = none ∧ (∃ p, morning.patrons.get 5 = some p ∧ p.state = .closing)
        ∧ (∀ x ∈ reader.wishes, ¬ (x.title = 610 ∧ x.format = .braille))
        ∧ Fits [2, 2, 1, 1, 1] [4410, 95, 1, 1, 1] ∧ Fits [2, 2, 1, 1, 1] [4410, 95, 1, 2, 255])
      ∧ morning.patrons.get 4410 = some reader ∧ reader.state ≠ .closing ∧ formatOfCode 1 = some .cartridge
      ∧ reader.wishes = [wish 820 .cartridge .urgent, wish 1207 .braille .normal] ++ wish 95 .cartridge .normal :: []
      ∧ (∀ x ∈ [wish 820 .cartridge .urgent, wish 1207 .braille .normal], ¬ (x.title = 95 ∧ x.format = .cartridge))
      ∧ [wish 820 .cartridge .urgent, wish 1207 .braille .normal] ++ []
          = [wish 820 .cartridge .urgent] ++ [wish 1207 .braille .normal] :=
  ⟨⟨ready_morning _, noPass rfl, fits_of (by decide), by decide, ⟨_, rfl, rfl⟩, by decide, fits_of (by decide), fits_of (by decide)⟩,
    by decide⟩

/-- Section 2.6: an URGENT entry to position 1; and a NORMAL one clamped behind the URGENT band. -/
theorem test_wishMove :
    sees (exec (.wishMove .order 7 (writeFields [2, 2, 1, 1, 1] [4410, 95, 1, 1, 1])) morning)
        (fun t => (t.patrons.get 4410).map (fun p => p.wishes.map (fun w => (w.title, w.band)))
          == some [(95, .urgent), (820, .urgent), (1207, .normal)]) = true
      ∧ answers .order (exec (.wishMove .order 7 (writeFields [2, 2, 1, 1, 1] [4410, 1207, 2, 2, 1])) morning) .clamped [2, 3]
        = true := by
  decide

/-- Section 2.6, the last step: the drop of the set item of title 610. -/
theorem test_notFound_restores :
    sees (exec (.notFound .mailroom 7 [1, 0, 0]) morning) (fun t => t.orders == [] && t.heldTotal == 3
      && (t.patrons.get 4410).map (fun p => (p.held, p.wishes.map WishEntry.title)) == some (2, [820, 610, 1207, 95])
      && (t.titles.get 610).map Title.waiting == some [4410, 913] && t.passQueue == [4410]
      && (t.copySets.get 271).map CopySet.state == some (.incomplete [1, 2])
      && (t.port .order).notices == [.itemDropped]) = true := by
  decide

/-! ### Catalog, settings and store -/

/-- A write job of class 2 for title 95 of an order of patron 9. -/
def job (stamp : Nat) (st : JobState) (attempts : Nat) : Job := ⟨stamp, 1, 9, .c2, [⟨95, 1, 1004⟩], .normal, st, attempts⟩

/-- The morning with a job that copies title 95, and with set 880 shelved. -/
def catalog : State :=
  { morning with
    jobs := [(40, job 1 .queued 0)]
    copySets := [(1, ⟨1033, .available⟩), (2, ⟨610, .onLoan 2⟩)]
    titles := [(95, recorded), (300, recorded), (610, ⟨false, none, some [100, 100], [2], [913]⟩),
      (1033, ⟨false, none, some [100], [1], []⟩), (1500, { recorded with withdrawn := true })] }

theorem ready_catalog (l : Link) : Ready l catalog := by
  cases l <;> exact ⟨rfl, rfl, rfl⟩

theorem witness_TitleSet :
    Ready .order catalog
      ∧ ((∃ e ∈ catalog.jobs, ∃ x ∈ e.2.titles, x.title = 95)
        ∧ recorded.image ≠ some ⟨15288, 255⟩ ∧ catalog.titles.get 95 = some recorded)
      ∧ (∃ e ∈ catalog.copySets, e.2.title = 610 ∧ e.2.state ≠ .available)
      ∧ (catalog.titles.get 60000 = none ∧ catalog.titles.get 1 = none)
      ∧ (0 < 65536 ∧ 60001 < 65536 ∧ 15288 < 15289 ∧ 15289 < 65536)
      ∧ (∀ size rev, ImageAction.set 15288 255 = .set size rev → size ≤ 15288 ∧ rev < 256)
      ∧ (∀ ws, BrailleAction.set (List.replicate 40 65535) = .set ws →
          1 ≤ ws.length ∧ ws.length ≤ 40 ∧ ∀ w ∈ ws, w < 65536)
      ∧ (∀ ws, BrailleAction.set [0] = .set ws → 1 ≤ ws.length ∧ ws.length ≤ 40 ∧ ∀ w ∈ ws, w < 65536) :=
  ⟨ready_catalog _, by decide, by decide, by decide, by decide, by rintro _ _ ⟨⟩; decide, by rintro _ ⟨⟩; decide,
    by rintro _ ⟨⟩; decide⟩

/-- Size 0, revision 0 and weights outside 10 to 300 are brought into range (R12). -/
theorem test_titleSet_clamps :
    answers .order (exec (.titleSet .order 7 [9, 0, 1, 0, 0, 0, 1, 9, 0, 0x2D, 1]) quiet) .clamped
        [9, 0, 1, 1, 2, 10, 300] = true
      ∧ sees (exec (.titleSet .order 7 [9, 0, 1, 0, 0, 0, 1, 9, 0, 0x2D, 1]) quiet)
        (fun t => t.titles.get 9 == some ⟨false, some ⟨1, 1⟩, some [10, 300], [], []⟩) = true := by
  decide

/-- S = 15,289 is TOO-LARGE (section 3.8, case 3). -/
theorem test_titleSet_tooLarge :
    answers .order (exec (.titleSet .order 7 [9, 0, 1, 0xB9, 0x3B, 1, 0]) quiet) .tooLarge [] = true := by decide

theorem witness_TitleWithdrawAndCopysetAdd :
    (Ready .order catalog ∧ 65535 < 65536 ∧ catalog.titles.get 65535 = none)
      ∧ (catalog.titles.get 1500 = some { recorded with withdrawn := true })
      ∧ (catalog.titles.get 300 = some recorded ∧ recorded.withdrawn = false ∧ recorded.braille = none)
      ∧ (∃ r, catalog.titles.get 610 = some r ∧ r.braille ≠ none ∧ r.withdrawn = false ∧ r.copySets.length < 8
        ∧ catalog.copySets.length < 32768)
      ∧ (let full : Title := ⟨false, none, some [100], [1, 2, 3, 4, 5, 6, 7, 8], []⟩;
        let s : State := { quiet with titles := [(9, full), (10, { full with withdrawn := true })] };
        Ready .order s ∧ s.titles.get 9 = some full ∧ full.braille ≠ none ∧ full.withdrawn = false ∧ 8 ≤ full.copySets.length
          ∧ s.titles.get 10 = some { full with withdrawn := true })
      ∧ 32768 ≤ ((List.range' 1 32768).map (fun n => (n, (⟨9, .available⟩ : CopySet)))).length :=
  ⟨⟨ready_catalog _, by decide⟩, by decide, by decide, ⟨_, rfl, by decide⟩, ⟨⟨rfl, rfl, rfl⟩, by decide⟩, by simp⟩

theorem test_titleWithdraw :
    sees (exec (.titleWithdraw .order 7 [0x2C, 0x01]) catalog)
      (fun t => t.titles.get 300 == some { recorded with withdrawn := true }) = true := by
  decide

/-- The new set is numbered one above the last and offered to title 610's waiting list (R15, R45). -/
theorem test_copysetAdd :
    answers .order (exec (.copysetAdd .order 7 [0x62, 0x02]) catalog) .done [3] = true
      ∧ sees (exec (.copysetAdd .order 7 [0x62, 0x02]) catalog) (fun t => t.copySets.get 3 == some ⟨610, .available⟩
          && t.pendingOffers == [3] && (t.titles.get 610).map Title.copySets == some [2, 3]) = true := by
  decide

theorem witness_CopysetReadAndBayRead :
    (Ready .returns morning ∧ morning.copySets.get 271 = some ⟨610, .pulling 12044 1⟩ ∧ morning.copySets.get 0 = none)
      ∧ (Ready .duplication morning ∧ 31 < 32 ∧ morning.bays[31]? = some Bay.initial ∧ 32 ≤ 255) :=
  ⟨⟨ready_morning _, by decide⟩, ready_morning _, by decide⟩

theorem test_copysetRead :
    answers .returns (exec (.copysetRead .returns 7 [0x70, 0x03]) morning) .done [880, 1033, 1, 5, 2, 4410, 1] = true := by
  decide

theorem witness_ServiceSet :
    (Ready .order quiet ∧ Fits [1, 2] [255, 65535] ∧ Fits [1, 2] [4, 120] ∧ 2 ≤ quiet.settings.lostAfter
        ∧ quiet.settings.suspendAfter ≤ 254)
      ∧ (let s : State := { morning with
            patrons := [(77, waiter), (913, { waiter with state := .suspended })]
            loans := [(1, ⟨77, .cartridge 9 [95], 28, 0, 0, .overdue 3⟩)] };
        Ready .order s ∧ Fits [1, 2] [4, 3] ∧ 2 ≤ s.settings.lostAfter ∧ s.patrons.wf = true) :=
  ⟨⟨ready_quiet _, fits_of (by decide), fits_of (by decide), by decide⟩, ⟨rfl, rfl, rfl⟩, fits_of (by decide), by decide⟩

/-- Suspend-after is kept below lost-after: 120 is brought to 89 while lost-after is 90 (R17). -/
theorem test_serviceSet_clamps :
    sees (exec (.serviceSet .order 7 [4, 120, 0]) quiet) (fun t => t.settings.suspendAfter == 89) = true := by
  decide

/-- A lowered suspend-after suspends an ACTIVE patron whose loan it reaches (R18, R27). -/
theorem test_serviceSet_suspends :
    sees (exec (.serviceSet .order 7 [4, 3, 0])
        { morning with patrons := [(77, waiter)], loans := [(1, ⟨77, .cartridge 9 [95], 28, 0, 0, .overdue 3⟩)] })
      (fun t => (t.patrons.get 77).map Patron.state == some .suspended && (t.port .order).notices == [.patronSuspended]) = true := by
  decide

theorem witness_StoreClear :
    (Ready .order catalog ∧ ¬ ((∃ b ∈ catalog.bays, b.activity ≠ .idle) ∨ (∃ e ∈ catalog.parcels, e.2.state = .packing)
        ∨ ∃ e ∈ ({ catalog with tasks := [] }).tasks, e.2.state = .handed))
      ∧ (Ready .order morning ∧ ∃ e ∈ morning.tasks, e.2.state = .handed) :=
  ⟨⟨ready_catalog _, by decide⟩, ready_morning _, by decide⟩

theorem test_storeClear :
    sees (exec (.storeClear .order 7 []) { catalog with tasks := [] }) (fun t => t.patrons == [] && t.titles == []
      && t.copySets == [] && (t.port .order).notices == [.poolCritical .c1, .poolCritical .c2, .poolCritical .c3]) = true := by
  decide

theorem test_storeClear_refused : answers .order (exec (.storeClear .order 7 []) morning) .state [] = true := by decide

/-! ### Cartridges, pools and bays -/

/-- The rack of section 5.9: bay 6 as given, c500 of class 1 UNWIPED, three class-2 blanks, jobs 40 and 41 of class 2 QUEUED. -/
def rack (b : Bay) : State :=
  { quiet with
    patrons := [(9, ⟨.active, 3, 1, .c2, .together, 2, []⟩)]
    titles := [(95, recorded)]
    carts := [(500, ⟨.c1, .unwiped, 7, 0⟩), (610, ⟨.c2, .blank, 3, 0⟩), (611, ⟨.c2, .blank, 65535, 0⟩), (612, ⟨.c2, .blank, 0, 0⟩)]
    jobs := [(40, job 1 .queued 0), (41, job 2 .queued 0)]
    orders := [(1, ⟨9, .together, .normal, [⟨1, .job 40, .normal, [wish 95 .cartridge .normal], false, false⟩,
      ⟨2, .job 41, .normal, [wish 95 .cartridge .normal], false, false⟩]⟩)]
    heldTotal := 2
    counters := { Counters.initial with job := 42, order := 2, stamp := 2 }
    blank := ⟨[], [610, 611, 612], []⟩
    reserved := ⟨0, 2, 0⟩
    unwiped := [500]
    jobQueue := [40, 41]
    bays := quiet.bays.set 6 b }

/-- A bay in SERVICE. -/
def serving (st : Standing) (streak strikes : Nat) (a : Activity) (rests : Nat) : Bay :=
  ⟨.service st streak strikes a, rests, none⟩

/-- Bay 6 idle and QUALIFYING. -/
def idleRack : State := rack (serving .qualifying 0 0 .idle 0)

/-- The rack with bay 6 writing job 41 on c611, as at step 6 of section 5.9, with minutes left. -/
def writing (st : Standing) (streak strikes rests minutes attempts : Nat) : State :=
  { rack (serving st streak strikes (.writing 41 611 minutes) rests) with
    carts := [(500, ⟨.c1, .blank, 8, 0⟩), (611, ⟨.c2, .loaded 41, 4, 0⟩), (612, ⟨.c2, .blank, 0, 0⟩)]
    jobs := [(41, job 2 (.assigned 6 611) attempts)]
    orders := [(1, ⟨9, .together, .normal, [⟨2, .job 41, .normal, [wish 95 .cartridge .normal], false, false⟩]⟩)]
    blank := ⟨[500], [612], []⟩, reserved := ⟨0, 0, 0⟩, unwiped := [], jobQueue := [] }

/-- A cartridge item that is WRITTEN. -/
def written (place serial : Nat) : Item := ⟨place, .cart serial, .normal, [wish place .cartridge .normal], true, false⟩

/-- The same write with its job CANCEL-PENDING, patron 9 on blocked list 2 and class 2 marked. -/
def writingCancelled (st : Standing) (streak strikes rests minutes : Nat) : State :=
  { writing st streak strikes rests minutes 0 with
    jobs := [(41, job 2 (.cancelPending 6 611) 0)], orders := [], blocked := ⟨[], [9], []⟩, marks := ⟨false, true, false⟩ }

/-- The rack with bay 6 wiping c500, with minutes left, a write count and a fault count. -/
def wiping (st : Standing) (streak strikes rests minutes writes faults : Nat) : State :=
  { rack (serving st streak strikes (.wiping 500 minutes) rests) with
    carts := [(500, ⟨.c1, .wiping, writes, faults⟩), (610, ⟨.c2, .blank, 3, 0⟩), (611, ⟨.c2, .blank, 0, 0⟩)]
    blank := ⟨[], [610, 611], []⟩, unwiped := [] }

theorem ready_rack (b : Bay) (l : Link) : Ready l (rack b) := by
  cases l <;> exact ⟨rfl, rfl, rfl⟩

theorem ready_writing (st : Standing) (a b c d e : Nat) (l : Link) : Ready l (writing st a b c d e) := by
  cases l <;> exact ⟨rfl, rfl, rfl⟩

theorem ready_wiping (st : Standing) (a b c d e f : Nat) (l : Link) : Ready l (wiping st a b c d e f) := by
  cases l <;> exact ⟨rfl, rfl, rfl⟩

theorem witness_CartEnrolAndForget :
    (Ready .duplication idleRack ∧ Fits [4, 1] [0, 1] ∧ Fits [4, 1] [4294967295, 3] ∧ Fits [4, 1] [500, 4])
      ∧ (clsOfNat 4 = none ∧ clsOfNat 3 = some .c3 ∧ idleRack.carts.get 4294967295 = none ∧ idleRack.carts.length < 32768)
      ∧ (idleRack.carts.get 500 = some ⟨.c1, .unwiped, 7, 0⟩)
      ∧ 32768 ≤ ((List.range' 1 32768).map (fun n => (n, (⟨.c1, .lost, 0, 0⟩ : Cart)))).length
      ∧ (({ quiet with carts := [(5, ⟨.c1, .lost, 0, 0⟩)] }).carts.get 5 = some ⟨.c1, .lost, 0, 0⟩) :=
  ⟨⟨ready_rack _ _, fits_of (by decide), fits_of (by decide), fits_of (by decide)⟩, by decide, by decide, by simp, by decide⟩

/-- An enrolment in an empty library makes the UNWIPED list not empty: WORK-WAITING, its frame behind the answer (R65, R67, R86). -/
theorem test_cartEnrol :
    sees (exec (.cartEnrol .duplication 7 [1, 0, 0, 0, 2]) quiet) (fun t => t.carts == [(1, ⟨.c2, .unwiped, 0, 0⟩)]
      && t.unwiped == [1]
      && (t.port .duplication).sendList == [.answer 7 Kind.cartEnrol.code ⟨.done, []⟩, .notice .workWaiting]) = true := by
  decide

theorem test_cartForget :
    answers .duplication (exec (.cartForget .duplication 7 [0xF4, 1, 0, 0]) idleRack) .state [] = true
      ∧ sees (exec (.cartForget .duplication 7 [5, 0, 0, 0]) { quiet with carts := [(5, ⟨.c1, .retired, 0, 3⟩)] })
        (fun t => t.carts == []) = true := by
  decide

/-- The pool of section 4.8 at step 9: class 2 with two blanks and one reserved, warn level 4 and critical level 2, patron 9
blocked on class 2. -/
def lowPool : State :=
  { idleRack with
    blank := ⟨[], [610, 611], []⟩, reserved := ⟨0, 1, 0⟩, blocked := ⟨[], [9], []⟩
    settings := { Settings.default with warn := ⟨40, 4, 40⟩, critical := ⟨10, 2, 10⟩ } }

theorem witness_PoolSet :
    (Ready .duplication lowPool ∧ Fits [1, 2, 2] [2, 4, 0] ∧ Fits [1, 2, 2] [3, 65535, 65535] ∧ Fits [1, 2, 2] [1, 0, 0]
        ∧ Fits [1, 2, 2] [0, 1, 0] ∧ Fits [1, 2, 2] [4, 1, 0])
      ∧ clsOfNat 2 = some .c2 ∧ clsOfNat 3 = some .c3 ∧ clsOfNat 1 = some .c1 :=
  ⟨⟨⟨rfl, rfl, rfl⟩, fits_of (by decide), fits_of (by decide), fits_of (by decide), fits_of (by decide),
    fits_of (by decide)⟩, by decide⟩

/-- Section 4.8, step 10: the free blank comes to stand above the new critical level 0, and patron 9 joins the pass queue; it no
longer stays on the list (R24). -/
theorem test_poolSet_releases :
    sees (exec (.poolSet .duplication 7 [2, 4, 0, 0, 0]) { lowPool with stays := ⟨[], [9], []⟩ })
      (fun t => t.passQueue == [9] && t.blocked.c2 == [] && t.stays.c2 == []
      && t.settings.warn.c2 == 4 && t.settings.critical.c2 == 0) = true := by
  decide

/-- A warn level of 0 becomes 1, and a critical level at or above it is brought below it (R76). -/
theorem test_poolSet_clamps :
    sees (exec (.poolSet .duplication 7 [3, 0, 0, 9, 0]) quiet)
      (fun t => t.settings.warn.c3 == 1 && t.settings.critical.c3 == 0) = true := by
  decide

theorem witness_BayOnlineAndRestore :
    (Ready .duplication (rack Bay.initial) ∧ (rack Bay.initial).bays[6]? = some Bay.initial ∧ Bay.initial.condition = .offline)
      ∧ (idleRack.bays[6]? = some (serving .qualifying 0 0 .idle 0))
      ∧ ((rack ⟨.resting 3, 1, none⟩).bays[6]? = some ⟨.resting 3, 1, none⟩)
      ∧ ((rack ⟨.failed, 2, none⟩).bays[6]? = some ⟨.failed, 2, none⟩) ∧ quiet.bays[31]? = some Bay.initial :=
  ⟨⟨ready_rack _ _, by decide⟩, by decide, by decide, by decide, by decide⟩

/-- Section 5.9, step 1. -/
theorem test_bayOnline :
    sees (exec (.bayOnline .duplication 7 [6]) (rack Bay.initial))
      (fun t => t.bays[6]? == some (serving .qualifying 0 0 .idle 0)) = true := by
  decide

/-- Section 5.10, step 6. -/
theorem test_bayRestore :
    sees (exec (.bayRestore .duplication 7 [6]) (rack ⟨.failed, 2, none⟩))
      (fun t => t.bays[6]? == some (serving .qualifying 0 0 .idle 0)) = true := by
  decide

theorem witness_BayChecks :
    (Ready .duplication quiet ∧ Fits [1, 4, 1] [32, 0, 1] ∧ Fits [1, 4, 1] [255, 4294967295, 0])
      ∧ (quiet.bays[31]? = some Bay.initial ∧ Bay.initial.condition = .offline) :=
  ⟨⟨ready_quiet _, fits_of (by decide), fits_of (by decide)⟩, by decide⟩

theorem test_bay32 : answers .duplication (exec (.bayRead .duplication 7 [32]) quiet) .noSuch [] = true := by decide

/-- A bay that was never brought online, with the standing RUNNING, no queue and 32 bays OFFLINE (R81). -/
theorem test_bayRead :
    answers .duplication (exec (.bayRead .duplication 7 [31]) quiet) .done [1, 1, 0, 1, 0, 32, 0, 0, 0] = true := by
  decide

theorem witness_BayOffline :
    (Ready .duplication idleRack ∧ idleRack.bays[6]? = some (serving .qualifying 0 0 .idle 0)
        ∧ (serving .qualifying 0 0 .idle 0).condition ≠ .offline ∧ (serving .qualifying 0 0 .idle 0).activity = .idle)
      ∧ ((wiping .qualified 3 1 0 5 7 0).bays[6]? = some (serving .qualified 3 1 (.wiping 500 5) 0)
        ∧ (serving .qualified 3 1 (.wiping 500 5) 0).activity = .wiping 500 5
        ∧ (wiping .qualified 3 1 0 5 7 0).carts.get 500 = some ⟨.c1, .wiping, 7, 0⟩)
      ∧ ((writing .qualified 3 1 0 5 2).bays[6]? = some (serving .qualified 3 1 (.writing 41 611 5) 0)
        ∧ (writing .qualified 3 1 0 5 2).jobs.get 41 = some (job 2 (.assigned 6 611) 2)
        ∧ (writing .qualified 3 1 0 5 2).reserved.get .c2 < ((writing .qualified 3 1 0 5 2).blank.get .c2).length)
      ∧ (({ writing .qualified 3 1 0 5 2 with blank := ⟨[], [], []⟩ }).blank.get .c2).length ≤ 0
      ∧ (writingCancelled .qualified 3 1 0 5).jobs.get 41 = some (job 2 (.cancelPending 6 611) 0) :=
  ⟨⟨ready_rack _ _, by decide⟩, by decide, by decide, by decide, by decide⟩

/-- The job of an abandoned write reserves a new blank with its attempts as they were, and the cartridge is UNWIPED (R83). -/
theorem test_bayOffline_abandons :
    sees (exec (.bayOffline .duplication 7 [6]) (writing .qualified 3 1 0 5 2)) (fun t => t.jobQueue == [41]
      && t.reserved.c2 == 1 && t.unwiped == [611] && t.jobs == [(41, job 2 .queued 2)]
      && t.bays[6]? == some ⟨.offline, 0, some ⟨.write 41, 611, .abandoned⟩⟩) = true := by
  decide

/-- The rack of section 5.10, halted, with bay 6 as given and patron 9 on blocked list 3. -/
def halted (b : Bay) : State := { rack b with standing := .halted, blocked := ⟨[], [], [9]⟩ }

theorem witness_DupRestart :
    (Ready .duplication (halted (serving .qualifying 0 0 .idle 0))
        ∧ (halted (serving .qualifying 0 0 .idle 0)).standing = .halted
        ∧ ∃ b ∈ (halted (serving .qualifying 0 0 .idle 0)).bays, ∃ st streak strikes a,
            b.condition = .service st streak strikes a)
      ∧ (¬ ∃ b ∈ (halted Bay.initial).bays, ∃ st streak strikes a, b.condition = .service st streak strikes a)
      ∧ idleRack.standing = .running := by
  refine ⟨⟨⟨rfl, rfl, rfl⟩, rfl, serving .qualifying 0 0 .idle 0, by decide, _, _, _, _, rfl⟩, ?_, rfl⟩
  rintro ⟨b, hb, st, streak, strikes, a, h⟩
  have : ∀ x ∈ (halted Bay.initial).bays, x.condition = .offline := by decide
  simp [this b hb] at h

/-- Section 5.10, steps 5 and 8. -/
theorem test_dupRestart :
    answers .duplication (exec (.dupRestart .duplication 7 []) (halted ⟨.failed, 2, none⟩)) .state [] = true
      ∧ sees (exec (.dupRestart .duplication 7 []) (halted (serving .qualifying 0 0 (.wiping 500 3) 0)))
        (fun t => t.standing == .running && t.passQueue == [9] && t.blocked == ⟨[], [], []⟩) = true := by
  decide

theorem witness_WorkArbiter :
    (Ready .duplication idleRack ∧ idleRack.bays[6]? = some (serving .qualifying 0 0 .idle 0)
        ∧ idleRack.unwiped = [] ++ 500 :: [] ∧ idleRack.carts.get 500 = some ⟨.c1, .unwiped, 7, 0⟩
        ∧ (idleRack.blank.get .c1).length - idleRack.reserved.get .c1 ≤ idleRack.settings.warn.get .c1)
      ∧ (({ idleRack with unwiped := [] }).standing = .running ∧ idleRack.jobQueue = 40 :: [41]
        ∧ idleRack.jobs.get 40 = some (job 1 .queued 0) ∧ idleRack.blank.get .c2 = 610 :: [611, 612]
        ∧ idleRack.carts.get 610 = some ⟨.c2, .blank, 3, 0⟩)
      ∧ (¬ ∃ r, ({ idleRack with blank := ⟨List.range' 1 41, [], []⟩ }).carts.get 500 = some r
          ∧ ((({ idleRack with blank := ⟨List.range' 1 41, [], []⟩ }).blank.get r.cls).length
              - idleRack.reserved.get r.cls ≤ idleRack.settings.warn.get r.cls ∨ idleRack.starved.get r.cls ≠ []))
      ∧ (({ quiet with bays := idleRack.bays }).jobQueue = [] ∧ ({ quiet with bays := idleRack.bays }).unwiped = []
        ∧ Ready .duplication { quiet with bays := idleRack.bays })
      ∧ ((rack ⟨.resting 3, 1, none⟩).bays[6]? = some ⟨.resting 3, 1, none⟩
        ∧ (rack ⟨.failed, 2, none⟩).bays[6]? = some ⟨.failed, 2, none⟩
        ∧ (serving .qualified 3 1 (.writing 41 611 5) 0).activity ≠ .idle
        ∧ (serving .qualified 3 1 (.wiping 500 0) 0).activity ≠ .idle) := by
  refine ⟨⟨ready_rack _ _, by decide⟩, by decide, ?_, ⟨rfl, rfl, rfl, rfl, rfl⟩, by decide⟩
  rintro ⟨r, hr, h⟩
  obtain rfl : (⟨.c1, .unwiped, 7, 0⟩ : Cart) = r := Option.some.inj hr
  revert h
  decide

/-- Section 5.9, step 2: WIPE, the serial, its class and the deadline, then the bay record; the next is the write of job 40. -/
theorem test_work_wipes :
    sees (exec (.work .duplication 7 [6]) idleRack) (fun t => t.unwiped == []
      && t.bays[6]? == some (serving .qualifying 0 0 (.wiping 500 15) 0)
      && (t.carts.get 500).map Cart.state == some .wiping) = true := by
  decide

/-- Section 5.9, step 4: the head job and the head blank of its class. -/
theorem test_work_writes :
    sees (exec (.work .duplication 7 [6]) { idleRack with unwiped := [] }) (fun t => t.jobQueue == [41] && t.reserved.c2 == 1
      && t.blank.c2 == [611, 612] && t.carts.get 610 == some ⟨.c2, .loaded 40, 4, 0⟩
      && t.bays[6]? == some (serving .qualifying 0 0 (.writing 40 610 45) 0)) = true := by
  decide

theorem witness_GoodWrite :
    Ready .duplication (writing .qualifying 2 0 0 5 0) ∧ 611 < 2 ^ 32
      ∧ (writing .qualifying 2 0 0 5 0).bays[6]? = some (serving .qualifying 2 0 (.writing 41 611 5) 0)
      ∧ (writing .qualifying 2 0 0 5 0).jobs.get 41 = some (job 2 (.assigned 6 611) 0)
      ∧ (writing .qualifying 2 0 0 5 0).carts.get 611 = some ⟨.c2, .loaded 41, 4, 0⟩
      ∧ (∃ o i, (writing .qualifying 2 0 0 5 0).orders.get 1 = some o ∧ o.items.find? (fun x => x.object == .job 41) = some i)
      ∧ (Ready .duplication (writingCancelled .qualified 24 1 0 5)
        ∧ (writingCancelled .qualified 24 1 0 5).jobs.get 41 = some (job 2 (.cancelPending 6 611) 0)) :=
  ⟨ready_writing _ _ _ _ _ _ _, by decide, by decide, by decide, by decide, ⟨_, _, rfl, rfl⟩, ⟨rfl, rfl, rfl⟩, by decide⟩

/-- The write of item 2 with some other items in its order and some parcels of it in group 1. -/
def writingWith (m : Mode) (others : List Item) (parcels : List (Nat × Parcel)) : State :=
  { writing .qualified 3 0 0 5 0 with
    orders := [(1, ⟨9, m, .normal, ⟨2, .job 41, .normal, [wish 95 .cartridge .normal], false, false⟩ :: others⟩)]
    parcels := parcels
    groups := if parcels.isEmpty then [] else [(1, ⟨.normal, parcels.map Prod.fst, false⟩)]
    counters := { Counters.initial with parcel := 1 + parcels.length, group := 2 } }

/-- Item 2, whose job is being written. -/
def itemTwo : Item := ⟨2, .job 41, .normal, [wish 95 .cartridge .normal], false, false⟩

/-- The parcel's cases: AS-READY; the first of a TOGETHER order; beside a live group without room, and with room between its
items 1 and 3. -/
theorem witness_GoodWrite_parcels :
    (let s := writingWith .asReady [] [];
      NewlyReady s 1 ⟨9, .asReady, .normal, [itemTwo]⟩ itemTwo (.cart 611) ∧ ParcelRoom s 1)
    ∧ (let s := writingWith .together [written 1 500] [];
      ¬ roomToJoin s 1 ∧ (∀ e ∈ s.parcels, e.2.order ≠ 1) ∧ ParcelRoom s 1)
    ∧ (let set : Item := ⟨1, .copySet 271, .normal, [wish 610 .braille .normal], true, false⟩;
      let s := writingWith .together [set] [(1, ⟨1, 1, .volumes 271 [1], .forming⟩)];
      NewlyReady s 1 ⟨9, .together, .normal, [itemTwo, set]⟩ itemTwo (.cart 611) ∧ ¬ roomToJoin s 1
        ∧ LiveGroup s 1 1 ⟨.normal, [1], false⟩ ∧ ParcelRoom s 1 ∧ othersParcelled s 1 ⟨9, .together, .normal, [itemTwo, set]⟩ itemTwo)
    ∧ (let s := writingWith .together [written 1 500, written 3 503, written 4 504]
          [(1, ⟨1, 1, .cartridges [500, 503, 504], .forming⟩)];
      NewlyReady s 1 ⟨9, .together, .normal, [itemTwo, written 1 500, written 3 503, written 4 504]⟩ itemTwo (.cart 611)
        ∧ LiveGroup s 1 1 ⟨.normal, [1], false⟩ ∧ s.parcels.get 1 = some ⟨1, 1, .cartridges ([500] ++ [503, 504]), .forming⟩
        ∧ ([500] ++ [503, 504]).length < 4) := by
  refine ⟨⟨newlyReady_of (by decide) (by decide), parcelRoom_of (by decide)⟩, ⟨?_, by decide, parcelRoom_of (by decide)⟩,
    ⟨newlyReady_of (by decide) (by decide), ?_, liveGroup_of (by decide), parcelRoom_of (by decide),
      by unfold othersParcelled; decide⟩,
    newlyReady_of (by decide) (by decide), liveGroup_of (by decide), by decide⟩
  · rintro ⟨m, p, cs, h, -⟩
    cases h
  · rintro ⟨m, p, cs, h, -, -, hc, -⟩
    have := Table.mem_of_get h
    simp [writingWith] at this
    rw [this.2] at hc
    cases hc

/-- The backlog that the write's item joins: it alone, in an AS-READY order. -/
theorem witness_GoodWrite_served :
    let s := writingWith .asReady [] [];
    let written := ({ s with
      bays := s.bays.set 6 ⟨.service .qualified 4 0 .idle, 0, some ⟨.write 41, 611, .good⟩⟩
      carts := s.carts.put 611 ⟨.c2, .written 1 2, 4, 0⟩
      jobs := s.jobs.del 41
      orders := s.orders.put 1 ⟨9, .asReady, .normal, [{ itemTwo with object := .cart 611, ready := true }]⟩ } : State).jobRecordFreed;
    s.bays[6]? = some (serving .qualified 3 0 (.writing 41 611 5) 0) ∧ s.tablesWf = true ∧ ∃ u, BacklogServed written u :=
  ⟨by decide, by decide, backlogServed_asReady 1 2 ⟨9, .asReady, .normal, [{ itemTwo with object := .cart 611, ready := true }]⟩
    { itemTwo with object := .cart 611, ready := true } (by decide) (by decide) (by decide)⟩

/-- A CANCEL-PENDING job's good write: its cartridge UNWIPED, the marked list released, the bay's strike cleared by the
twenty-fifth good outcome (R51, R95, R97). -/
theorem test_writeDone_cancelled :
    sees (exec (.writeDone .duplication 7 (writeFields [1, 4, 1] [6, 611, 1])) (writingCancelled .qualified 24 1 0 5))
      (fun t => t.jobs == [] && t.unwiped == [611] && t.passQueue == [9] && t.blocked.c2 == [] && t.marks == ⟨false, false, false⟩
        && t.bays[6]?.map Bay.condition == some (.service .qualified 0 0 .idle)) = true := by
  decide

/-- The third good outcome in a row qualifies the bay; the cartridge is WRITTEN for item 2, and the order's last item releases
its group (R91, R97, R118). -/
theorem test_writeDone_good :
    sees (exec (.writeDone .duplication 7 (writeFields [1, 4, 1] [6, 611, 1])) (writing .qualifying 2 0 0 5 0))
      (fun t => t.bays[6]? == some ⟨.service .qualified 0 0 .idle, 0, some ⟨.write 41, 611, .good⟩⟩
        && (t.carts.get 611).map Cart.state == some (.written 1 2) && t.jobs == []
        && t.parcels == [(1, ⟨1, 1, .cartridges [611], .ready⟩)] && t.dispatchQueue == [1]
        && (t.port .mailroom).notices == [.parcelWaiting]) = true := by
  decide

theorem witness_GoodWipe :
    (Ready .duplication (wiping .qualified 24 1 0 5 400 1) ∧ 500 < 2 ^ 32
        ∧ (wiping .qualified 24 1 0 5 400 1).bays[6]? = some (serving .qualified 24 1 (.wiping 500 5) 0)
        ∧ (wiping .qualified 24 1 0 5 400 1).carts.get 500 = some ⟨.c1, .wiping, 400, 1⟩
        ∧ (wiping .qualified 24 1 0 5 400 1).settings.wearLimit ≤ 400)
      ∧ (399 < (wiping .qualified 24 1 0 5 399 1).settings.wearLimit ∧ (wiping .qualified 24 1 0 5 399 1).starved.get .c1 = [])
      ∧ (let s : State := { wiping .qualified 24 1 0 5 399 1 with
          starved := ⟨[42], [], []⟩, jobs := [(42, { job 3 .starved 1 with cls := .c1 })] }
        Ready .duplication s ∧ s.starved.get .c1 = 42 :: [] ∧ s.jobs.get 42 = some { job 3 .starved 1 with cls := .c1 }
          ∧ (s.blank.get .c1).length - s.reserved.get .c1 = 0 ∧ 0 < (s.blank.get .c1).length + 1 - s.reserved.get .c1) :=
  ⟨⟨ready_wiping _ _ _ _ _ _ _ _, by decide⟩, by decide, ⟨rfl, rfl, rfl⟩, by decide⟩

/-- Section 4.8, step 8: a cartridge at the wear limit of 400 is RETIRED. The twenty-fifth good outcome clears the strike. -/
theorem test_wipeDone_retires :
    sees (exec (.wipeDone .duplication 7 (writeFields [1, 4, 1] [6, 500, 1])) (wiping .qualified 24 1 0 5 400 1))
      (fun t => (t.carts.get 500).map Cart.state == some .retired && t.blank.c1 == []
        && t.bays[6]?.map Bay.condition == some (.service .qualified 0 0 .idle)) = true := by
  decide

/-- Section 4.8, step 6: the starved job takes the new blank. -/
theorem test_wipeDone_starved :
    sees (exec (.wipeDone .duplication 7 (writeFields [1, 4, 1] [6, 500, 1]))
        { wiping .qualified 24 1 0 5 399 1 with
          starved := ⟨[42], [], []⟩, jobs := [(42, { job 3 .starved 1 with cls := .c1 })], jobQueue := [] })
      (fun t => t.blank.c1 == [500] && t.reserved.c1 == 1 && t.starved.c1 == [] && t.jobQueue == [42]) = true := by
  decide

theorem witness_BadWipe :
    ((wiping .qualified 3 0 0 0 7 0).bays[6]? = some (serving .qualified 3 0 (.wiping 500 0) 0)
        ∧ (wiping .qualified 3 0 0 0 7 0).restartAsserted = false ∧ Ready .duplication (wiping .qualified 3 0 0 0 7 0)
        ∧ (wiping .qualified 3 0 0 0 7 0).carts.get 500 = some ⟨.c1, .wiping, 7, 0⟩)
      ∧ ((wiping .qualified 3 1 1 0 7 2).bays[6]? = some (serving .qualified 3 1 (.wiping 500 0) 1) ∧ 1 < 2
        ∧ ¬ (Standing.qualified = .qualified ∧ 1 = 0))
      ∧ ((wiping .qualifying 1 0 2 0 7 2).bays[6]? = some (serving .qualifying 1 0 (.wiping 500 0) 2)
        ∧ (wiping .qualifying 1 0 2 0 7 2).standing = .running
        ∧ ∀ k x, k ≠ 6 → (wiping .qualifying 1 0 2 0 7 2).bays[k]? = some x → x.condition = .offline)
      ∧ (0 ≠ 6 ∧ ((wiping .qualifying 1 0 2 0 7 2).bays.set 0 ⟨.resting 3, 2, none⟩)[0]? = some ⟨.resting 3, 2, none⟩) := by
  refine ⟨⟨by decide, rfl, ready_wiping _ _ _ _ _ _ _ _, by decide⟩, by decide, ⟨by decide, rfl, ?_⟩, by decide⟩
  intro k x hk hx
  have h : ((List.replicate 32 Bay.initial).set 6 (serving .qualifying 1 0 (.wiping 500 0) 2))[k]? = some x := hx
  rw [List.getElem?_set_ne (Ne.symm hk), List.getElem?_replicate] at h
  split at h
  · cases h; rfl
  · cases h

/-- The third fault retires the cartridge, the third rest-starting outcome of the day fails the bay, and no bay working halts
the rack (R69, R98, R101; section 5.10, step 4). -/
theorem test_wipe_fails_and_halts :
    sees (exec (.deadlineExpiry 6) (wiping .qualifying 1 0 2 0 7 2)) (fun t => t.standing == .halted
      && t.bays[6]? == some ⟨.failed, 2, some ⟨.wipe, 500, .expired⟩⟩ && t.carts.get 500 == some ⟨.c1, .retired, 7, 3⟩
      && (t.port .order).notices == [.dupHalted] && (t.port .duplication).notices == [.bayFailed, .dupHalted]) = true := by
  decide

theorem witness_BadWrite :
    (Ready .duplication (writing .qualified 10 0 0 0 2) ∧ 611 < 2 ^ 32
        ∧ (writing .qualified 10 0 0 0 2).bays[6]? = some (serving .qualified 10 0 (.writing 41 611 0) 0)
        ∧ (writing .qualified 10 0 0 0 2).jobs.get 41 = some (job 2 (.assigned 6 611) 2)
        ∧ (writing .qualified 10 0 0 0 2).carts.get 611 = some ⟨.c2, .loaded 41, 4, 0⟩
        ∧ (writing .qualified 10 0 0 0 2).reserved.get .c2 < ((writing .qualified 10 0 0 0 2).blank.get .c2).length)
      ∧ (({ writing .qualified 10 0 0 0 2 with blank := ⟨[], [], []⟩ }).blank.get .c2).length ≤ 0
      ∧ (Ready .duplication (writingCancelled .qualifying 1 0 2 0)
        ∧ (writingCancelled .qualifying 1 0 2 0).jobs.get 41 = some (job 2 (.cancelPending 6 611) 0))
      ∧ (let s := writing .qualifying 1 0 2 0 3;
        s.jobs.get 41 = some (job 2 (.assigned 6 611) 3) ∧ s.orders.get 1 = some ⟨9, .together, .normal, [itemTwo]⟩
          ∧ [itemTwo].find? (fun x => x.object == .job 41) = some itemTwo ∧ [itemTwo].find? (fun x => x.place == 2) = some itemTwo
          ∧ (∀ w ∈ itemTwo.entries, w.format = .cartridge)
          ∧ (s.patrons.get 9).map Patron.state = some .active ∧ [itemTwo].filter (fun x => x.place != 2) = []
          ∧ (({ s with patrons := [(9, ⟨.closing, 3, 1, .c2, .together, 1, []⟩)] }).patrons.get 9).map Patron.state = some .closing) :=
  ⟨⟨ready_writing _ _ _ _ _ _ _, by decide⟩, by decide, ⟨⟨rfl, rfl, rfl⟩, by decide⟩, by decide⟩

/-- The write's order with a parcelled cartridge besides, whose group the drop of the written item releases. -/
def heldBack : State :=
  let s := writingWith .together [written 1 500] [(1, ⟨1, 1, .cartridges [500], .forming⟩)]
  { s with jobs := [(41, job 2 (.assigned 6 611) 3)] }

theorem witness_BadWrite_settled :
    Ready .duplication heldBack ∧ heldBack.jobs.get 41 = some (job 2 (.assigned 6 611) 3)
      ∧ heldBack.orders.get 1 = some ⟨9, .together, .normal, [itemTwo, written 1 500]⟩
      ∧ heldBack.carts.get 611 = some ⟨.c2, .loaded 41, 4, 0⟩
      ∧ ∃ p u, heldBack.patrons.get 9 = some p ∧ p.state ≠ .closing ∧
        let freed := ({ heldBack.cartFaulted 611 ⟨.c2, .loaded 41, 4, 0⟩ with
          jobs := heldBack.jobs.del 41
          orders := heldBack.orders.put 1 ⟨9, .together, .normal, [written 1 500]⟩
          heldTotal := heldBack.heldTotal - 1 } : State).jobRecordFreed
        GroupSettled { freed with
          patrons := heldBack.patrons.put 9 { p with held := p.held - 1, wishes := entriesBack itemTwo.entries p.wishes }
          passQueue := appendNew freed.passQueue 9 } 1 u :=
  ⟨⟨rfl, rfl, rfl⟩, by decide, by decide, by decide, _, _, rfl, by decide,
    settled_due (rg := ⟨.normal, [1], false⟩) (r := ⟨9, .together, .normal, [written 1 500]⟩) [] [] (liveGroup_of (g := 1) (by decide))
      (by decide) (by decide)⟩

/-- R112: the dropped item was the last one that held the group back. -/
theorem test_drop_releases :
    sees (exec (.writeDone .duplication 7 (writeFields [1, 4, 1] [6, 611, 2])) heldBack)
      (fun t => t.parcels == [(1, ⟨1, 1, .cartridges [500], .ready⟩)] && t.dispatchQueue == [1]
        && (t.port .mailroom).notices == [.parcelWaiting]) = true := by
  decide

/-- Section 11.6, step 16. -/
theorem test_writeDone_verifyFail :
    sees (exec (.writeDone .duplication 7 (writeFields [1, 4, 1] [6, 611, 2])) (writing .qualified 10 0 0 0 0))
      (fun t => t.unwiped == [611] && t.carts.get 611 == some ⟨.c2, .unwiped, 4, 1⟩ && t.jobs == [(41, job 2 .queued 1)]
        && t.reserved.c2 == 1 && t.jobQueue == [41] && t.bays[6]?.map Bay.condition == some (.service .qualified 0 1 .idle))
      = true := by
  decide

/-- Section 5.9, step 7: an expired write is a WRITE-FAIL and, at a QUALIFYING bay, starts a rest. -/
theorem test_deadlineExpiry :
    sees (exec (.deadlineExpiry 6) (writing .qualifying 2 0 0 0 0)) (fun t => t.jobQueue == [41]
      && t.bays[6]? == some ⟨.resting 15, 1, some ⟨.write 41, 611, .expired⟩⟩
      && noticesSent .duplication (.next t) [.workWaiting, .bayResting]) = true := by
  decide

/-- The fourth bad attempt abandons the job: its item is dropped and the order freed (R92, R111). -/
theorem test_write_abandoned :
    sees (exec (.writeDone .duplication 7 (writeFields [1, 4, 1] [6, 611, 3])) (writing .qualified 10 0 0 0 3))
      (fun t => t.jobs == [] && t.orders == [] && t.heldTotal == 1 && (t.port .order).notices == [.itemDropped]
        && (t.patrons.get 9).map (fun p => (p.held, p.wishes)) == some (1, [wish 95 .cartridge .normal])) = true := by
  decide

theorem witness_IdleFaultAndLateReports :
    (Ready .duplication (rack (serving .qualified 9 0 .idle 0)) ∧ Fits [1, 4, 1] [6, 611, 3]
        ∧ (rack (serving .qualified 9 0 .idle 0)).bays[6]? = some (serving .qualified 9 0 .idle 0)
        ∧ (serving .qualified 9 0 .idle 0).condition ≠ .offline
        ∧ (∀ job m, (serving .qualified 9 0 .idle 0).activity ≠ .writing job 611 m)
        ∧ ∀ m, (serving .qualified 9 0 .idle 0).activity ≠ .wiping 611 m)
      ∧ ((rack (serving .qualifying 2 0 .idle 1)).bays[6]? = some (serving .qualifying 2 0 .idle 1) ∧ 1 < 2)
      ∧ ((rack (serving .qualified 2 1 .idle 2)).bays[6]? = some (serving .qualified 2 1 .idle 2)
        ∧ Fits [1, 4, 1] [6, 0, 0] ∧ Fits [1, 4, 1] [6, 0, 4] ∧ 2 < 3)
      ∧ ((rack ⟨.failed, 2, none⟩).bays[6]? = some ⟨.failed, 2, none⟩)
      ∧ ((rack ⟨.resting 1, 2, none⟩).bays[6]? = some ⟨.resting 1, 2, none⟩) :=
  ⟨⟨ready_rack _ _, fits_of (by decide), by decide, by decide, by simp [serving, Bay.activity], by simp [serving, Bay.activity]⟩,
    by decide, ⟨by decide, fits_of (by decide), fits_of (by decide), by decide⟩, by decide, by decide⟩

theorem test_bayFault_idle :
    sees (exec (.bayFault .duplication 7 [6]) (rack (serving .qualifying 2 0 .idle 1)))
      (fun t => t.bays[6]? == some ⟨.resting 15, 2, none⟩ && (t.port .duplication).notices == [.bayResting]) = true := by
  decide

/-- Section 5.9, step 8: the report after the expiry. -/
theorem test_writeDone_late :
    answers .duplication (exec (.writeDone .duplication 7 (writeFields [1, 4, 1] [6, 611, 1])) (rack ⟨.resting 15, 1, none⟩))
      .late [] = true := by
  decide

theorem witness_MinutesAndRests :
    (idleRack.restartAsserted = false ∧ (rack ⟨.resting 0, 1, none⟩).bays[6]? = some ⟨.resting 0, 1, none⟩)
      ∧ ((rack ⟨.resting 1, 1, none⟩).bays[6]? = some ⟨.resting 1, 1, none⟩ ∧ Condition.resting 1 ≠ .resting 0)
      ∧ ((serving .qualified 9 0 .idle 0).activity = .idle)
      ∧ (serving .qualified 9 0 (.writing 41 611 1) 0).activity = .writing 41 611 (0 + 1) := by
  decide

theorem test_minuteEvent :
    sees (exec .minuteEvent (writing .qualified 3 1 0 45 0))
      (fun t => t.bays[6]? == some (serving .qualified 3 1 (.writing 41 611 44) 0)) = true := by
  decide

/-- Section 5.9, step 10. -/
theorem test_restExpiry :
    sees (exec (.restExpiry 6) (rack ⟨.resting 0, 1, some ⟨.write 41, 611, .expired⟩⟩))
      (fun t => t.bays[6]? == some ⟨.service .qualifying 0 0 .idle, 1, some ⟨.write 41, 611, .expired⟩⟩) = true := by
  decide

/-! ### Pulls, parcels and the dispatch day -/

/-- A wish for a braille title. -/
def brailleWish (t : Nat) : WishEntry := wish t .braille .normal

/-- The order of section 6.8: jobs 900 and 901, sets 712 and 58; set 712 and its task as given. -/
def mail (st : SetState) (task : TaskState) : State :=
  { quiet with
    patrons := [(6120, ⟨.active, 4, 1, .c1, .together, 4, []⟩)]
    titles := [(904, ⟨false, none, some [100, 100], [58], []⟩), (3310, ⟨false, none, some [280, 250, 190, 90, 300, 60], [712], []⟩)]
    copySets := [(58, ⟨904, .reserved 30051 4⟩), (712, ⟨3310, st⟩)]
    orders := [(30051, ⟨6120, .together, .normal,
      [⟨1, .job 900, .normal, [wish 1 .cartridge .normal], false, false⟩,
        ⟨2, .copySet 712, .normal, [brailleWish 3310], false, false⟩,
        ⟨3, .job 901, .normal, [wish 2 .cartridge .normal], false, false⟩,
        ⟨4, .copySet 58, .normal, [brailleWish 904], false, false⟩]⟩)]
    tasks := [(1, ⟨712, 30051, .normal, task⟩), (2, ⟨58, 30051, .normal, .queued⟩)]
    pullQueue := [1, 2]
    heldTotal := 4 }

theorem ready_mail (st : SetState) (task : TaskState) (l : Link) : Ready l (mail st task) := by
  cases l <;> exact ⟨rfl, rfl, rfl⟩

theorem witness_NextPullAndPulled :
    Ready .mailroom (mail (.reserved 30051 2) .queued)
      ∧ 16 ≤ countOf (fun e => e.2.state == .handed)
          ((List.range' 1 16).map (fun n => (n, (⟨n, 1, .normal, .handed⟩ : PullTask))))
      ∧ (countOf (fun e => e.2.state == .handed) quiet.tasks < 16 ∧ quiet.pullQueue = [] ∧ quiet.tasks.get 16777215 = none)
      ∧ (countOf (fun e => e.2.state == .handed) (mail (.reserved 30051 2) .queued).tasks < 16
        ∧ (mail (.reserved 30051 2) .queued).pullQueue = [] ++ 1 :: [2]
        ∧ (mail (.reserved 30051 2) .queued).tasks.get 1 = some ⟨712, 30051, .normal, .queued⟩
        ∧ (mail (.reserved 30051 2) .queued).copySets.get 712 = some ⟨3310, .reserved 30051 2⟩)
      ∧ ((mail (.pulling 30051 2) .handed).tasks.get 1 = some ⟨712, 30051, .normal, .handed⟩
        ∧ (mail (.pulling 30051 2) .handed).copySets.get 712 = some ⟨3310, .pulling 30051 2⟩
        ∧ ((mail (.pulling 30051 2) .handed).orders.get 30051).isSome = true)
      ∧ (let set : Item := ⟨2, .copySet 712, .normal, [brailleWish 3310], false, false⟩;
        let s := mail (.pulling 30051 2) .handed;
        ∃ r, s.orders.get 30051 = some r ∧ r.mode = .together ∧ r.items.find? (fun x => x.place == 2) = some set
          ∧ NewlyReady s 30051 r set (.copySet 712) ∧ (∀ e ∈ s.parcels, e.2.order ≠ 30051) ∧ ParcelRoom s 2
          ∧ (packVolumes [280, 250, 190, 90, 300, 60]).length = 2) :=
  ⟨ready_mail _ _ _, by decide, by decide, by decide, by decide, _, rfl, rfl, rfl, newlyReady_of (by decide) (by decide), by decide,
    parcelRoom_of (by decide), by decide⟩

/-- The order of section 6.8 with set 712's item ready. -/
def mailReady : Order :=
  ⟨6120, .together, .normal,
    [⟨1, .job 900, .normal, [wish 1 .cartridge .normal], false, false⟩,
      ⟨2, .copySet 712, .normal, [brailleWish 3310], true, false⟩,
      ⟨3, .job 901, .normal, [wish 2 .cartridge .normal], false, false⟩,
      ⟨4, .copySet 58, .normal, [brailleWish 904], false, false⟩]⟩

/-- The backlog that the pulled set joins: it alone, as the first of a TOGETHER order with items that are not ready. -/
theorem witness_Pulled_served :
    let s := mail (.pulling 30051 2) .handed;
    s.tablesWf = true ∧ ∃ u, BacklogServed
      { s with
        tasks := s.tasks.del 1
        pullQueue := s.pullQueue.erase 1
        copySets := s.copySets.put 712 ⟨3310, .inDispatch 30051 2⟩
        orders := s.orders.put 30051 mailReady } u :=
  ⟨by decide, _, backlogServed_one (o := 30051) (p := 2) (r := mailReady)
    (i := ⟨2, .copySet 712, .normal, [brailleWish 3310], true, false⟩) (by decide)
    (.together 1 [] .normal rfl (by decide) (.inl ⟨by decide, rfl, rfl, rfl⟩) (fun c hc => by cases hc) (parcelRoom_of (by decide)))
    (settled_waits (r := mailReady) (by decide) (by decide))⟩

/-- Section 6.8, step 1: task, band, order, patron, set, title and volume count. -/
theorem test_nextPull :
    answers .mailroom (exec (.nextPull .mailroom 7 []) (mail (.reserved 30051 2) .queued)) .done
        [1, 2, 30051, 6120, 712, 3310, 6] = true
      ∧ sees (exec (.nextPull .mailroom 7 []) (mail (.reserved 30051 2) .queued)) (fun t => t.pullQueue == [1, 2]
          && (t.copySets.get 712).map CopySet.state == some (.pulling 30051 2)) = true := by
  decide

/-- Section 6.8, step 3: two parcels, volumes 1, 2 and 3 to 6, in a new group that waits. -/
theorem test_pulled :
    answers .mailroom (exec (.pulled .mailroom 7 [1, 0, 0]) (mail (.pulling 30051 2) .handed)) .done
        [712, 30051, 1, 0, 1, 1, 2, 2, 3, 4, 5, 6] = true
      ∧ sees (exec (.pulled .mailroom 7 [1, 0, 0]) (mail (.pulling 30051 2) .handed)) (fun t => t.pullQueue == [2]
          && t.parcels == [(1, ⟨30051, 1, .volumes 712 [1, 2], .forming⟩), (2, ⟨30051, 1, .volumes 712 [3, 4, 5, 6], .forming⟩)]
          && t.dispatchQueue == [] && (t.copySets.get 712).map CopySet.state == some (.inDispatch 30051 2)) = true := by
  decide

/-- The packing of section 6.8, and that of title 640 in section 11.5. -/
theorem test_packing :
    packVolumes [280, 250, 190, 90, 300, 60] = [[1, 2], [3, 4, 5, 6]] ∧ packVolumes [260, 290, 180] = [[1, 2], [3]] := by
  decide

theorem witness_NotFound :
    (Ready .mailroom morning ∧ morning.tasks.get 2 = none)
      ∧ (mail (.reserved 30051 2) .queued).tasks.get 1 = some ⟨712, 30051, .normal, .queued⟩
      ∧ (morning.tasks.get 1 = some ⟨271, 12044, .normal, .handed⟩ ∧ morning.copySets.get 271 = some ⟨610, .pulling 12044 1⟩
        ∧ (morning.titles.get 610).map Title.braille = some (some [100, 100])
        ∧ (morning.orders.get 12044).map (fun r => (r.patron, r.mode, r.items))
            = some (4410, .asReady, [⟨1, .copySet 271, .normal, [brailleWish 610], false, false⟩])
        ∧ morning.patrons.get 4410 = some reader ∧ reader.state = .active ∧ reader.wishes.length < 64
        ∧ reader.wishes = [wish 820 .cartridge .urgent] ++ [brailleWish 1207, wish 95 .cartridge .normal]) :=
  ⟨⟨ready_morning _, by decide⟩, by decide, by decide⟩

/-- The order of section 6.8 with a parcelled cartridge and, as its last item held back, set 58 in the Mailroom's hands. -/
def lastMissing : State :=
  { mail (.pulling 30051 2) .handed with
    carts := [(900, ⟨.c1, .written 30051 1, 1, 0⟩)], copySets := [(58, ⟨904, .pulling 30051 4⟩)]
    orders := [(30051, ⟨6120, .together, .normal, [written 1 900, ⟨4, .copySet 58, .normal, [brailleWish 904], false, false⟩]⟩)]
    tasks := [(2, ⟨58, 30051, .normal, .handed⟩)], pullQueue := [2], parcels := [(1, ⟨30051, 1, .cartridges [900], .forming⟩)]
    groups := [(1, ⟨.normal, [1], false⟩)], counters := { Counters.initial with parcel := 2, group := 2 } }

/-- Both ends of the drop: the group released, and the group that waits; the patron CLOSING, and with no room in its list. -/
theorem witness_NotFound_settled :
    Ready .mailroom lastMissing ∧ lastMissing.tasks.get 2 = some ⟨58, 30051, .normal, .handed⟩
      ∧ lastMissing.copySets.get 58 = some ⟨904, .pulling 30051 4⟩ ∧ hasReadyParcel lastMissing = false
      ∧ (∃ pat u, lastMissing.patrons.get 6120 = some pat ∧ pat.state ≠ .closing ∧ GroupSettled
        { lastMissing with
          tasks := lastMissing.tasks.del 2
          pullQueue := lastMissing.pullQueue.erase 2
          copySets := lastMissing.copySets.put 58 ⟨904, .incomplete [1, 2]⟩
          orders := lastMissing.orders.put 30051 ⟨6120, .together, .normal, [written 1 900]⟩
          heldTotal := lastMissing.heldTotal - 1
          patrons := lastMissing.patrons.put 6120
            { pat with held := pat.held - 1, wishes := entriesBack [brailleWish 904] pat.wishes }
          titles := lastMissing.titles.put 904 ⟨false, none, some [100, 100], [58], [6120]⟩
          passQueue := appendNew lastMissing.passQueue 6120 } 30051 u ∧ ∃ e ∈ u.dispatchQueue, parcelState u e = some .ready)
      ∧ (let s := { lastMissing with patrons := [(6120, ⟨.closing, 4, 1, .c1, .together, 2, []⟩)], parcels := [], groups := [] };
        ∃ u, GroupSettled
          { s with
            tasks := s.tasks.del 2
            pullQueue := s.pullQueue.erase 2
            copySets := s.copySets.put 58 ⟨904, .incomplete [1, 2]⟩
            orders := s.orders.put 30051 ⟨6120, .together, .normal, [written 1 900]⟩
            heldTotal := s.heldTotal - 1
            patrons := s.patrons.put 6120 ⟨.closing, 4, 1, .c1, .together, 1, []⟩ } 30051 u)
      ∧ ¬ (List.replicate 64 (wish 95 .cartridge .normal)).length < 64 :=
  ⟨⟨rfl, rfl, rfl⟩, by decide, by decide, by decide,
    ⟨_, _, rfl, by decide, settled_due (rg := ⟨.normal, [1], false⟩) (r := ⟨6120, .together, .normal, [written 1 900]⟩) [] []
      (liveGroup_of (g := 1) (by decide)) (by decide) (by decide), by decide⟩,
    ⟨_, settled_waits rfl (by decide)⟩, by decide⟩

/-- R112, R118: the set's drop releases the group, and no parcel was READY before. -/
theorem test_notFound_releases :
    sees (exec (.notFound .mailroom 7 [2, 0, 0]) lastMissing) (fun t => t.dispatchQueue == [1]
      && parcelState t 1 == some .ready && (t.port .mailroom).notices == [.parcelWaiting]
      && (t.port .order).notices == [.itemDropped]
      && (t.patrons.get 6120).map (fun p => (p.held, p.wishes)) == some (3, [brailleWish 904])) = true := by
  decide

theorem test_notFound_unknown : answers .mailroom (exec (.notFound .mailroom 7 [2, 0, 0]) morning) .noSuch [] = true := by
  decide

theorem witness_NextFitPacking :
    (∀ w ∈ [280, 250, 190, 90, 300, 60], 10 ≤ w ∧ w ≤ 300) ∧ (∀ w ∈ List.replicate 40 300, 10 ≤ w ∧ w ≤ 300)
      ∧ packVolumes [280, 250, 190, 90, 300, 60] = [] ++ [1, 2] :: (3 :: [4, 5, 6]) :: [] := by
  decide

/-- The day of section 7.7 with a limit of 6: P10 and group G1 as given, P11 and group G2 as given, today's figures as given. -/
def dispatchDay (p10 p11 p13 : ParcelState) (begun1 begun2 : Bool) (today reserved tally : Nat) : State :=
  { quiet with
    patrons := [(4102, ⟨.active, 12, 3, .c1, .asReady, 5, []⟩)]
    titles := [(77, ⟨false, none, some (List.replicate 8 200), [700], []⟩), (78, ⟨false, none, some (List.replicate 5 200), [812], []⟩)]
    copySets := [(700, ⟨77, .inDispatch 2 3⟩), (812, ⟨78, .inDispatch 3 1⟩)]
    carts := [(3301, ⟨.c1, .written 1 1, 1, 0⟩), (3310, ⟨.c1, .written 2 1, 1, 0⟩), (3315, ⟨.c1, .written 2 2, 1, 0⟩)]
    orders := [(1, ⟨4102, .asReady, .normal, [written 1 3301]⟩),
      (2, ⟨4102, .together, .normal, [written 1 3310, written 2 3315, ⟨3, .copySet 700, .normal, [brailleWish 77], true, false⟩]⟩),
      (3, ⟨4102, .asReady, .normal, [⟨1, .copySet 812, .normal, [brailleWish 78], true, false⟩]⟩)]
    parcels := [(10, ⟨1, 1, .cartridges [3301], p10⟩), (11, ⟨2, 2, .cartridges [3310, 3315], p11⟩),
      (12, ⟨2, 2, .volumes 700 [1, 2, 3], p11⟩), (13, ⟨2, 2, .volumes 700 [4, 5, 6], p13⟩),
      (14, ⟨2, 2, .volumes 700 [7, 8], p11⟩), (15, ⟨3, 3, .volumes 812 [1, 2, 3], .ready⟩), (16, ⟨3, 3, .volumes 812 [4, 5], .ready⟩)]
    groups := [(1, ⟨.normal, [10], begun1⟩), (2, ⟨.normal, [11, 12, 13, 14], begun2⟩), (3, ⟨.normal, [15, 16], false⟩)]
    dispatchQueue := [10, 11, 12, 13, 14, 15, 16]
    heldTotal := 5
    counters := { Counters.initial with order := 4, parcel := 17, group := 4 }
    settings := { Settings.default with limitInForce := 6 }
    todayCount := today, reservedCap := reserved, tally := tally }

theorem ready_dispatchDay (a b c : ParcelState) (d e : Bool) (f g h : Nat) (l : Link) :
    Ready l (dispatchDay a b c d e f g h) := by
  cases l <;> exact ⟨rfl, rfl, rfl⟩

/-- The morning of section 7.7; after its step 1; and step 7, where only G3 has READY parcels. -/
def day0 : State := dispatchDay .ready .ready .ready false false 0 0 0
/-- After step 1. -/
def day1 : State := dispatchDay .packing .ready .ready true false 1 0 0
/-- At step 7, with P10 not yet PACKED so that the figures stand as at that step: 5 handed out and none reserved. -/
def day7 : State := dispatchDay .packing .packing .packing true true 5 0 0

theorem witness_NextParcel :
    (Ready .mailroom day0 ∧ Ready .mailroom day1 ∧ Ready .mailroom day7)
      ∧ 8 ≤ countOf (fun e => e.2.state == .packing)
          ((List.range' 1 8).map (fun n => (n, (⟨1, 1, .cartridges [n], .packing⟩ : Parcel))))
      ∧ (countOf (fun e => e.2.state == .packing) quiet.parcels < 8 ∧ quiet.dispatchQueue = [])
      ∧ (countOf (fun e => e.2.state == .packing) day7.parcels < 8 ∧ 15 ∈ day7.dispatchQueue
        ∧ parcelState day7 15 = some .ready ∧ (∀ n ∈ [10, 11, 12, 13, 14], parcelState day7 n = some .packing)
        ∧ day7.groups.get 3 = some ⟨.normal, [15, 16], false⟩ ∧ 6 < [15, 16].length + 5 + 0)
      ∧ (day0.dispatchQueue = [] ++ 10 :: [11, 12, 13, 14, 15, 16] ∧ parcelState day0 10 = some .ready
        ∧ day0.groups.get 1 = some ⟨.normal, [10], false⟩ ∧ day0.todayCount = 0 ∧ (∀ e ∈ day0.groups, e.2.begun = false))
      ∧ ([11, 12, 13, 14].length + day1.todayCount + day1.reservedCap ≤ day1.settings.limitInForce) :=
  ⟨⟨ready_dispatchDay .., ready_dispatchDay .., ready_dispatchDay ..⟩, by decide⟩

/-- Section 7.7, steps 1 and 2: P10 begins G1; P11 begins G2 and reserves its other three parcels. -/
theorem test_nextParcel :
    sees (exec (.nextParcel .mailroom 7 []) day0) (fun t => parcelState t 10 == some .packing && t.todayCount == 1
        && t.reservedCap == 0) = true
      ∧ sees (exec (.nextParcel .mailroom 7 []) day1) (fun t => parcelState t 11 == some .packing && t.todayCount == 2
        && t.reservedCap == 3) = true := by
  decide

/-- Section 7.7, step 7. -/
theorem test_dayFull : answers .mailroom (exec (.nextParcel .mailroom 7 []) day7) .dayFull [] = true := by decide

theorem witness_Unpack :
    Ready .mailroom day7 ∧ (13 < 256 ^ 3 ∧ day7.parcels.get 13 = some ⟨2, 2, .volumes 700 [4, 5, 6], .packing⟩)
      ∧ (day7.parcels.get 15 = some ⟨3, 3, .volumes 812 [1, 2, 3], .ready⟩) ∧ day7.parcels.get 16777215 = none :=
  ⟨ready_dispatchDay .., by decide⟩

/-- Section 7.7, step 8. -/
theorem test_unpack :
    answers .mailroom (exec (.unpack .mailroom 7 [13, 0, 0]) day7) .done [4, 1] = true
      ∧ sees (exec (.unpack .mailroom 7 [13, 0, 0]) day7) (fun t => parcelState t 13 == some .ready
          && t.dispatchQueue == day7.dispatchQueue && (t.port .mailroom).notices == []) = true := by
  decide

theorem witness_Packed :
    (Ready .mailroom day7 ∧ day7.parcels.get 9 = none ∧ (day7.parcels.get 15).map Parcel.state = some .ready)
      ∧ (day7.parcels.get 13 = some ⟨2, 2, .volumes 700 [4, 5, 6], .packing⟩
        ∧ day7.groups.get 2 = some ⟨.normal, [11, 12, 13, 14], true⟩ ∧ 11 ∈ [11, 12, 13, 14] ∧ 11 ≠ 13
        ∧ parcelState day7 11 ≠ some .dispatched)
      ∧ (day7.tablesWf = true ∧ backlog day7 = [] ∧ day7.parcels.get 10 = some ⟨1, 1, .cartridges [3301], .packing⟩
        ∧ day7.groups.get 1 = some ⟨.normal, [10], true⟩
        ∧ day7.orders.get 1 = some ⟨4102, .asReady, .normal, [written 1 3301]⟩
        ∧ day7.carts.get 3301 = some ⟨.c1, .written 1 1, 1, 0⟩ ∧ day7.loans.get day7.counters.loan = none)
      ∧ (let s := dispatchDay .packing .dispatched .packing true true 5 0 1;
        Ready .mailroom s ∧ s.tablesWf = true ∧ backlog s = [] ∧ s.parcels.get 13 = some ⟨2, 2, .volumes 700 [4, 5, 6], .packing⟩
          ∧ s.groups.get 2 = some ⟨.normal, [11, 12, 13, 14], true⟩
          ∧ (∀ m ∈ [11, 12, 13, 14], ∃ q ∈ s.parcels.get m, q.order = 2 ∧ q.group = 2 ∧ (m ≠ 13 → q.state = .dispatched))
          ∧ (∃ r ∈ s.orders.get 2, r.items.Pairwise (fun a b => a.place ≠ b.place)
            ∧ r.items.Pairwise (fun a b => a.object ≠ b.object) ∧ (lentItems s 2 2 r).length = 3)
          ∧ loanRoom s 3) :=
  ⟨⟨ready_dispatchDay .., by decide⟩, by decide, by decide, ready_dispatchDay .., by decide, by decide, by decide, by decide, by decide,
    by decide, fun _ _ => rfl, by decide⟩

/-- Step 7 of the day with an order whose cartridge waits for a parcel record. -/
def day7Waiting : State :=
  { day7 with
    carts := day7.carts ++ [(3400, ⟨.c1, .written 4 1, 1, 0⟩)]
    orders := day7.orders ++ [(4, ⟨4102, .asReady, .normal, [written 1 3400]⟩)] }

/-- The backlog that the loan of parcel 10 serves. -/
theorem witness_Packed_served :
    Ready .mailroom day7Waiting ∧ day7Waiting.tablesWf = true ∧ backlog day7Waiting = [(4, 1)]
      ∧ day7Waiting.parcels.get 10 = some ⟨1, 1, .cartridges [3301], .packing⟩
      ∧ let s := day7Waiting;
        ∃ u, BacklogServed
          { s with
            parcels := s.parcels.del 10
            dispatchQueue := s.dispatchQueue.erase 10
            groups := s.groups.del 1
            orders := s.orders.del 1
            carts := s.carts.put 3301 ⟨.c1, .onLoan 1, 1, 0⟩
            loans := s.loans.put 1 ⟨4102, .cartridge 3301 [1], 28, 28, 0, .out⟩
            counters := { s.counters with loan := 2 }
            tally := s.tally + 1 } u :=
  ⟨⟨rfl, rfl, rfl⟩, by decide, by decide, by decide, backlogServed_asReady 4 1 ⟨4102, .asReady, .normal, [written 1 3400]⟩
    (written 1 3400) (by decide) (by decide) (by decide)⟩

/-- R113, R132 step 5: the record that the loan frees serves the backlog in the same event. -/
theorem test_packed_serves :
    sees (exec (.packed .mailroom 7 [10, 0, 0]) day7Waiting) (fun t => backlog t == [] && t.parcels.get 10 == none
      && (t.parcels.select (fun _ p => p.order == 4)).map (parcelState t) == [some .ready]
      && t.dispatchQueue.getLast? == (t.parcels.select (fun _ p => p.order == 4)).head?) = true := by
  decide

/-- Section 7.7, step 3: G1's loan, with D equal to the cartridge loan term; P10 and G1 freed; the tally takes P10 over. -/
theorem test_packed :
    sees (exec (.packed .mailroom 7 [10, 0, 0]) day7) (fun t => t.tally == 1 && t.todayCount == 5 && t.groups.get 1 == none
      && t.parcels.get 10 == none && t.orders.get 1 == none
      && t.loans == [(1, ⟨4102, .cartridge 3301 [1], 28, 28, 0, .out⟩)]
      && (t.carts.get 3301).map Cart.state == some (.onLoan 1)) = true := by
  decide

/-- Section 7.7, step 11: the last parcel of G2 creates three loans in item order. -/
theorem test_packed_group :
    sees (exec (.packed .mailroom 7 [13, 0, 0]) (dispatchDay .packing .dispatched .packing true true 5 0 1))
      (fun t => t.tally == 5 && t.orders.get 2 == none && t.loans.map (fun e => e.2.object)
        == [.cartridge 3310 [1], .cartridge 3315 [2], .copySet 700]
        && (t.loans.get 3).map Loan.daysLeft == some 42) = true := by
  decide

/-! ### Returns, renewals and the calendar -/

/-- A returns line: cartridges in every state, with loan 1 of patron 1402 and loan 2 of a CLOSING patron. -/
def returns : State :=
  { quiet with
    patrons := [(7, ⟨.closing, 1, 1, .c1, .together, 1, []⟩), (1402, ⟨.suspended, 3, 1, .c1, .together, 2, []⟩)]
    carts := [(900, ⟨.c1, .onLoan 1, 9, 1⟩), (901, ⟨.c2, .onLoan 2, 4, 0⟩), (902, ⟨.c3, .lost, 5, 2⟩), (903, ⟨.c1, .retired, 400, 3⟩),
      (904, ⟨.c1, .blank, 1, 0⟩)]
    blank := ⟨[904], [], []⟩
    loans := [(1, ⟨1402, .cartridge 900 [4418, 4419], 28, 0, 1, .overdue 15⟩), (2, ⟨7, .cartridge 901 [4418], 28, 5, 0, .out⟩)]
    heldTotal := 3 }

theorem witness_CartIn :
    (Ready .returns returns ∧ 4294967295 < 256 ^ 4 ∧ returns.carts.get 4294967295 = none)
      ∧ (returns.carts.get 903 = some ⟨.c1, .retired, 400, 3⟩ ∧ returns.carts.get 904 = some ⟨.c1, .blank, 1, 0⟩
        ∧ returns.carts.get 902 = some ⟨.c3, .lost, 5, 2⟩)
      ∧ (returns.carts.get 900 = some ⟨.c1, .onLoan 1, 9, 1⟩
        ∧ returns.loans.get 1 = some ⟨1402, .cartridge 900 [4418, 4419], 28, 0, 1, .overdue 15⟩
        ∧ (returns.patrons.get 1402).map Patron.state = some .suspended ∧ (∀ e ∈ returns.loans, e.1 ≠ 1 → e.2.patron ≠ 1402))
      ∧ (returns.carts.get 901 = some ⟨.c2, .onLoan 2, 4, 0⟩
        ∧ (returns.patrons.get 7).map (fun p => (p.state, p.held)) = some (.closing, 1)
        ∧ returns.loans.get 2 = some ⟨7, .cartridge 901 [4418], 28, 5, 0, .out⟩)
      ∧ (∃ p ∈ returns.patrons.get 1402, ∀ l ∈ returns.loans.get 1, returns.rechecked 1 l p = .active
        ∧ ({ returns with loans := returns.loans ++ [(3, ⟨1402, .copySet 5, 42, 0, 0, .overdue 14⟩)] } : State).rechecked 1 l p
          = .suspended) :=
  ⟨⟨⟨rfl, rfl, rfl⟩, by decide⟩, by decide⟩

/-- The loan of a SUSPENDED patron, E = 15: loan, patron, state and E, renewals, titles, class, H and the patron's state
(R153), and the patron ACTIVE and on the pass queue (R28); and the loan of a CLOSING patron that holds another unit (R30). -/
theorem test_cartIn :
    answers .returns (exec (.cartIn .returns 7 (writeFields [4] [900])) returns) .done
        [1, 1402, 2, 15, 1, 4418, 4419, 1, 1, 1] = true
      ∧ sees (exec (.cartIn .returns 7 (writeFields [4] [900])) returns) (fun t => t.unwiped == [900] && t.passQueue == [1402]
          && t.heldTotal == 2) = true
      ∧ answers .returns (exec (.cartIn .returns 7 (writeFields [4] [901]))
          { returns with patrons := returns.patrons.put 7 ⟨.closing, 1, 1, .c1, .together, 2, []⟩ }) .done
        [2, 7, 1, 0, 4418, 2, 1, 4] = true := by
  decide

theorem test_cartIn_lost :
    sees (exec (.cartIn .returns 7 (writeFields [4] [902])) returns) (fun t => t.unwiped == [902]
      && (t.carts.get 902).map Cart.state == some .unwiped && (t.port .duplication).notices == [.workWaiting]) = true := by
  decide

/-- Set 640 of section 9.8, with its state, and loan 88 with its state. -/
def postbag (set : SetState) (loan : LoanState) (weights : List Nat) : State :=
  { quiet with
    patrons := [(810, { waiter with wishes := [brailleWish 5120] }), (3075, ⟨.suspended, 4, 1, .c1, .together, 2, []⟩)]
    titles := [(5120, ⟨false, none, some weights, [640], [810]⟩)]
    copySets := [(640, ⟨5120, set⟩)]
    loans := [(88, ⟨3075, .copySet 640, 42, 0, 0, loan⟩)]
    heldTotal := 2
    settings := { Settings.default with partialGrace := 3 } }

/-- Five volumes of 1 kg. -/
def five : List Nat := [100, 100, 100, 100, 100]

theorem ready_postbag (set : SetState) (loan : LoanState) (ws : List Nat) (l : Link) : Ready l (postbag set loan ws) := by
  cases l <;> exact ⟨rfl, rfl, rfl⟩

theorem witness_VolInOnLoan :
    (Ready .returns (postbag (.onLoan 88) (.overdue 15) five) ∧ Fits [2, 1] [640, 255] ∧ Fits [2, 1] [640, 1]
        ∧ (postbag (.onLoan 88) (.overdue 15) five).copySets.get 0 = none)
      ∧ ((postbag (.onLoan 88) (.overdue 15) five).copySets.get 640 = some ⟨5120, .onLoan 88⟩
        ∧ (postbag (.onLoan 88) (.overdue 15) five).titles.get 5120 = some ⟨false, none, some five, [640], [810]⟩
        ∧ 1 ≤ 5 ∧ 5 ≤ five.length ∧ five.length < 6)
      ∧ ((∀ n, SetState.available ≠ .onLoan n) ∧ ∀ vs, SetState.available ≠ .incomplete vs)
      ∧ ((postbag (.onLoan 88) .out five).loans.get 88 = some ⟨3075, .copySet 640, 42, 0, 0, .out⟩ ∧ 2 ≤ five.length)
      ∧ ((postbag (.onLoan 88) (.overdue 15) five).loans.get 88 = some ⟨3075, .copySet 640, 42, 0, 0, .overdue 15⟩
        ∧ ((postbag (.onLoan 88) (.overdue 15) five).patrons.get 3075).map Patron.state = some .suspended
        ∧ (postbag (.onLoan 88) (.overdue 15) five).loans.wf = true)
      ∧ (let s := postbag (.onLoan 88) (.overdue 3) [100];
        let late : State := { s with loans := s.loans ++ [(89, ⟨3075, .copySet 1, 42, 0, 0, .overdue 14⟩)] };
        s.loans.get 88 = some ⟨3075, .copySet 640, 42, 0, 0, .overdue 3⟩ ∧ s.titles.get 5120 ≠ none
          ∧ ∀ st ∈ [PatronState.active, .paused 9, .closing], ∀ l ∈ s.loans.get 88, ∀ p ∈ s.patrons.get 3075,
            s.rechecked 88 l { p with state := st } = st ∧ late.rechecked 88 l p = .suspended)
      ∧ (2 ∈ [2, 4] ∧ 1 ∉ [2, 4] ∧ [2, 4].length + 1 < five.length)
      ∧ ([100].length = 1 ∧ 1 ∉ [2, 3, 4, 5] ∧ [2, 3, 4, 5].length + 1 = five.length
        ∧ (postbag (.onLoan 88) .out [100]).loans.get 88 = some ⟨3075, .copySet 640, 42, 0, 0, .out⟩) :=
  ⟨⟨ready_postbag .., fits_of (by decide), fits_of (by decide), by decide⟩, by decide, by simp, by decide, by decide, by decide,
    by decide, by decide⟩

/-- Section 11.5, step 12: loan L4870 of patron 3388, ACTIVE with E = 3 and D = 0. -/
def stepTwelve : State :=
  { quiet with
    patrons := [(3388, ⟨.active, 2, 2, .c1, .asReady, 1, []⟩)]
    titles := [(2044, ⟨false, none, some [100, 100, 100, 100], [212], []⟩)], copySets := [(212, ⟨2044, .onLoan 4870⟩)]
    loans := [(4870, ⟨3388, .copySet 212, 42, 0, 0, .overdue 3⟩)], heldTotal := 1 }

/-- Section 9.8, step 1, and section 11.5, step 12, where "nothing changes" but the loan. -/
theorem test_volIn_first :
    sees (exec (.volIn .returns 7 [0x80, 0x02, 2]) (postbag (.onLoan 88) (.overdue 15) five)) (fun t =>
      (t.loans.get 88).map (fun l => (l.state, l.daysLeft)) == some (.part [2] 3, 0) && t.passQueue == [3075]
        && (t.patrons.get 3075).map Patron.state == some .active) = true
      ∧ sees (exec (.volIn .returns 7 [0xD4, 0, 1]) stepTwelve) (fun t => t.patrons == stepTwelve.patrons && t.passQueue == []
        && t.loans == [(4870, ⟨3388, .copySet 212, 42, 0, 0, .part [1] 10⟩)] && (t.port .order).notices == []) = true := by
  decide

/-- Section 9.8, "Had volumes 1, 3 and 5 come back": the last volume closes the loan and the set is offered at once. -/
theorem test_volIn_last :
    sees (exec (.volIn .returns 7 [0x80, 0x02, 5]) (postbag (.onLoan 88) (.part [1, 2, 3, 4] 1) five)) (fun t => t.loans == []
      && (t.copySets.get 640).map CopySet.state == some .available && t.pendingOffers == [640] && t.heldTotal == 1) = true := by
  decide

theorem witness_LateVolumesAndSetFound :
    (Ready .mailroom (postbag (.incomplete [1, 5]) .out five) ∧ Ready .returns (postbag (.incomplete [1, 5]) .out five)
        ∧ 640 < 256 ^ 2 ∧ (postbag (.incomplete [1, 5]) .out five).copySets.get 65535 = none)
      ∧ ((postbag (.incomplete [1, 5]) .out five).copySets.get 640 = some ⟨5120, .incomplete [1, 5]⟩
        ∧ (postbag (.incomplete [1, 5]) .out five).titles.get 5120 = some ⟨false, none, some five, [640], [810]⟩)
      ∧ (∀ vs, SetState.available ≠ .incomplete vs)
      ∧ (3 ∉ [1, 5] ∧ 3 ≤ five.length ∧ 5 ∈ [1, 5] ∧ [1, 5].erase 5 ≠ [] ∧ [5] = [5]) :=
  ⟨⟨ready_postbag .., ready_postbag .., by decide⟩, by decide, by simp, by decide⟩

/-- Section 9.8, steps 9 to 11: a late volume, the same again, and the set found. -/
theorem test_setFound :
    answers .mailroom (exec (.setFound .mailroom 7 [0x80, 0x02]) (postbag (.incomplete [1, 5]) .out five)) .done [1, 5] = true
      ∧ sees (exec (.setFound .mailroom 7 [0x80, 0x02]) (postbag (.incomplete [1, 5]) .out five)) (fun t =>
        (t.copySets.get 640).map CopySet.state == some .available && t.pendingOffers == [640]) = true := by
  decide

/-- The loans of section 8.8: L1 and L2 of patron 1402, with the days and renewals of each, and a waiter for set 510. -/
def twoLoans (d1 r1 : Nat) (l2 : LoanState) (d2 day : Nat) : State :=
  { quiet with
    patrons := [(1402, ⟨.active, 3, 1, .c1, .together, 2, []⟩), (2290, { waiter with wishes := [brailleWish 77] })]
    titles := [(77, ⟨false, none, some [90, 90, 90], [510], [2290]⟩)]
    copySets := [(510, ⟨77, .onLoan 2⟩)]
    carts := [(900, ⟨.c1, .onLoan 1, 1, 0⟩)]
    loans := [(1, ⟨1402, .cartridge 900 [4418, 4419], 8, d1, r1, .out⟩), (2, ⟨1402, .copySet 510, 8, d2, 0, l2⟩)]
    heldTotal := 2, day := day
    settings := { Settings.default with cartTerm := 8, brailleTerm := 8, renewalMax := 1, suspendAfter := 2, lostAfter := 4 } }

theorem ready_twoLoans (a b : Nat) (l2 : LoanState) (c d : Nat) (l : Link) : Ready l (twoLoans a b l2 c d) := by
  cases l <;> exact ⟨rfl, rfl, rfl⟩

theorem witness_RenewAndLoanRead :
    (Ready .order (twoLoans 3 0 .out 1 300) ∧ 16777215 < 256 ^ 3 ∧ (twoLoans 3 0 .out 1 300).loans.get 16777215 = none)
      ∧ ((twoLoans 3 0 .out 1 300).loans.get 1 = some ⟨1402, .cartridge 900 [4418, 4419], 8, 3, 0, .out⟩
        ∧ 0 < (twoLoans 3 0 .out 1 300).settings.renewalMax ∧ 8 / 4 < 3)
      ∧ ((twoLoans 3 0 .out 1 300).loans.get 2 = some ⟨1402, .copySet 510, 8, 1, 0, .out⟩ ∧ 1 ≤ 8 / 4
        ∧ (twoLoans 3 0 .out 1 300).copySets.get 510 = some ⟨77, .onLoan 2⟩
        ∧ ((twoLoans 3 0 .out 1 300).titles.get 77).map Title.waiting = some [2290])
      ∧ ((twoLoans 2 0 (.overdue 0) 0 301).loans.get 2 = some ⟨1402, .copySet 510, 8, 0, 0, .overdue 0⟩ ∧ 2 ≤ 8 / 4)
      ∧ ((twoLoans 8 1 (.part [1] 10) 0 304).settings.renewalMax ≤ 1
        ∧ (twoLoans 8 1 (.part [1] 10) 0 304).loans.get 2 = some ⟨1402, .copySet 510, 8, 0, 0, .part [1] 10⟩)
      ∧ (Fits [2, 3] [1402, 0] ∧ Fits [2, 3] [65535, 16777215] ∧ (twoLoans 3 0 .out 1 300).patrons.get 1402 ≠ none
        ∧ (twoLoans 3 0 .out 1 300).patrons.get 1 = none ∧ ∀ n, NoPassFor n (twoLoans 3 0 .out 1 300)) :=
  ⟨⟨ready_twoLoans .., by decide⟩, by decide, by decide, by decide, by decide, fits_of (by decide), fits_of (by decide), by decide,
    by decide, noPass rfl⟩

/-- Section 8.8, steps 1, 2 and 5. -/
theorem test_renew :
    answers .order (exec (.renew .order 7 [1, 0, 0]) (twoLoans 3 0 .out 1 300)) .tooEarly [1, 3, 0, 8, 2] = true
      ∧ answers .order (exec (.renew .order 7 [2, 0, 0]) (twoLoans 3 0 .out 1 300)) .wanted [1, 1, 0, 8, 2] = true
      ∧ answers .order (exec (.renew .order 7 [1, 0, 0]) (twoLoans 2 0 (.overdue 0) 0 301)) .done [1, 10, 1] = true := by
  decide

/-- A patron's loans from number 2 on: one loan, none left, and the calendar. -/
theorem test_loanRead :
    answers .order (exec (.loanRead .order 7 (2 :: writeFields [2, 3] [1402, 2])) (twoLoans 2 0 (.overdue 0) 0 301)) .done
      [2, 1402, 2, 510, 77, 8, 0, 2, 0, 2, 0, 0x11, 0, 301, 1, 1, 2, 4] = true := by
  decide

/-- An order of patron 9 with one item. -/
def oneItem (o : ItemObject) (w : WishEntry) (m : Mode) (p : Patron) : State :=
  { idleRack with
    patrons := [(9, p)]
    titles := [(95, recorded), (610, ⟨false, none, some [100, 100], [271], [913]⟩)]
    copySets := [(271, ⟨610, .reserved 1 1⟩)]
    orders := [(1, ⟨9, m, .normal, [⟨1, o, .normal, [w], false, false⟩]⟩)]
    jobs := [(40, job 1 .queued 0)], jobQueue := [40], reserved := ⟨0, 1, 0⟩
    tasks := [(1, ⟨271, 1, .normal, .queued⟩)], pullQueue := [1], heldTotal := 1 }

/-- Patron 9, with one unit held. -/
def nine : Patron := ⟨.active, 3, 1, .c2, .together, 1, []⟩

/-- The order of set 271. -/
def setOrder : State := oneItem (.copySet 271) (brailleWish 610) .together nine

/-- The order of job 40. -/
def jobOrder : State := oneItem (.job 40) (wish 95 .cartridge .normal) .together nine

theorem witness_OrderCancel :
    (Ready .order setOrder ∧ Ready .order jobOrder ∧ (∀ n, NoPassFor n setOrder) ∧ (∀ n, NoPassFor n jobOrder)
        ∧ Fits [2, 3, 1] [9, 1, 1] ∧ Fits [2, 3, 1] [0, 16777215, 255]
        ∧ setOrder.patrons.get 16384 = none)
      ∧ (setOrder.patrons.get 9 = some nine ∧ setOrder.orders.get 2 = none ∧ nine.state ≠ .closing)
      ∧ ((∀ e ∈ ({ setOrder with orders := [] }).orders, e.2.patron ≠ 9) ∧ backlog { setOrder with orders := [] } = [])
      ∧ (setOrder.orders.get 1 = some ⟨9, .together, .normal, [⟨1, .copySet 271, .normal, [brailleWish 610], false, false⟩]⟩
        ∧ (∀ e ∈ setOrder.parcels, e.2.order ≠ 1) ∧ backlog setOrder = []
        ∧ setOrder.copySets.get 271 = some ⟨610, .reserved 1 1⟩
        ∧ setOrder.titles.get 610 = some ⟨false, none, some [100, 100], [271], [913]⟩
        ∧ setOrder.tasks.get 1 = some ⟨271, 1, .normal, .queued⟩ ∧ (∀ e ∈ setOrder.tasks, e.2.copySet = 271 → e.1 = 1)
        ∧ nine.wishes.length < 64 ∧ nine.wishes = [] ++ [])
      ∧ (({ jobOrder with jobs := [(40, job 1 (.assigned 6 610) 0)] }).jobs.get 40 = some (job 1 (.assigned 6 610) 0)
        ∧ backlog { jobOrder with jobs := [(40, job 1 (.assigned 6 610) 0)] } = [])
      ∧ (jobOrder.jobs.get 40 = some (job 1 .queued 0) ∧ jobOrder.marks = ⟨false, false, false⟩ ∧ jobOrder.starved.get .c2 = []
        ∧ (jobOrder.blank.get .c2).length - (jobOrder.reserved.get .c2 - 1) ≤ jobOrder.settings.critical.get .c2
        ∧ backlog jobOrder = []) :=
  ⟨⟨⟨rfl, rfl, rfl⟩, ⟨rfl, rfl, rfl⟩, noPass rfl, noPass rfl, fits_of (by decide), fits_of (by decide), by decide⟩, by decide,
    by decide, by decide, by decide, by decide⟩

/-- An order of three jobs of patron 9: QUEUED, ASSIGNED and, of class 1, STARVED. -/
def threeJobs : State :=
  { idleRack with
    patrons := [(9, { nine with held := 3 })], heldTotal := 3
    orders := [(1, ⟨9, .asReady, .normal, [⟨1, .job 40, .normal, [wish 95 .cartridge .normal], false, false⟩, itemTwo,
      ⟨3, .job 42, .normal, [wish 300 .cartridge .normal], false, false⟩]⟩)]
    jobs := [(40, job 1 .queued 0), (41, job 2 (.assigned 6 611) 0), (42, { job 3 .starved 1 with cls := .c1 })]
    jobQueue := [40], starved := ⟨[42], [], []⟩, reserved := ⟨0, 1, 0⟩ }

/-- The dispatch day with parcel 13 in the Mailroom's hands: orders 1 and 3 can be cancelled whole, order 2 but for its set. -/
def handingDay : State := dispatchDay .ready .ready .packing false true 1 3 0

/-- An order of two cartridges, parcel 1 DISPATCHED and parcel 2 READY in a begun group. -/
def halfSent : State :=
  { idleRack with
    patrons := [(9, { nine with held := 2 })], jobs := [], jobQueue := [], reserved := ⟨0, 0, 0⟩
    carts := [(610, ⟨.c2, .written 1 1, 4, 0⟩), (611, ⟨.c2, .written 1 2, 4, 0⟩)], blank := ⟨[], [], []⟩, unwiped := []
    orders := [(1, ⟨9, .together, .normal, [written 1 610, written 2 611]⟩)]
    parcels := [(1, ⟨1, 1, .cartridges [610], .dispatched⟩), (2, ⟨1, 1, .cartridges [611], .ready⟩)]
    groups := [(1, ⟨.normal, [1, 2], true⟩)], dispatchQueue := [2], todayCount := 1, reservedCap := 1 }

/-- A cancellation of one order, of every order of a patron, of a job whose blank a starved one takes, and one that leaves a begun
group with DISPATCHED parcels alone. -/
theorem witness_OrderCancel_general :
    (Ready .order threeJobs ∧ (∀ n, NoPassFor n threeJobs) ∧ backlog threeJobs = [] ∧ CancelReady threeJobs 9 [1])
      ∧ (Ready .order handingDay ∧ (∀ n, NoPassFor n handingDay) ∧ Fits [2, 3, 1] [4102, 0, 1]
        ∧ handingDay.orders.select (fun _ r => r.patron == 4102) = [1, 2, 3] ∧ CancelReady handingDay 4102 [1, 2, 3]
        ∧ lastSent handingDay [1, 2, 3] = [])
      ∧ (let s : State := { jobOrder with
            jobs := [(40, job 1 .queued 0), (41, job 2 .starved 1)], starved := ⟨[], [41], []⟩, blank := ⟨[], [610], []⟩ };
        Ready .order s ∧ s.marks = ⟨false, false, false⟩ ∧ s.starved.get .c2 = 41 :: [] ∧ 40 ∈ s.jobQueue
          ∧ s.jobs.get 41 = some (job 2 .starved 1) ∧ s.reserved.get .c2 = (s.blank.get .c2).length ∧ 1 ≤ s.reserved.get .c2)
      ∧ (Ready .order halfSent ∧ halfSent.tablesWf = true ∧ backlog halfSent = []
        ∧ halfSent.orders.get 1 = some ⟨9, .together, .normal, [written 1 610, written 2 611]⟩
        ∧ halfSent.parcels.get 1 = some ⟨1, 1, .cartridges [610], .dispatched⟩
        ∧ halfSent.parcels.get 2 = some ⟨1, 1, .cartridges [611], .ready⟩
        ∧ (∀ e ∈ halfSent.parcels, e.2.order = 1 → e.1 = 1 ∨ e.1 = 2) ∧ halfSent.groups.get 1 = some ⟨.normal, [1, 2], true⟩
        ∧ (∀ e ∈ halfSent.groups, e.1 ≠ 1 → e.2.parcels.head? ≠ some 1 ∧ e.2.parcels.head? ≠ some 2)
        ∧ halfSent.carts.get 610 ≠ none ∧ halfSent.carts.get 611 ≠ none ∧ halfSent.loans.get halfSent.counters.loan = none) :=
  ⟨⟨⟨rfl, rfl, rfl⟩, noPass rfl, by decide,
      cancelReady_of (by decide +kernel) (by decide +kernel) (by decide +kernel) (by decide +kernel) (by decide +kernel)⟩,
    ⟨ready_dispatchDay .., noPass rfl, fits_of (by decide), by decide,
      cancelReady_of (by decide +kernel) (by decide +kernel) (by decide +kernel) (by decide +kernel) (by decide +kernel),
      by decide +kernel⟩,
    ⟨⟨rfl, rfl, rfl⟩, by decide⟩, ⟨rfl, rfl, rfl⟩, by decide⟩

/-- Patron 9's cancellation while patron 8's begun group has one parcel DISPATCHED and the next READY; one of an order whose begun
group keeps a READY parcel behind a DISPATCHED one; and one, by ORDER-CANCEL or PATRON-CLOSE, that leaves a begun group with
DISPATCHED parcels alone. -/
theorem witness_cancel_begun :
    (let s := { threeJobs with
        patrons := [(8, nine), (9, { nine with held := 3 })]
        carts := halfSent.carts, orders := threeJobs.orders ++ [(2, ⟨8, .together, .normal, [written 1 610, written 2 611]⟩)]
        parcels := [(1, ⟨2, 1, .cartridges [610], .dispatched⟩), (2, ⟨2, 1, .cartridges [611], .ready⟩)]
        groups := halfSent.groups, dispatchQueue := [2] };
      Ready .order s ∧ CancelReady s 9 [1] ∧ lastSent s [1] = [] ∧ backlog s = [])
      ∧ (let s := dispatchDay .ready .dispatched .ready false true 3 1 0;
        Ready .order s ∧ CancelReady s 4102 [1, 2, 3] ∧ lastSent s [1, 2, 3] = [] ∧ (goneItems s [1, 2, 3]).length = 2)
      ∧ (Ready .order halfSent ∧ CancelReady halfSent 9 [1] ∧ lastSent halfSent [1] = [1] ∧ keptOf halfSent 1 ≠ []
        ∧ halfSent.orders.select (fun _ r => r.patron == 9) = [1] ∧ loanRoom halfSent 2) :=
  ⟨⟨⟨rfl, rfl, rfl⟩,
      cancelReady_of (by decide +kernel) (by decide +kernel) (by decide +kernel) (by decide +kernel) (by decide +kernel),
      by decide +kernel, by decide⟩,
    ⟨ready_dispatchDay ..,
      cancelReady_of (by decide +kernel) (by decide +kernel) (by decide +kernel) (by decide +kernel) (by decide +kernel),
      by decide +kernel, by decide +kernel⟩,
    ⟨rfl, rfl, rfl⟩,
    cancelReady_of (by decide +kernel) (by decide +kernel) (by decide +kernel) (by decide +kernel) (by decide +kernel),
    by decide +kernel, by decide, by decide, fun k _ => rfl, by decide⟩

/-- A cancellation with an order whose cartridge waits for a parcel record, and the backlog it leaves to serve. -/
theorem witness_OrderCancel_served :
    let s := { threeJobs with
      carts := threeJobs.carts.put 700 ⟨.c1, .written 2 1, 1, 0⟩
      orders := threeJobs.orders ++ [(2, ⟨9, .asReady, .normal, [written 1 700]⟩)] };
    Ready .order s ∧ CancelReady s 9 [1] ∧ backlog s = [(2, 1)] ∧ ∃ u, BacklogServed (cancelOrders false [1] s).1 u :=
  ⟨⟨rfl, rfl, rfl⟩,
    cancelReady_of (by decide +kernel) (by decide +kernel) (by decide +kernel) (by decide +kernel) (by decide +kernel),
    by decide, backlogServed_asReady 2 1 ⟨9, .asReady, .normal, [written 1 700]⟩ (written 1 700) (by decide) (by decide)
      (by decide)⟩

/-- R121 step 3, R133: the READY parcel goes, and the DISPATCHED one's loan is created; the order is freed. -/
theorem test_orderCancel_finishes :
    answers .order (exec (.orderCancel .order 7 (writeFields [2, 3, 1] [9, 1, 0])) halfSent) .partly [1, 1, 1, 1, 1] = true
      ∧ sees (exec (.orderCancel .order 7 (writeFields [2, 3, 1] [9, 1, 0])) halfSent) (fun t => t.orders == [] && t.groups == []
        && t.parcels == [] && t.unwiped == [611] && t.loans.map (fun e => e.2.object) == [.cartridge 610 [1]]
        && t.reservedCap == 0 && t.tally == 1) = true := by
  decide +kernel

/-- A RESERVED set with restore: the set AVAILABLE and offered, the entry back and the patron at the head of the list. -/
theorem test_orderCancel_restores :
    answers .order (exec (.orderCancel .order 7 (writeFields [2, 3, 1] [9, 1, 1])) setOrder) .done [1, 1, 0, 1, 0] = true
      ∧ sees (exec (.orderCancel .order 7 (writeFields [2, 3, 1] [9, 1, 1])) setOrder) (fun t => t.tasks == []
        && t.pendingOffers == [271] && (t.titles.get 610).map Title.waiting == some [9, 913] && t.passQueue == [9]
        && (t.patrons.get 9).map (fun p => (p.held, p.wishes)) == some (0, [brailleWish 610])) = true := by
  decide

/-- A QUEUED job is freed with its reservation, and an ASSIGNED one goes CANCEL-PENDING (R72, R120). -/
theorem test_orderCancel_jobs :
    sees (exec (.orderCancel .order 7 (writeFields [2, 3, 1] [9, 0, 0])) jobOrder)
        (fun t => t.jobs == [] && t.jobQueue == [] && t.reserved.c2 == 0 && t.orders == []) = true
      ∧ sees (exec (.orderCancel .order 7 (writeFields [2, 3, 1] [9, 0, 0]))
          { jobOrder with jobs := [(40, job 1 (.assigned 6 610) 0)], jobQueue := [] })
        (fun t => t.jobs == [(40, job 1 (.cancelPending 6 610) 0)]) = true := by
  decide

/-- R120, R121: order 1's QUEUED job releases its class's list at the level crossing and the marked list, then the patron joins;
order 2's job releases a list of a lower class behind it. -/
theorem test_orderCancel_each_order :
    sees (exec (.orderCancel .order 7 (writeFields [2, 3, 1] [9, 0, 1]))
        { jobOrder with
          patrons := [(9, { nine with held := 2 })], heldTotal := 2
          orders := [(1, ⟨9, .asReady, .normal, [⟨1, .job 40, .normal, [wish 95 .cartridge .normal], false, false⟩]⟩),
            (2, ⟨9, .asReady, .normal, [⟨1, .job 41, .normal, [wish 300 .cartridge .normal], false, false⟩]⟩)]
          jobs := [(40, job 1 .queued 0), (41, { job 2 .queued 0 with order := 2, cls := .c1 })], jobQueue := [40, 41]
          tasks := [], pullQueue := [], blank := ⟨[601], [610], []⟩, reserved := ⟨1, 1, 0⟩, marks := ⟨false, false, true⟩
          settings := { idleRack.settings with critical := ⟨0, 0, 0⟩ }, blocked := ⟨[21, 23], [22], [23]⟩, passQueue := [] })
      (fun t => t.passQueue == [22, 23, 9, 21] && t.blocked == ⟨[], [], []⟩ && t.orders == []
        && t.marks == ⟨false, false, false⟩) = true := by
  decide

theorem witness_NewDayClosed :
    (Ready .order day7 ∧ ∃ e ∈ day7.parcels, e.2.state = .packing)
      ∧ (Ready .order morning ∧ 255 < 256 ∧ 255 ≠ 1 ∧ morning.patrons.wf = true
        ∧ ¬ ((∃ e ∈ morning.parcels, e.2.state = .packing) ∨ ∃ e ∈ morning.groups, e.2.begun = true)) :=
  ⟨⟨ready_dispatchDay .., by decide⟩, ready_morning _, by decide⟩

/-- Section 7.7, step 9: four parcels of G2 and P10 PACKING, two groups begun. -/
theorem test_newDay_refused :
    answers .order (exec (.newDay .order 7 [1]) day7) .dispatchOpen [5, 2] = true := by decide

/-- A closed day moves the day through its wrap, ends the pause of that day and moves no loan (R26, R137; section 8.8, step 6). -/
theorem test_newDay_closed :
    sees (exec (.newDay .order 7 [2]) { morning with day := 65535, patrons := [(6, { waiter with state := .paused 0 })] })
      (fun t => t.day == 0 && !t.dayOpen && (t.patrons.get 6).map Patron.state == some .active && t.passQueue == [6]
        && t.loans == morning.loans) = true := by
  decide

theorem witness_NewDayOpen :
    Ready .order (twoLoans 7 1 (.overdue 3) 0 305) ∧ (twoLoans 7 1 (.overdue 3) 0 305).tablesWf = true
      ∧ (∀ e ∈ (twoLoans 7 1 (.overdue 3) 0 305).parcels, e.2.state ≠ .packing)
      ∧ (∀ e ∈ (twoLoans 7 1 (.overdue 3) 0 305).groups, e.2.begun = false) :=
  ⟨ready_twoLoans .., by decide⟩

/-- Section 8.8, step 3: L1 counts down and L2 falls due at E = 0. -/
theorem test_newDay_due :
    answers .order (exec (.newDay .order 7 [1]) (twoLoans 3 0 .out 1 300)) .done [301, 1, 600, 1, 0, 0, 0, 0, 0] = true
      ∧ sees (exec (.newDay .order 7 [1]) (twoLoans 3 0 .out 1 300)) (fun t =>
        t.loans.map (fun e => (e.2.state, e.2.daysLeft)) == [(.out, 2), (.overdue 0, 0)]) = true := by
  decide

/-- Section 8.8, step 11: L2 is LOST, set 510 INCOMPLETE with three volumes missing, H 1. -/
theorem test_newDay_lost :
    sees (exec (.newDay .order 7 [1]) (twoLoans 7 1 (.overdue 3) 0 305)) (fun t => t.loans.map Prod.fst == [1]
      && (t.copySets.get 510).map CopySet.state == some (.incomplete [1, 2, 3])
      && (t.patrons.get 1402).map (fun p => (p.state, p.held)) == some (.active, 1) && t.passQueue == [1402]
      && (t.port .order).notices == [.loansLost] && (t.port .returns).notices == [.loansLost]) = true := by
  decide

/-- A CLOSING patron's last loan is LOST: its record is freed and it joins no queue (R30, R43, R141). -/
theorem test_newDay_closing :
    sees (exec (.newDay .order 7 [1]) { twoLoans 7 1 (.overdue 3) 0 305 with
        patrons := [(1402, ⟨.closing, 3, 1, .c1, .together, 1, []⟩)], loans := [(2, ⟨1402, .copySet 510, 8, 0, 0, .overdue 3⟩)]
        heldTotal := 1 })
      (fun t => t.patrons == [] && t.passQueue == [] && t.heldTotal == 0 && t.loans == []) = true := by
  decide

/-! ### The engines -/

/-- A patron of class 2 with two cartridge wishes and two braille wishes: patron 2730 of section 11.3, on the pass queue. -/
def serviceDay : State :=
  { quiet with
    patrons := [(2730, ⟨.active, 3, 2, .c2, .together, 0,
      [wish 118 .cartridge .normal, brailleWish 640, wish 905 .cartridge .normal, brailleWish 771]⟩)]
    titles := [(118, ⟨false, some ⟨2000, 1⟩, none, [], []⟩), (640, ⟨false, none, some [260, 290, 180], [41], [2730]⟩),
      (771, ⟨false, none, some [100, 100], [90], [2730]⟩), (905, ⟨false, some ⟨3100, 1⟩, none, [], []⟩)]
    copySets := [(41, ⟨640, .available⟩), (90, ⟨771, .available⟩)]
    blank := ⟨[], List.range' 5110 52, []⟩
    passQueue := [2730]
    counters := ⟨2201, 61455, 3300, 902, 5120, 402, 90016⟩ }

/-- The same day with the pass of patron 2730 running, and with its PATRON-READ waiting. -/
def engaged : State := { serviceDay with passQueue := [], running := some ⟨2730, none⟩ }
/-- The request that waits. -/
def kept : State :=
  engaged.withPort .order { idlePort with inProgress := some ⟨7, Kind.patronRead.code⟩, waiting := some [0xAA, 0x0A] }

theorem witness_StepTakesFrontCommand :
    (quiet.pending = [] ∧ quiet.offer = none ∧ quiet.pendingOffers = [] ∧ quiet.passQueue = [])
      ∧ (engaged.pending = [] ∧ engaged.running ≠ none)
      ∧ (serviceDay.pending = [] ∧ serviceDay.restartAsserted = false ∧ serviceDay.running = none ∧ serviceDay.offer = none
        ∧ serviceDay.pendingOffers = [] ∧ serviceDay.passQueue = 2730 :: []) := by
  decide

/-- A PATRON-READ, an ORDER-CANCEL of every order and a LOAN-READ of the patron of the running pass. -/
theorem witness_BusyNewcomer_waits :
    Ready .order engaged ∧ (engaged.port .order).waiting = none ∧ engaged.running = some ⟨2730, none⟩
      ∧ (Kind.patronRead.widths = some [2] ∧ Fits [2] [2730] ∧ ([0xAA, 0x0A] : List Byte) = writeFields [2] [2730])
      ∧ (Kind.orderCancel.widths = some [2, 3, 1] ∧ Fits [2, 3, 1] [2730, 0, 0])
      ∧ Fits [2, 3] [2730, 1] :=
  ⟨⟨rfl, rfl, rfl⟩, rfl, rfl, ⟨rfl, fits_of (by decide), by decide⟩, ⟨rfl, fits_of (by decide)⟩, fits_of (by decide)⟩

/-- A step on an empty queue begins the pass at the head of the pass queue (R44; log entry 4). -/
theorem test_idle_begins_pass :
    sees (step serviceDay) (fun t => t.running == some ⟨2730, none⟩ && t.passQueue == [] && t.orders == []) = true := by
  decide

/-- The request of the running pass's patron waits without an answer, and another frame meets BUSY (R22, R168). -/
theorem test_request_waits :
    sees (exec (.patronRead .order 7 [0xAA, 0x0A]) engaged) (fun t => (t.port .order).inProgress == some ⟨7, Kind.patronRead.code⟩
        && (t.port .order).waiting == some [0xAA, 0x0A] && (t.port .order).sendList == []) = true
      ∧ sees (exec (.status .order 8 []) kept) (fun t => (t.port .order).sendList == [.busy 8 Kind.status.code]
        && (t.port .order).waiting == some [0xAA, 0x0A]) = true := by
  decide

/-- After the pass the request is taken, and sees the pass's effects: H 3 and an empty wish list (R22; section 11.3, step 6). -/
theorem test_waiting_request_taken :
    answers .order (exec .selectionPass kept) .done [2730, 1, 3, 2, 2, 1, 3, 0, 0, 3, 0] = true := by
  decide +kernel

/-- A link restart withdraws the request that waits, and the pass goes on (R174). -/
theorem test_waiting_request_withdrawn :
    sees (exec (.linkRestart .order) kept) (fun t => (t.port .order).inProgress == none && (t.port .order).waiting == none
      && t.running == some ⟨2730, none⟩ && t.passQueue == []) = true := by
  decide

/-- Section 11.3, step 6. -/
theorem test_selectionPass :
    sees (exec .selectionPass serviceDay) (fun t =>
      (t.patrons.get 2730).map (fun p => (p.held, p.wishes)) == some (3, []) && t.reserved.c2 == 1
        && t.jobs == [(2201, ⟨90017, 61455, 2730, .c2, [⟨118, 1, 2004⟩, ⟨905, 1, 3108⟩], .normal, .queued, 0⟩)]
        && t.tasks == [(3300, ⟨41, 61455, .normal, .queued⟩), (3301, ⟨90, 61455, .normal, .queued⟩)]
        && (t.orders.get 61455).map (fun o => o.items.map Item.object) == some [.job 2201, .copySet 41, .copySet 90]
        && t.titles.map (fun e => e.2.waiting) == [[], [], [], []] && t.passQueue == []
        && (t.port .duplication).notices == [.workWaiting] && (t.port .mailroom).notices == [.pullWaiting]) = true := by
  decide

/-- The footprints of R53's table and of section 3.8. -/
theorem test_footprints :
    [2001, 5800, 1200, 3333, 1880, 1888, 15288].map footprint = [2012, 5804, 1204, 3340, 1884, 1892, 15292] := by decide

/-- A patron on the pass queue with one wish. -/
def onePass (p : Patron) : State :=
  { serviceDay with patrons := [(9, p)], passQueue := [9] }

/-- Patron 9 with nothing held and one wish. -/
def wanting (w : WishEntry) : Patron := ⟨.active, 3, 2, .c2, .together, 0, [w]⟩

theorem witness_SelectionPass :
    ((onePass nine).restartAsserted = false ∧ (onePass nine).offer = none ∧ (onePass nine).pendingOffers = []
        ∧ (onePass nine).passQueue = 9 :: [] ∧ (onePass { nine with held := 3 }).patrons.get 9 = some { nine with held := 3 }
        ∧ nine.allowance ≤ 3)
      ∧ ((onePass (wanting (wish 118 .cartridge .normal))).patrons.get 9 = some (wanting (wish 118 .cartridge .normal))
        ∧ (onePass (wanting (wish 118 .cartridge .normal))).titles.get 118 = some ⟨false, some ⟨2000, 1⟩, none, [], []⟩
        ∧ serviceDay.heldTotal < 40960 ∧ serviceDay.orders.length < 8192
        ∧ serviceDay.orders.get serviceDay.counters.order = none ∧ serviceDay.standing = .running
        ∧ serviceDay.settings.critical.get .c2 < (serviceDay.blank.get .c2).length - serviceDay.reserved.get .c2
        ∧ serviceDay.jobs.length < 4096 ∧ serviceDay.jobs.get serviceDay.counters.job = none
        ∧ serviceDay.counters.stamp < 4294967295)
      ∧ (({ serviceDay with blank := ⟨[], List.range' 5110 10, []⟩ }).blank.get .c2).length - serviceDay.reserved.get .c2
          ≤ serviceDay.settings.critical.get .c2
      ∧ (serviceDay.titles.get 640 = some ⟨false, none, some [260, 290, 180], [41], [2730]⟩ ∧ serviceDay.tasks.length < 4096
        ∧ serviceDay.tasks.get serviceDay.counters.task = none ∧ [41] = [] ++ 41 :: []
        ∧ serviceDay.copySets.get 41 = some ⟨640, .available⟩)
      ∧ (serviceDay.pending = [] ∧ serviceDay.running = none ∧ (serviceDay.port .order).waiting = none
        ∧ ∀ p ∈ serviceDay.patrons.get 2730,
            p.wishes.Pairwise (fun a b => ¬ (a.title = b.title ∧ a.format = b.format))
              ∧ p.state = .active ∧ p.held < p.allowance) := by
  decide

/-- A list of a withdrawn title, of titles without the format, and of a BRAILLE wish whose one set is INCOMPLETE; a BRAILLE wish
with no pull-task record free; and any wish with no order record free. -/
theorem witness_SelectionPass_skips :
    (let s := { onePass { nine with wishes :=
          [wish 118 .cartridge .normal, brailleWish 905, wish 640 .cartridge .normal, brailleWish 771] } with
        titles := serviceDay.titles.put 118 ⟨true, some ⟨2000, 1⟩, none, [], []⟩, copySets := [(90, ⟨771, .incomplete [1, 2]⟩)] };
      ∃ p, s.patrons.get 9 = some p ∧ p.state = .active ∧ p.held < p.allowance ∧ ∀ w ∈ p.wishes, SkippedAlone s w)
      ∧ SkippedAlone { serviceDay with tasks := List.replicate 4096 (1, ⟨41, 1, .normal, .queued⟩) } (brailleWish 640)
      ∧ SkippedAlone { serviceDay with orders := List.replicate 8192 (1, ⟨9, .together, .normal, []⟩) } (wish 118 .cartridge .normal) := by
  refine ⟨⟨_, rfl, rfl, by decide, fun w hw => ?_⟩, .inr ⟨_, rfl, .inr (.inr ⟨rfl, .inr (.inl List.length_replicate.ge)⟩)⟩,
    .inl List.length_replicate.ge⟩
  simp only [List.mem_cons, List.not_mem_nil, or_false] at hw
  obtain rfl | rfl | rfl | rfl := hw
  · exact .inr ⟨_, rfl, .inl rfl⟩
  · exact .inr ⟨_, rfl, .inr (.inr ⟨rfl, .inl rfl⟩)⟩
  · exact .inr ⟨_, rfl, .inr (.inl ⟨rfl, rfl⟩)⟩
  · exact .inr ⟨_, rfl, .inr (.inr ⟨rfl, .inr (.inr fun k hk c hc => by
      obtain rfl : k = 90 := by simpa using hk
      cases hc
      decide)⟩)⟩

/-- Section 3.8, case 4: free blanks at the critical level, so the patron joins blocked list 2; and section 11.5, step 15: set 90 is
INCOMPLETE, so the only entry is skipped, nothing is created, and the patron is on no blocked list. A patron on two lists leaves
the one and stays on the other where a PATRON-SET made it stay (R24, R49). -/
theorem test_selectionPass_skips :
    sees (exec .selectionPass { onePass (wanting (wish 118 .cartridge .normal)) with blank := ⟨[], List.range' 5110 10, []⟩ })
        (fun t => t.blocked == ⟨[], [9], []⟩ && t.jobs == [] && t.marks == ⟨false, false, false⟩ && t.passQueue == []) = true
      ∧ (let s := { onePass { nine with wishes := [brailleWish 771] } with copySets := [(90, ⟨771, .incomplete [1, 2]⟩)] };
        sees (exec .selectionPass s) (fun t => t == { s with passQueue := [] })
          && sees (exec .selectionPass { s with blocked := ⟨[9], [21, 9], []⟩, stays := ⟨[], [9], []⟩ })
            (fun t => t.blocked == ⟨[], [21, 9], []⟩ && t.stays == ⟨[], [9], []⟩)) = true := by
  decide

/-- Section 3.8, case 5: sets 449 and 450 of title 2200, and its waiting list with patrons 301 PAUSED, 118 with no units, and 640. -/
def offering (pending : List Nat) (offer : Option Offer) : State :=
  { quiet with
    patrons := [(77, ⟨.active, 2, 1, .c1, .together, 0, [brailleWish 2200]⟩),
      (118, ⟨.active, 3, 1, .c1, .together, 3, [brailleWish 2200]⟩), (301, ⟨.paused 9, 3, 1, .c1, .together, 0, [brailleWish 2200]⟩),
      (640, ⟨.active, 2, 1, .c1, .together, 0, [brailleWish 2200]⟩)]
    titles := [(2200, ⟨false, none, some [100], [449, 450], [301, 118, 640, 77]⟩)]
    copySets := [(449, ⟨2200, .available⟩), (450, ⟨2200, .available⟩)]
    heldTotal := 3, passQueue := [640], pendingOffers := pending, offer := offer }

/-- Patron 640 of section 3.8, case 5, with the braille wish alone. -/
def offered : Patron := ⟨.active, 2, 1, .c1, .together, 0, [brailleWish 2200]⟩

theorem witness_CopySetOffer :
    ((offering [450] none).restartAsserted = false ∧ (offering [450] none).copySets.get 450 = some ⟨2200, .available⟩
        ∧ (offering [450] none).titles.get 2200 = some ⟨false, none, some [100], [449, 450], [301, 118, 640, 77]⟩
        ∧ (offering [450] none).offer = none ∧ (offering [450] none).pendingOffers = 450 :: [])
      ∧ (({ offering [450] none with titles := [(2200, ⟨true, none, some [100], [449, 450], []⟩)] }).titles.get 2200
          = some ⟨true, none, some [100], [449, 450], []⟩)
      ∧ ([301, 118, 640, 77] = [301, 118] ++ 640 :: [77]
        ∧ ((offering [450] none).patrons.get 301).map Patron.state = some (.paused 9)
        ∧ ((offering [450] none).patrons.get 118).map (fun p => (p.allowance, p.held)) = some (3, 3)
        ∧ (offering [450] none).patrons.get 640 = some offered ∧ offered.state = .active ∧ offered.held < offered.allowance)
      ∧ ((offering [] (some ⟨450, [301, 118]⟩)).offer = some { set := 450, considered := [301, 118] }
        ∧ [301, 118, 640, 77].filter (fun m => m ∉ [301, 118]) = [] ++ 640 :: [77]
        ∧ offered.wishes = [brailleWish 2200] ∧ (offering [] (some ⟨450, [301, 118]⟩)).heldTotal < 40960
        ∧ (offering [] (some ⟨450, [301, 118]⟩)).orders.get 1 = none ∧ (offering [] (some ⟨450, [301, 118]⟩)).tasks.get 1 = none)
      ∧ [301, 118, 640, 77].filter (fun m => m ∉ [301, 118, 640, 77]) = []
      ∧ ((offering [450] none).running = none ∧ ((offering [450] none).port .order).waiting = none
        ∧ (offering [] (some ⟨450, [301, 118]⟩)).pending = [])
      ∧ (engaged.restartAsserted = false ∧ engaged.running ≠ none) := by
  decide

theorem test_copySetOffer :
    sees (exec .copySetOffer (offering [450] none))
        (fun t => t.offer == some ⟨450, [301, 118]⟩ && t.pendingOffers == []) = true := by
  decide

/-- Section 3.8, case 5: the offered set is taken although 449 has the lower number, and 640 leaves queue and list. -/
theorem test_offer_pass :
    sees (exec .selectionPass (offering [] (some ⟨450, [301, 118]⟩))) (fun t => t.offer == none && t.passQueue == []
      && (t.copySets.get 450).map CopySet.state == some (.reserved 1 1)
      && (t.copySets.get 449).map CopySet.state == some .available
      && (t.titles.get 2200).map Title.waiting == some [301, 118, 77]) = true := by
  decide

/-- A class-2 job starved while a blank of its class is free. -/
def starving : State :=
  { idleRack with
    jobs := [(40, job 1 .starved 1)], starved := ⟨[], [40], []⟩, reserved := ⟨0, 2, 0⟩, jobQueue := [] }

/-- The order of a WRITTEN cartridge that no parcel holds. -/
def unparcelled : State :=
  { idleRack with
    patrons := [(9, { nine with held := 1 })], jobs := [], jobQueue := [], reserved := ⟨0, 0, 0⟩
    carts := [(610, ⟨.c2, .written 1 1, 4, 0⟩)], blank := ⟨[], [], []⟩
    orders := [(1, ⟨9, .asReady, .normal, [written 1 610]⟩)] }

theorem witness_StarvedClaimAndBacklogServe :
    (starving.restartAsserted = false ∧ starving.starved.get .c2 = 40 :: []
        ∧ starving.reserved.get .c2 < (starving.blank.get .c2).length ∧ starving.jobs.get 40 = some (job 1 .starved 1))
      ∧ (starving.starved.get .c1 = [] ∧ (({ starving with reserved := ⟨0, 3, 0⟩ }).blank.get .c2).length ≤ 3)
      ∧ backlog starving = []
      ∧ (backlog unparcelled = [(1, 1)] ∧ unparcelled.orders.get 1 = some ⟨9, .asReady, .normal, [written 1 610]⟩
        ∧ (∀ e ∈ unparcelled.parcels, e.2.order ≠ 1) ∧ unparcelled.parcels.length < 16384
        ∧ unparcelled.groups.get unparcelled.counters.group = none ∧ unparcelled.parcels.get unparcelled.counters.parcel = none
        ∧ unparcelled.dispatchQueue = [] ++ [])
      ∧ 16384 ≤ ((List.range' 1 16384).map (fun n => (n, (⟨2, 1, .cartridges [n], .forming⟩ : Parcel)))).length :=
  ⟨by decide, by decide, by decide, by decide, by simp⟩

/-- An AS-READY order of one WRITTEN cartridge, and an URGENT TOGETHER order of a set and two cartridges: nothing parcelled. -/
def threeWaiting : State :=
  { unparcelled with
    titles := [(610, ⟨false, none, some [100, 100], [271], []⟩)], copySets := [(271, ⟨610, .inDispatch 2 1⟩)]
    orders := [(1, ⟨9, .asReady, .normal, [written 1 610]⟩),
      (2, ⟨9, .together, .urgent, [⟨1, .copySet 271, .urgent, [brailleWish 610], true, false⟩, written 2 611, written 3 612]⟩)] }

/-- The URGENT order of `threeWaiting`, and the AS-READY one. -/
def urgentOrder : Order :=
  ⟨9, .together, .urgent, [⟨1, .copySet 271, .urgent, [brailleWish 610], true, false⟩, written 2 611, written 3 612]⟩
def lateOrder : Order := ⟨9, .asReady, .normal, [written 1 610]⟩

/-- Three items of one order served and one of another, with every way to make a parcel, and a release at the end. -/
theorem witness_backlog_served :
    threeWaiting.tablesWf = true ∧ backlog threeWaiting = [(2, 1), (2, 2), (2, 3), (1, 1)]
      ∧ (∀ e ∈ threeWaiting.orders, e.2.items.Pairwise (fun a b => a.place ≠ b.place)
        ∧ e.2.items.Pairwise (fun a b => a.object ≠ b.object))
      ∧ ∃ v u, Served (backlog threeWaiting) [] threeWaiting v ∧ GroupsSettled (backlog threeWaiting) v u
        ∧ u.dispatchQueue = [1, 2, 3] := by
  refine ⟨by decide, by decide, by decide, ?_⟩
  have hb : backlog threeWaiting = [(2, 1), (2, 2), (2, 3), (1, 1)] := by decide
  rw [hb]
  exact ⟨_, _, .makes _ _ _ 2 1 _ _ urgentOrder ⟨1, .copySet 271, .urgent, [brailleWish 610], true, false⟩ (by decide) (by decide)
      (.together 1 [] .urgent rfl (by decide) (.inl ⟨by decide, rfl, rfl, rfl⟩) (fun c hc => by cases hc) (parcelRoom_of (by decide)))
    (.makes _ _ _ 2 2 _ _ urgentOrder (written 2 611) (by decide) (by decide)
      (.together 1 [1] .urgent rfl (by decide) (.inr ⟨⟨.urgent, [1], false⟩, liveGroup_of (by decide), rfl, rfl⟩)
        (fun _ _ m hm => by
          rw [List.mem_singleton.mp hm]
          exact noRoom_of (by decide)) (parcelRoom_of (by decide)))
      (.makes _ _ _ 2 3 _ _ urgentOrder (written 3 612) (by decide) (by decide)
        (.joins 1 612 2 ⟨.urgent, [1, 2], false⟩ [1] [] [611] [] ⟨2, 1, .cartridges [611], .forming⟩ rfl rfl (by decide)
          (liveGroup_of (by decide)) rfl (fun m hm => by
            rw [List.mem_singleton.mp hm]
            exact noRoom_of (by decide)) (by decide) rfl rfl rfl (by decide) (by decide) (by decide) (by decide) (by decide))
        (.makes _ _ _ 1 1 _ _ lateOrder (written 1 610) (by decide) (by decide)
          (parcelled_asReady (by decide) (parcelRoom_of (by decide))) (.done _)))),
    .settles _ _ _ _ _ _
      (settled_due (rg := ⟨.urgent, [1, 2], false⟩) (r := urgentOrder) [] [3] (liveGroup_of (g := 1) (by decide)) (by decide) (by decide))
      (.settles _ _ _ _ _ _ (settled_noForming (by decide)) (.settles _ _ _ _ _ _ (settled_noForming (by decide))
        (.settles _ _ _ _ _ _ (settled_noForming (by decide)) (.done _)))), rfl⟩

/-- With every parcel record taken the first item stops the serving. -/
theorem witness_backlog_stops :
    let s : State := { unparcelled with
      parcels := (List.range' 1 16384).map (fun n => (n, ⟨2, 1, .cartridges [n], .forming⟩)) };
    backlog s = [(1, 1)] ∧ Served [(1, 1)] [(1, 1)] s s := by
  intro s
  refine ⟨?_, .stops _ 1 1 [] lateOrder (written 1 610) rfl rfl (by decide) (fun h => by cases h)
    (by simp [s, State.parcelContents, written])⟩
  have h : hasParcels s 1 (written 1 610) = false := by
    have hp : itemParcels s 1 (written 1 610).object = [] := by
      rw [itemParcels, Table.select, List.map_eq_nil_iff, List.filter_eq_nil_iff]
      rintro e he
      obtain ⟨n, -, rfl⟩ := List.mem_map.mp he
      simp
    simp [hasParcels, hp]
  have ho : s.orders = [(1, lateOrder)] := rfl
  have hf : lateOrder.items.filter (fun i => i.ready && !i.dispatched && !hasParcels s 1 i) = [written 1 610] := by
    simp only [lateOrder, List.filter_cons, h, List.filter_nil]
    rfl
  have hu : (lateOrder.band == .urgent) = false := rfl
  have hn : (lateOrder.band == .normal) = true := rfl
  simp [backlog, ho, hf, hu, hn, written]

/-- R113, R115, R118: the cartridges share a parcel, and the URGENT group, released last, stands ahead of the AS-READY one. -/
theorem test_backlog_order :
    sees (exec .parcelBacklogServe threeWaiting) (fun t => t.dispatchQueue == [1, 2, 3] && backlog t == []
      && t.parcels.map (fun e => e.2.contents) == [.volumes 271 [1, 2], .cartridges [611, 612], .cartridges [610]]
      && t.groups.map (fun e => e.2.parcels) == [[1, 2], [3]]) = true := by
  decide

theorem test_starvedClaim :
    sees (exec (.starvedClaim .c2) starving) (fun t => t.starved.c2 == [] && t.reserved.c2 == 3 && t.jobQueue == [40]
      && t.jobs == [(40, job 1 .queued 1)]) = true := by
  decide

theorem test_backlogServe :
    sees (exec .parcelBacklogServe unparcelled) (fun t => t.parcels == [(1, ⟨1, 1, .cartridges [610], .ready⟩)]
      && t.dispatchQueue == [1] && (t.port .mailroom).notices == [.parcelWaiting]) = true := by
  decide

/-! ### What every step keeps -/

theorem portsSound_reset : State.reset.portsSound := by
  refine ⟨fun l => ?_, fun l body h => ?_⟩
  · cases l <;> exact ⟨rfl, by decide, by decide, by decide, by decide, by decide⟩
  · cases l <;> cases h

/-- The reset state with a command in front, which a step takes. -/
def busyReset : State := { State.reset with pending := [.selectionPass] }

theorem witness_RangesKept : busyReset.inRange = true ∧ ∃ t, step busyReset = .next t :=
  ⟨by decide, _, rfl⟩

theorem witness_TablesWfKept : stopped.tablesWf = true ∧ ∃ t, step { stopped with pending := [.startUpScan] } = .next t :=
  ⟨by decide, _, rfl⟩

theorem witness_PortsSoundKept : busyReset.portsSound ∧ ∃ t, step busyReset = .next t :=
  ⟨portsSound_reset, _, rfl⟩

end Sys2Proof.Tests
end

section
/-! SUPPORT. What every operation of the part keeps: the queue of waiting commands, the canonical form of each record table,
and the ranges of settings, next-number counters, day and bays. One lemma per operation, in the order of the model. -/

namespace Sys2Proof.Machine

-- One declaration at a time: the check's memory does not hold many side by side.
set_option Elab.async false

/-! ### The relation -/

/-- What a state keeps of an earlier one. A field left out is one that the operation does not touch. -/
structure Keeps (s t : State) : Prop where
  pending : t.pending = s.pending := by exact rfl
  patrons : s.patrons.wf = true → t.patrons.wf = true := by exact id
  titles : s.titles.wf = true → t.titles.wf = true := by exact id
  copySets : s.copySets.wf = true → t.copySets.wf = true := by exact id
  carts : s.carts.wf = true → t.carts.wf = true := by exact id
  jobs : s.jobs.wf = true → t.jobs.wf = true := by exact id
  orders : s.orders.wf = true → t.orders.wf = true := by exact id
  tasks : s.tasks.wf = true → t.tasks.wf = true := by exact id
  parcels : s.parcels.wf = true → t.parcels.wf = true := by exact id
  groups : s.groups.wf = true → t.groups.wf = true := by exact id
  loans : s.loans.wf = true → t.loans.wf = true := by exact id
  ranges : s.inRange = true → t.inRange = true := by exact id

theorem Keeps.refl (s : State) : Keeps s s := {}

theorem Keeps.trans {s t u : State} (h : Keeps s t) (h' : Keeps t u) : Keeps s u where
  pending := h'.pending.trans h.pending
  patrons := h'.patrons ∘ h.patrons
  titles := h'.titles ∘ h.titles
  copySets := h'.copySets ∘ h.copySets
  carts := h'.carts ∘ h.carts
  jobs := h'.jobs ∘ h.jobs
  orders := h'.orders ∘ h.orders
  tasks := h'.tasks ∘ h.tasks
  parcels := h'.parcels ∘ h.parcels
  groups := h'.groups ∘ h.groups
  loans := h'.loans ∘ h.loans
  ranges := h'.ranges ∘ h.ranges

theorem Keeps.tablesWf {s t : State} (h : Keeps s t) (hs : s.tablesWf = true) : t.tablesWf = true := by
  simp only [State.tablesWf, Bool.and_eq_true] at hs ⊢
  obtain ⟨⟨⟨⟨⟨⟨⟨⟨⟨hpatrons, htitles⟩, hsets⟩, hcarts⟩, hjobs⟩, horders⟩, htasks⟩, hparcels⟩, hgroups⟩, hloans⟩ := hs
  exact ⟨⟨⟨⟨⟨⟨⟨⟨⟨h.patrons hpatrons, h.titles htitles⟩, h.copySets hsets⟩, h.carts hcarts⟩, h.jobs hjobs⟩, h.orders horders⟩,
    h.tasks htasks⟩, h.parcels hparcels⟩, h.groups hgroups⟩, h.loans hloans⟩

/-- Operations done one after another over a list keep what each of them keeps. -/
theorem Keeps.foldl {α : Type} {f : State → α → State} (h : ∀ s x, Keeps s (f s x)) (l : List α) (s : State) :
    Keeps s (l.foldl f s) := by
  induction l generalizing s with
  | nil => exact .refl s
  | cons x l ih => exact (h s x).trans (ih _)

/-- The same where something is collected beside the state. -/
theorem Keeps.foldl_fst {α β : Type} {f : State × β → α → State × β} (h : ∀ a x, Keeps a.1 (f a x).1) (l : List α)
    (a : State × β) : Keeps a.1 (l.foldl f a).1 := by
  induction l generalizing a with
  | nil => exact .refl a.1
  | cons x l ih => exact (h a x).trans (ih _)

theorem Keeps.ite {c : Prop} [Decidable c] {s t u : State} (ht : Keeps s t) (hu : Keeps s u) :
    Keeps s (if c then t else u) := by
  split
  · exact ht
  · exact hu

theorem OnlyNotices.keeps {s t : State} (h : OnlyNotices s t) : Keeps s t := by
  rw [h.same]
  exact {}

/-! ### Ranges -/

theorem State.inRange_iff (s : State) :
    s.inRange = true ↔ s.settings.inRange = true ∧ s.counters.inRange = true ∧ s.day < Config.dayModulus
      ∧ s.bays.length = Config.bayCount ∧ ∀ b ∈ s.bays, b.inRange = true := by
  simp [State.inRange, and_assoc]

@[simp] theorem within_iff (lo hi v : Nat) : within lo hi v = true ↔ lo ≤ v ∧ v ≤ hi := by
  simp [within]

/-- The settings' ranges, setting by setting (section 1.6). -/
theorem Settings.inRange_iff (g : Settings) :
    g.inRange = true ↔ (7 ≤ g.cartTerm ∧ g.cartTerm ≤ 120) ∧ (7 ≤ g.brailleTerm ∧ g.brailleTerm ≤ 120) ∧ g.renewalMax ≤ 4
      ∧ (1 ≤ g.suspendAfter ∧ g.suspendAfter ≤ 120) ∧ (g.suspendAfter + 1 ≤ g.lostAfter ∧ g.lostAfter ≤ 255)
      ∧ (1 ≤ g.partialGrace ∧ g.partialGrace ≤ 60) ∧ (1 ≤ g.limitNext ∧ g.limitNext ≤ 4000)
      ∧ (1 ≤ g.limitInForce ∧ g.limitInForce ≤ 4000) ∧ (5 ≤ g.writeDeadline ∧ g.writeDeadline ≤ 240)
      ∧ (2 ≤ g.wipeDeadline ∧ g.wipeDeadline ≤ 120) ∧ (1 ≤ g.restInterval ∧ g.restInterval ≤ 240)
      ∧ (50 ≤ g.wearLimit ∧ g.wearLimit ≤ 2000)
      ∧ ∀ c, (1 ≤ g.warn.get c ∧ g.warn.get c ≤ 1000) ∧ g.critical.get c < g.warn.get c := by
  have hall : ∀ p : Cls → Bool, allClasses.all p = true ↔ ∀ c, p c = true := fun p => by
    simp only [List.all_eq_true]
    exact ⟨fun h c => h c (by cases c <;> decide), fun h c _ => h c⟩
  simp only [Settings.inRange, Bool.and_eq_true, within_iff, decide_eq_true_eq, hall, and_assoc]

theorem clampTo_bounds {lo hi : Nat} (v : Nat) (h : lo ≤ hi) : lo ≤ clampTo lo hi v ∧ clampTo lo hi v ≤ hi := by
  unfold clampTo
  split
  · omega
  · split <;> omega

/-- A setting brought into its range and written leaves every setting in its range (R17). -/
theorem Settings.inRange_write {g : Settings} {ident v w : Nat} (h : settingValue g ident v = some w)
    (hg : g.inRange = true) : (g.write ident w).inRange = true := by
  rw [Settings.inRange_iff] at hg ⊢
  obtain ⟨hcart, hbraille, hrenew, hsuspend, hlost, hgrace, hnext, hforce, hwrite, hwipe, hrest, hwear, hlevels⟩ := hg
  unfold settingValue at h
  split at h
  case h_12 => cases h
  case h_4 =>
    cases h
    have := clampTo_bounds (lo := 1) (hi := 120) v (by decide)
    simp only [Settings.write]
    refine ⟨hcart, hbraille, hrenew, ?_, ?_, hgrace, hnext, hforce, hwrite, hwipe, hrest, hwear, hlevels⟩ <;> omega
  case h_5 =>
    cases h
    simp only [Settings.write]
    refine ⟨hcart, hbraille, hrenew, hsuspend, ?_, hgrace, hnext, hforce, hwrite, hwipe, hrest, hwear, hlevels⟩
    omega
  all_goals
    cases h
    simp only [Settings.write]
    simp only [hcart, hbraille, hrenew, hsuspend, hlost, hgrace, hnext, hforce, hwrite, hwipe, hrest, hwear, true_and]
    simpa [clampTo_bounds] using hlevels

end Sys2Proof.Machine
end

section
/-! SUPPORT. What the operations of the machine keep. -/

namespace Sys2Proof.Machine

-- One declaration at a time: the check's memory does not hold many side by side.
set_option Elab.async false

/-! ### Counters and bays -/

@[simp] theorem nextNumber_pos (n : Nat) : 1 ≤ nextNumber n := by
  rw [nextNumber_eq]
  split <;> omega

@[simp] theorem nextNumber_le (n : Nat) : nextNumber n ≤ Config.maxNumber := by
  rw [nextNumber_eq, Config.maxNumber]
  split <;> omega

/-! A counter that moved on leaves every counter in its range (R2). -/

theorem Counters.inRange_job {c : Counters} (n stamp : Nat) (h : c.inRange = true) :
    ({ c with job := nextNumber n, stamp := stamp } : Counters).inRange = true := by
  simp_all [Counters.inRange]

theorem Counters.inRange_order {c : Counters} (n : Nat) (h : c.inRange = true) :
    ({ c with order := nextNumber n } : Counters).inRange = true := by
  simp_all [Counters.inRange]

theorem Counters.inRange_task {c : Counters} (n : Nat) (h : c.inRange = true) :
    ({ c with task := nextNumber n } : Counters).inRange = true := by
  simp_all [Counters.inRange]

theorem Counters.inRange_parcel {c : Counters} (n : Nat) (h : c.inRange = true) :
    ({ c with parcel := nextNumber n } : Counters).inRange = true := by
  simp_all [Counters.inRange]

theorem Counters.inRange_loan {c : Counters} (n : Nat) (h : c.inRange = true) :
    ({ c with loan := nextNumber n } : Counters).inRange = true := by
  simp_all [Counters.inRange]

theorem Counters.inRange_group {c : Counters} (n : Nat) (h : c.inRange = true) :
    ({ c with group := nextNumber n } : Counters).inRange = true := by
  simp_all [Counters.inRange]

/-- Counters in range after a write leave every range as it was. -/
theorem ranges_withCounters {s : State} {c : Counters} (h : s.counters.inRange = true → c.inRange = true)
    (hs : s.inRange = true) : ({ s with counters := c } : State).inRange = true := by
  rw [State.inRange_iff] at hs ⊢
  obtain ⟨hsettings, hcounters, hday, hlen, hbays⟩ := hs
  exact ⟨hsettings, h hcounters, hday, hlen, hbays⟩

theorem ranges_withSettings {s : State} {g : Settings} (h : s.settings.inRange = true → g.inRange = true)
    (hs : s.inRange = true) : ({ s with settings := g } : State).inRange = true := by
  rw [State.inRange_iff] at hs ⊢
  obtain ⟨hsettings, hcounters, hday, hlen, hbays⟩ := hs
  exact ⟨h hsettings, hcounters, hday, hlen, hbays⟩

/-- Bays changed one by one within their ranges leave every range as it was. -/
theorem ranges_mapBays {s : State} {f : Bay → Bay} (h : ∀ b, b.inRange = true → (f b).inRange = true)
    (hs : s.inRange = true) : ({ s with bays := s.bays.map f } : State).inRange = true := by
  rw [State.inRange_iff] at hs ⊢
  obtain ⟨hsettings, hcounters, hday, hlen, hbays⟩ := hs
  refine ⟨hsettings, hcounters, hday, by simpa using hlen, fun b hb => ?_⟩
  obtain ⟨b', hb', rfl⟩ := List.mem_map.1 hb
  exact h b' (hbays b' hb')

/-! The settings that set a bay's minutes keep within what the minutes may be (R78, section 1.6). -/

theorem restInterval_le {s : State} (hs : s.inRange = true) : s.settings.restInterval ≤ 240 := by
  obtain ⟨-, -, -, -, -, -, -, -, -, -, h, -⟩ := (Settings.inRange_iff _).1 ((State.inRange_iff s).1 hs).1
  exact h.2

theorem writeDeadline_le {s : State} (hs : s.inRange = true) : s.settings.writeDeadline ≤ 240 := by
  obtain ⟨-, -, -, -, -, -, -, -, h, -⟩ := (Settings.inRange_iff _).1 ((State.inRange_iff s).1 hs).1
  exact h.2

theorem wipeDeadline_le {s : State} (hs : s.inRange = true) : s.settings.wipeDeadline ≤ 240 := by
  obtain ⟨-, -, -, -, -, -, -, -, -, h, -⟩ := (Settings.inRange_iff _).1 ((State.inRange_iff s).1 hs).1
  exact h.2.trans (by decide)

/-- A bay of a number is one of the bay records. -/
theorem mem_of_bay {s : State} {n : Nat} {b : Bay} (h : s.bay n = some b) : b ∈ s.bays := by
  unfold State.bay at h
  split at h
  · exact List.mem_of_getElem? h
  · cases h

theorem bay_inRange {s : State} {n : Nat} {b : Bay} (h : s.bay n = some b) (hs : s.inRange = true) : b.inRange = true :=
  ((State.inRange_iff s).1 hs).2.2.2.2 b (mem_of_bay h)

theorem putBay_keeps {s : State} {b : Bay} (n : Nat) (h : s.inRange = true → b.inRange = true) :
    Keeps s (s.putBay n b) where
  ranges hs := by
    have hb := h hs
    rw [State.inRange_iff] at hs ⊢
    obtain ⟨hsettings, hcounters, hday, hlen, hbays⟩ := hs
    refine ⟨hsettings, hcounters, hday, by simpa using hlen, fun b' hb' => ?_⟩
    rcases List.mem_or_eq_of_mem_set hb' with hb' | rfl
    · exact hbays b' hb'
    · exact hb

/-! ### Patrons -/

theorem raise_keeps (l : Link) (n : Notice) (s : State) : Keeps s (raise l n s) := {}

theorem raiseIf_keeps (b : Bool) (l : Link) (n : Notice) (s : State) : Keeps s (raiseIf b l n s) :=
  (raiseIf_frame b l n s).keeps

theorem endEvent_keeps (s0 s : State) : Keeps s (endEvent s0 s) :=
  (endEvent_frame s0 s).keeps

theorem putPatron_keeps (n : Nat) (p : Patron) (s : State) : Keeps s (s.putPatron n p) where
  patrons h := Table.wf_put h _ _

theorem appendPass_keeps (n : Nat) (s : State) : Keeps s (appendPass n s) := {}

theorem appendPassOpen_keeps (n : Nat) (s : State) : Keeps s (appendPassOpen n s) := by
  rw [appendPassOpen_frame]
  exact {}

theorem lowerHeld_keeps (n k : Nat) (s : State) : Keeps s (lowerHeld n k s) := by
  unfold lowerHeld
  split
  · exact { patrons := fun h => Table.wf_put h _ _ }
  · exact .refl s

theorem freeIfDone_keeps (n : Nat) (s : State) : Keeps s (freeIfDone n s) := by
  unfold freeIfDone
  split
  · split
    · exact { patrons := fun h => Table.wf_del h _ }
    · exact .refl s
  · exact .refl s

theorem suspensionCheck_keeps (n : Nat) (s : State) : Keeps s (suspensionCheck n s) := by
  unfold suspensionCheck
  split
  · split
    · exact (putPatron_keeps n _ s).trans (raise_keeps _ _ _)
    · split
      · exact (putPatron_keeps n _ s).trans (appendPass_keeps _ _)
      · exact .refl s
  · exact .refl s

/-! ### Wish lists and waiting lists -/

theorem onWaiting_keeps (t : Nat) (f : List Nat → List Nat) (s : State) : Keeps s (onWaiting t f s) where
  titles h := Table.wf_modify h _ _

theorem leaveWaitingAll_keeps (n : Nat) (ws : List WishEntry) (s : State) : Keeps s (leaveWaitingAll n ws s) :=
  Keeps.foldl (fun u w => by
    split
    · exact onWaiting_keeps _ _ u
    · exact .refl u) ws s

theorem returnEntries_keeps (n : Nat) (entries : List WishEntry) (s : State) : Keeps s (returnEntries n entries s) := by
  unfold returnEntries
  split
  · refine (putPatron_keeps n _ s).trans (Keeps.foldl (fun u w => ?_) _ _)
    split
    · exact onWaiting_keeps _ _ u
    · exact .refl u
  · exact .refl s

/-! ### Write jobs, cartridges and pools -/

theorem putJob_keeps (n : Nat) (j : Job) (s : State) : Keeps s (s.putJob n j) where
  jobs h := Table.wf_put h _ _

theorem putCart_keeps (n : Nat) (c : Cart) (s : State) : Keeps s (s.putCart n c) where
  carts h := Table.wf_put h _ _

theorem putSet_keeps (n : Nat) (c : CopySet) (s : State) : Keeps s (s.putSet n c) where
  copySets h := Table.wf_put h _ _

theorem queueWithBlank_keeps (n : Nat) (j : Job) (s : State) : Keeps s (queueWithBlank n j s) where
  jobs h := Table.wf_put h _ _

theorem starveJob_keeps (n : Nat) (j : Job) (s : State) : Keeps s (starveJob n j s) where
  jobs h := Table.wf_put h _ _

theorem needBlank_keeps (n : Nat) (s : State) : Keeps s (needBlank n s) := by
  unfold needBlank
  split
  · split
    · exact queueWithBlank_keeps _ _ s
    · exact starveJob_keeps _ _ s
  · exact .refl s

theorem claimStarved_keeps (c : Cls) (s : State) : Keeps s (claimStarved c s) := by
  unfold claimStarved
  split
  · exact .refl s
  · split
    · split
      · exact { jobs := fun h => Table.wf_put h _ _ }
      · exact .refl s
    · exact .refl s

theorem toUnwiped_keeps (serial : Nat) (s : State) : Keeps s (toUnwiped serial s) := by
  unfold toUnwiped
  split
  · exact { carts := fun h => Table.wf_put h _ _ }
  · exact .refl s

theorem faultCart_keeps (serial : Nat) (s : State) : Keeps s (faultCart serial s) := by
  unfold faultCart
  split
  · split
    · exact putCart_keeps _ _ s
    · exact (putCart_keeps _ _ s).trans (toUnwiped_keeps _ _)
  · exact .refl s

theorem wipedCart_keeps (serial : Nat) (s : State) : Keeps s (wipedCart serial s) := by
  unfold wipedCart
  split
  · split
    · exact putCart_keeps _ _ s
    · refine .trans ?_ (claimStarved_keeps _ _)
      exact { carts := fun h => Table.wf_put h _ _ }
  · exact .refl s

theorem freeJob_keeps (n : Nat) (s : State) : Keeps s (freeJob n s) where
  jobs h := Table.wf_del h _

/-! ### Blocked lists -/

theorem releaseLists_keeps (s0 s : State) : Keeps s (releaseLists s0 s) := by
  rw [releaseLists_frame]
  exact {}

/-! ### Copy sets, orders and items -/

theorem makeAvailable_keeps (n : Nat) (s : State) : Keeps s (makeAvailable n s) := by
  unfold makeAvailable
  split
  · dsimp only
    split
    · split <;> exact { copySets := fun h => Table.wf_put h _ _ }
    · exact putSet_keeps n _ s
  · exact .refl s

theorem makeIncomplete_keeps (n : Nat) (missing : List Nat) (s : State) : Keeps s (makeIncomplete n missing s) := by
  unfold makeIncomplete
  split
  · exact putSet_keeps _ _ s
  · exact .refl s

theorem setSetState_keeps (n : Nat) (st : SetState) (s : State) : Keeps s (setSetState n st s) where
  copySets h := Table.wf_modify h _ _

theorem onItem_keeps (order place : Nat) (f : Item → Item) (s : State) : Keeps s (onItem order place f s) where
  orders h := Table.wf_modify h _ _

theorem removeItem_keeps (order place : Nat) (s : State) : Keeps s (removeItem order place s) where
  orders h := Table.wf_modify h _ _

theorem completeOrder_keeps (order : Nat) (s : State) : Keeps s (completeOrder order s) := by
  unfold completeOrder
  split
  · split
    · exact { orders := fun h => Table.wf_del h _ }
    · exact .refl s
  · exact .refl s

/-! ### Parcels and groups -/

theorem newGroup_keeps (b : Band) (s : State) : Keeps s (newGroup b s).1 where
  groups h := Table.wf_put h _ _
  ranges := ranges_withCounters (Counters.inRange_group _)

theorem newParcel_keeps (order g : Nat) (c : Contents) (s : State) : Keeps s (newParcel order g c s) where
  parcels h := Table.wf_put h _ _
  groups h := Table.wf_modify h _ _
  ranges := ranges_withCounters (Counters.inRange_parcel _)

theorem newParcels_keeps (order g : Nat) (o : ItemObject) (s : State) : Keeps s (newParcels order g o s) :=
  Keeps.foldl (fun u c => newParcel_keeps order g c u) _ s

theorem joinParcel_keeps (order serial n : Nat) (s : State) : Keeps s (joinParcel order serial n s) where
  parcels h := Table.wf_modify h _ _

theorem readyParcels_keeps (ps : List Nat) (s : State) : Keeps s (readyParcels ps s) where
  parcels h := Table.wf_mapAll h fun n p => if n ∈ ps then { p with state := .ready } else p

theorem releaseGroup_keeps (g : Nat) (s : State) : Keeps s (releaseGroup g s) := by
  unfold releaseGroup
  split
  · exact (readyParcels_keeps _ s).trans {}
  · exact .refl s

theorem releaseTogether_keeps (order : Nat) (s : State) : Keeps s (releaseTogether order s) := by
  unfold releaseTogether
  split
  · split
    · exact releaseGroup_keeps _ s
    · exact .refl s
  · exact .refl s

theorem togetherGroup_keeps (order : Nat) (o : Order) (s : State) : Keeps s (togetherGroup order o s).1 := by
  unfold togetherGroup
  split
  · exact .refl s
  · exact newGroup_keeps _ s

theorem makeParcels_keeps (order : Nat) (o : Order) (i : Item) (s : State) : Keeps s (makeParcels order o i s) := by
  unfold makeParcels
  split
  · exact ((newGroup_keeps _ s).trans (newParcels_keeps _ _ _ _)).trans (releaseGroup_keeps _ _)
  · split
    · exact joinParcel_keeps _ _ _ s
    · exact (togetherGroup_keeps order o s).trans (newParcels_keeps _ _ _ _)

theorem serveList_keeps (l : List (Nat × Nat)) (s : State) : Keeps s (serveList l s) := by
  induction l generalizing s with
  | nil => exact .refl s
  | cons e l ih =>
    obtain ⟨order, place⟩ := e
    unfold serveList
    split
    · exact ih s
    · split
      · exact ih s
      · split
        · exact (makeParcels_keeps _ _ _ s).trans (ih _)
        · exact .refl s

theorem serveBacklog_keeps (s : State) : Keeps s (serveBacklog s) :=
  (serveList_keeps _ s).trans (Keeps.foldl (fun u (e : Nat × Nat) => releaseTogether_keeps e.1 u) _ _)

theorem itemReady_keeps (order place : Nat) (s : State) : Keeps s (itemReady order place s) :=
  (onItem_keeps _ _ _ s).trans (serveBacklog_keeps _)

/-! ### The dispatch day -/

theorem setParcelState_keeps (n : Nat) (st : ParcelState) (s : State) : Keeps s (setParcelState n st s) where
  parcels h := Table.wf_modify h _ _

theorem handOut_keeps (n : Nat) (p : Parcel) (g : DispatchGroup) (s : State) : Keeps s (handOut n p g s) where
  parcels h := Table.wf_modify h _ _
  groups h := Table.wf_put h _ _

theorem lendObject_keeps (loan : Nat) (o : LoanObject) (s : State) : Keeps s (lendObject loan o s) := by
  cases o with
  | cartridge serial titles => exact { carts := fun h => Table.wf_modify h _ _ }
  | copySet n => exact { copySets := fun h => Table.wf_modify h _ _ }

theorem lendItem_keeps (order : Nat) (o : Order) (i : Item) (acc : State × List Nat) :
    Keeps acc.1 (lendItem order o i acc).1 := by
  unfold lendItem
  split
  · exact .refl acc.1
  · refine .trans ?_ ((lendObject_keeps _ _ _).trans (onItem_keeps _ _ _ _))
    exact { loans := fun h => Table.wf_put h _ _, ranges := ranges_withCounters (Counters.inRange_loan _) }

theorem freeGroup_keeps (g : Nat) (ps : List Nat) (s : State) : Keeps s (freeGroup g ps s) where
  parcels h := Table.wf_filter h _
  groups h := Table.wf_del h _

theorem createLoans_keeps (g : Nat) (s : State) : Keeps s (createLoans g s).1 := by
  unfold createLoans
  split
  · exact .refl s
  · split
    · exact .refl s
    · split
      · exact .refl s
      · split
        · exact freeGroup_keeps _ _ s
        · exact ((Keeps.foldl_fst (fun a i => lendItem_keeps _ _ i a) _ (s, [])).trans (freeGroup_keeps _ _ _)).trans
            (completeOrder_keeps _ _)

/-! ### Drops and cancellation -/

theorem freeTask_keeps (n : Nat) (s : State) : Keeps s (freeTask n s) where
  tasks h := Table.wf_del h _

theorem dropForPatron_keeps (patron : Nat) (entries : List WishEntry) (s : State) :
    Keeps s (dropForPatron patron entries s) := by
  unfold dropForPatron
  refine (lowerHeld_keeps patron 1 s).trans (.trans ?_ ((raise_keeps .order .itemDropped _).trans (freeIfDone_keeps _ _)))
  split
  · exact (returnEntries_keeps _ _ _).trans (appendPass_keeps _ _)
  · exact .refl _

theorem dropItem_keeps (order place : Nat) (s : State) : Keeps s (dropItem order place s) := by
  unfold dropItem
  split
  · exact .refl s
  · split
    · exact .refl s
    · exact (removeItem_keeps _ _ s).trans
        ((dropForPatron_keeps _ _ _).trans ((completeOrder_keeps _ _).trans (releaseTogether_keeps _ _)))

theorem leaveGroup_keeps (g n : Nat) (s : State) : Keeps s (leaveGroup g n s) := by
  unfold leaveGroup
  split
  · split
    · exact { groups := fun h => Table.wf_del h _ }
    · exact { groups := fun h => Table.wf_put h _ _ }
  · exact .refl s

theorem removeParcel_keeps (n : Nat) (s : State) : Keeps s (removeParcel n s) := by
  unfold removeParcel
  split
  · exact .refl s
  · refine .trans ?_ (leaveGroup_keeps _ _ _)
    exact { parcels := fun h => Table.wf_del h _ }

theorem takeCartFromParcel_keeps (serial n : Nat) (s : State) : Keeps s (takeCartFromParcel serial n s) := by
  unfold takeCartFromParcel
  split
  · split
    · split
      · exact removeParcel_keeps _ s
      · exact { parcels := fun h => Table.wf_put h _ _ }
    · exact .refl s
  · exact .refl s

theorem releaseReservation_keeps (c : Cls) (s : State) : Keeps s (releaseReservation c s) := by
  refine .trans ?_ (claimStarved_keeps c _)
  exact {}

theorem cancelJob_keeps (n : Nat) (s : State) : Keeps s (cancelJob n s) := by
  unfold cancelJob
  split
  · exact .refl s
  · split
    · refine .trans ?_ ((releaseReservation_keeps _ _).trans (releaseLists_keeps _ _))
      exact { jobs := fun h => Table.wf_del h _ }
    · refine .trans ?_ (releaseLists_keeps _ _)
      exact { jobs := fun h => Table.wf_del h _ }
    · exact putJob_keeps _ _ s
    · exact .refl s

theorem freeTaskOfSet_keeps (n : Nat) (s : State) : Keeps s (freeTaskOfSet n s) := by
  unfold freeTaskOfSet
  split
  · exact freeTask_keeps _ s
  · exact .refl s

theorem cancelObject_keeps (order : Nat) (o : ItemObject) (s : State) : Keeps s (cancelObject order o s) := by
  cases o with
  | job n => exact cancelJob_keeps n s
  | cart serial =>
    exact (Keeps.foldl (fun u n => takeCartFromParcel_keeps serial n u) _ s).trans (toUnwiped_keeps _ _)
  | copySet n =>
    exact (Keeps.foldl (fun u m => removeParcel_keeps m u) _ s).trans
      ((freeTaskOfSet_keeps _ _).trans (makeAvailable_keeps _ _))

theorem cancelItem_keeps (order patron : Nat) (i : Item) (s : State) : Keeps s (cancelItem order patron i s) :=
  (cancelObject_keeps _ _ s).trans ((removeItem_keeps _ _ _).trans (lowerHeld_keeps _ _ _))

theorem restoreEntries_keeps (patron : Nat) (entries : List WishEntry) (s : State) :
    Keeps s (restoreEntries patron entries s) :=
  (returnEntries_keeps _ _ s).trans (appendPassOpen_keeps _ _)

theorem settleOrder_keeps (order patron : Nat) (s : State) : Keeps s (settleOrder order patron s) :=
  ((releaseTogether_keeps order s).trans (Keeps.foldl (fun u g => createLoans_keeps g u) _ _)).trans
    ((completeOrder_keeps _ _).trans (freeIfDone_keeps _ _))

theorem cancelOrder_keeps (restore : Bool) (order : Nat) (s : State) : Keeps s (cancelOrder restore order s).1 := by
  unfold cancelOrder
  split
  · exact .refl s
  · refine .trans ?_ (settleOrder_keeps _ _ _)
    split
    · exact .trans (Keeps.foldl (fun u i => cancelItem_keeps order _ i u) _ s) (restoreEntries_keeps _ _ _)
    · exact Keeps.foldl (fun u i => cancelItem_keeps order _ i u) _ s

theorem cancelOrders_keeps (restore : Bool) (orders : List Nat) (s : State) :
    Keeps s (cancelOrders restore orders s).1 := by
  induction orders generalizing s with
  | nil => exact .refl s
  | cons n rest ih => exact (cancelOrder_keeps restore n s).trans (ih _)

theorem cancelAll_keeps (restore : Bool) (orders : List Nat) (s : State) : Keeps s (cancelAll restore orders s).1 :=
  (cancelOrders_keeps restore orders s).trans (serveBacklog_keeps _)

theorem leaveQueues_keeps (n : Nat) (s : State) : Keeps s (leaveQueues n s) := {}

theorem closeRecord_keeps (n : Nat) (s : State) : Keeps s (closeRecord n s) := by
  unfold closeRecord
  split
  · exact .refl s
  · exact (leaveWaitingAll_keeps n _ s).trans (.trans (putPatron_keeps n _ _) (leaveQueues_keeps n _))

/-! ### Bays -/

theorem haltCheck_keeps (s : State) : Keeps s (haltCheck s) := by
  rw [haltCheck_frame]
  exact {}

theorem startRest_keeps {n : Nat} {b : Bay} {s : State} (h : s.bay n = some b) : Keeps s (startRest n b s) := by
  unfold startRest
  split
  · rename_i hrests
    refine .trans (putBay_keeps n fun hs => ?_) (raise_keeps _ _ _)
    have hrest := restInterval_le hs
    simp only [Bay.inRange, Bool.and_eq_true, decide_eq_true_eq]
    exact ⟨hrests, hrest⟩
  · refine (putBay_keeps n fun hs => ?_).trans ((raise_keeps _ _ _).trans (haltCheck_keeps _))
    have hb := bay_inRange h hs
    simp only [Bay.inRange, Bool.and_eq_true] at hb ⊢
    exact ⟨hb.1, trivial⟩

/-- A good outcome's streak and strikes stay within their ranges (R97). -/
theorem goodCount_bounds {streak strikes : Nat} (st : Standing) (h : streak ≤ 25) (h' : strikes ≤ 2) :
    (goodCount st streak strikes).2.1 ≤ 25 ∧ (goodCount st streak strikes).2.2 ≤ 2 := by
  have hq : Config.qualifyStreak = 3 := rfl
  have hc : Config.clearStreak = 25 := rfl
  unfold goodCount
  split
  · split
    · simp
    · exact ⟨by dsimp only; omega, h'⟩
  · split
    · simp
    · exact ⟨by dsimp only; omega, h'⟩

theorem countGood_keeps (n : Nat) (s : State) : Keeps s (countGood n s) := by
  unfold countGood
  split
  · rename_i b hb
    split
    · rename_i st streak strikes a hc
      refine putBay_keeps n fun hs => ?_
      have hr := bay_inRange hb hs
      simp only [Bay.inRange, hc, Bool.and_eq_true, decide_eq_true_eq] at hr ⊢
      obtain ⟨hrests, ⟨hstreak, hstrikes⟩, ha⟩ := hr
      exact ⟨hrests, goodCount_bounds st hstreak hstrikes, ha⟩
    · exact .refl s
  · exact .refl s

theorem countBadOutcome_keeps (n : Nat) (s : State) : Keeps s (countBadOutcome n s) := by
  unfold countBadOutcome
  split
  · rename_i b hb
    split
    · exact startRest_keeps hb
    · rename_i streak strikes a hc
      split
      · exact startRest_keeps hb
      · rename_i hstrikes
        refine putBay_keeps n fun hs => ?_
        have hr := bay_inRange hb hs
        simp only [Config.maxStrikes] at hstrikes
        simp only [Bay.inRange, hc, Bool.and_eq_true, decide_eq_true_eq] at hr ⊢
        obtain ⟨hrests, -, ha⟩ := hr
        exact ⟨hrests, ⟨by omega, by omega⟩, ha⟩
    · exact .refl s
  · exact .refl s

theorem countOutcome_keeps (good : Bool) (n : Nat) (s : State) : Keeps s (countOutcome good n s) := by
  cases good with
  | true => exact countGood_keeps n s
  | false => exact countBadOutcome_keeps n s

/-- A bay in SERVICE with another activity in range. -/
theorem inRange_withActivity {b : Bay} {st : Standing} {streak strikes : Nat} {a : Activity}
    (hc : b.condition = .service st streak strikes a) (hb : b.inRange = true) {a' : Activity} (ha : a'.inRange = true)
    (last : Option LastActivity) :
    Bay.inRange ⟨.service st streak strikes a', b.restsToday, last⟩ = true := by
  simp only [Bay.inRange, hc, Bool.and_eq_true] at hb ⊢
  exact ⟨hb.1, hb.2.1, ha⟩

theorem idleBay_keeps (n : Nat) (kind : WorkKind) (serial : Nat) (e : Ending) (s : State) :
    Keeps s (idleBay n kind serial e s) := by
  unfold idleBay
  split
  · rename_i b hb
    split
    · rename_i hc
      exact putBay_keeps n fun hs => inRange_withActivity hc (bay_inRange hb hs) rfl _
    · exact .refl s
  · exact .refl s

theorem freeJobIn_keeps (s0 : State) (job : Nat) (s : State) : Keeps s (freeJobIn s0 job s) :=
  (freeJob_keeps job s).trans (releaseLists_keeps s0 _)

theorem writeCompletes_keeps (s0 : State) (job serial : Nat) (j : Job) (s : State) :
    Keeps s (writeCompletes s0 job serial j s) := by
  unfold writeCompletes
  refine .trans ?_ ((onItem_keeps _ _ _ _).trans ((freeJobIn_keeps _ _ _).trans (itemReady_keeps _ _ _)))
  exact { carts := fun h => Table.wf_modify h _ _ }

theorem writeFails_keeps (s0 : State) (job serial : Nat) (j : Job) (s : State) :
    Keeps s (writeFails s0 job serial j s) := by
  unfold writeFails
  refine (faultCart_keeps serial s).trans ?_
  dsimp only
  split
  · exact (freeJobIn_keeps _ _ _).trans (dropItem_keeps _ _ _)
  · exact (putJob_keeps job _ _).trans (needBlank_keeps _ _)

theorem writeEffects_keeps (s0 : State) (good : Bool) (job serial : Nat) (s : State) :
    Keeps s (writeEffects s0 good job serial s) := by
  unfold writeEffects
  split
  · exact .refl s
  · split
    · exact writeCompletes_keeps _ _ _ _ s
    · exact writeFails_keeps _ _ _ _ s
    · exact (toUnwiped_keeps _ s).trans (freeJobIn_keeps _ _ _)
    · exact (faultCart_keeps _ s).trans (freeJobIn_keeps _ _ _)
    · exact .refl s

theorem wipeEffects_keeps (s0 : State) (good : Bool) (serial : Nat) (s : State) :
    Keeps s (wipeEffects s0 good serial s) := by
  cases good with
  | true => exact (wipedCart_keeps serial s).trans (releaseLists_keeps s0 _)
  | false => exact faultCart_keeps serial s

theorem finishWrite_keeps (n job serial : Nat) (good : Bool) (e : Ending) (s : State) :
    Keeps s (finishWrite n job serial good e s) :=
  (idleBay_keeps _ _ _ _ s).trans ((writeEffects_keeps _ _ _ _ _).trans (countOutcome_keeps _ _ _))

theorem finishWipe_keeps (n serial : Nat) (good : Bool) (e : Ending) (s : State) :
    Keeps s (finishWipe n serial good e s) :=
  (idleBay_keeps _ _ _ _ s).trans ((wipeEffects_keeps _ _ _ _).trans (countOutcome_keeps _ _ _))

theorem faultBay_keeps (n : Nat) (b : Bay) (s : State) : Keeps s (faultBay n b s) := by
  unfold faultBay
  split
  · exact finishWrite_keeps _ _ _ _ _ s
  · exact finishWipe_keeps _ _ _ _ s
  · exact countOutcome_keeps _ _ s

theorem abandonWrite_keeps (s0 : State) (job serial : Nat) (s : State) : Keeps s (abandonWrite s0 job serial s) := by
  unfold abandonWrite
  refine (toUnwiped_keeps serial s).trans ?_
  dsimp only
  split
  · exact freeJobIn_keeps _ _ _
  · exact needBlank_keeps _ _

theorem abandonActivity_keeps (n : Nat) (b : Bay) (s : State) : Keeps s (abandonActivity n b s) := by
  unfold abandonActivity
  split
  · exact (idleBay_keeps _ _ _ _ s).trans (abandonWrite_keeps _ _ _ _)
  · exact (idleBay_keeps _ _ _ _ s).trans (toUnwiped_keeps _ _)
  · exact .refl s

/-- The ranges of a bay's fields when a condition in range is set. -/
theorem inRange_withCondition {b : Bay} (hb : b.inRange = true) (last : Option LastActivity) {c : Condition}
    (hc : Bay.inRange ⟨c, 0, none⟩ = true) : Bay.inRange ⟨c, b.restsToday, last⟩ = true := by
  simp only [Bay.inRange, Bool.and_eq_true] at hb hc ⊢
  exact ⟨hb.1, hc.2⟩

theorem setCondition_keeps (n : Nat) {c : Condition} (hc : Bay.inRange ⟨c, 0, none⟩ = true) (s : State) :
    Keeps s (setCondition n c s) := by
  unfold setCondition
  split
  · rename_i b hb
    exact putBay_keeps n fun hs => inRange_withCondition (bay_inRange hb hs) _ hc
  · exact .refl s

theorem assignWipe_keeps {n : Nat} {b : Bay} {s : State} (serial : Nat) (h : s.bay n = some b) :
    Keeps s (assignWipe n b serial s) := by
  unfold assignWipe
  split
  · rename_i hc
    refine .trans (putBay_keeps n fun hs => inRange_withActivity hc (bay_inRange h hs) ?_ _)
      { carts := fun h => Table.wf_modify h _ _ }
    simpa [Activity.inRange] using wipeDeadline_le hs
  · exact .refl s

theorem assignWrite_keeps {n : Nat} {b : Bay} {s : State} (job : Nat) (j : Job) (serial : Nat) (h : s.bay n = some b) :
    Keeps s (assignWrite n b job j serial s) := by
  unfold assignWrite
  split
  · rename_i hc
    refine .trans (putBay_keeps n fun hs => inRange_withActivity hc (bay_inRange h hs) ?_ _)
      { carts := fun h => Table.wf_modify h _ _, jobs := fun h => Table.wf_put h _ _ }
    simpa [Activity.inRange] using writeDeadline_le hs
  · exact .refl s

/-- One minute less leaves a condition within its ranges (R80). -/
theorem inRange_tick {b : Bay} (h : b.inRange = true) : ({ b with condition := b.condition.tick } : Bay).inRange = true := by
  unfold Condition.tick
  split <;> rename_i hc <;> simp only [Bay.inRange, hc, Activity.inRange, Bool.and_eq_true, decide_eq_true_eq] at h ⊢
  · omega
  · omega
  · omega
  · exact h

theorem minuteTick_keeps (s : State) : Keeps s (minuteTick s) where
  ranges := ranges_mapBays fun _ => inRange_tick

theorem expireDeadline_keeps (n : Nat) (s : State) : Keeps s (expireDeadline n s) := by
  unfold expireDeadline
  split
  · split
    · exact finishWrite_keeps _ _ _ _ _ s
    · exact finishWipe_keeps _ _ _ _ s
    · exact .refl s
  · exact .refl s

theorem expireRest_keeps (n : Nat) (s : State) : Keeps s (expireRest n s) := by
  unfold expireRest
  split
  · rename_i b hb
    split
    · exact putBay_keeps n fun hs => inRange_withCondition (bay_inRange hb hs) _ rfl
    · exact .refl s
  · exact .refl s

end Sys2Proof.Machine
end

section
/-! SUPPORT. What the calendar, the Selection Engine, the scan and the requests keep, and so every command. -/

namespace Sys2Proof.Machine

-- One declaration at a time: the check's memory does not hold many side by side.
set_option Elab.async false

/-! ### The calendar -/

theorem freeLoan_keeps (n : Nat) (s : State) : Keeps s { s with loans := s.loans.del n } where
  loans h := Table.wf_del h _

theorem closeLoan_keeps (n patron : Nat) (s : State) : Keeps s (closeLoan n patron s) :=
  (freeLoan_keeps n s).trans ((lowerHeld_keeps _ _ _).trans (freeIfDone_keeps _ _))

theorem closeLost_keeps (n : Nat) (s : State) : Keeps s (closeLost n s) := by
  unfold closeLost loseObject
  split
  · refine .trans ?_ (closeLoan_keeps _ _ _)
    split
    · exact { carts := fun h => Table.wf_modify h _ _ }
    · exact makeIncomplete_keeps _ _ s
  · exact .refl s

theorem closeGrace_keeps (n : Nat) (s : State) : Keeps s (closeGrace n s) := by
  unfold closeGrace missObject
  split
  · refine .trans ?_ (closeLoan_keeps _ _ _)
    split
    · exact makeIncomplete_keeps _ _ s
    · exact .refl s
  · exact .refl s

theorem tickLoans_keeps (s : State) : Keeps s (tickLoans s) where
  loans h := Table.wf_mapAll h fun _ l => l.tick

theorem closeDue_keeps (s : State) : Keeps s (closeDue s) :=
  (Keeps.foldl (fun u n => closeLost_keeps n u) _ s).trans (Keeps.foldl (fun u n => closeGrace_keeps n u) _ _)

theorem endPause_keeps (n : Nat) (p : Patron) (s : State) : Keeps s (endPause n p s) := by
  unfold endPause
  split
  · exact (putPatron_keeps n _ s).trans (raise_keeps _ _ _)
  · exact (putPatron_keeps n _ s).trans (appendPass_keeps _ _)

theorem dayPatron_keeps (day : Nat) (checked closers : List Nat) (n : Nat) (s : State) :
    Keeps s (dayPatron day checked closers n s) := by
  unfold dayPatron
  split
  · exact .refl s
  · exact (Keeps.ite (endPause_keeps n _ s) (.refl s)).trans
      ((Keeps.ite (suspensionCheck_keeps n _) (.refl _)).trans (.ite (appendPassOpen_keeps n _) (.refl _)))

theorem dayPatrons_keeps (day : Nat) (checked closers : List Nat) (s : State) : Keeps s (dayPatrons day checked closers s) :=
  Keeps.foldl (fun u n => dayPatron_keeps day checked closers n u) _ s

/-- The turn of the day: the day stays below its modulus, the limit in force takes the next one's value, and no bay has rested
today (R100, R137). -/
theorem turnDay_keeps (isOpen : Bool) (s : State) : Keeps s (turnDay isOpen s) where
  ranges hs := by
    obtain ⟨hsettings, hcounters, -, hlen, hbays⟩ := (State.inRange_iff s).1 hs
    refine (State.inRange_iff _).2 ⟨?_, hcounters, Nat.mod_lt _ (by decide), by simpa [turnDay] using hlen, fun b hb => ?_⟩
    · rw [Settings.inRange_iff] at hsettings ⊢
      obtain ⟨hcart, hbraille, hrenew, hsuspend, hlost, hgrace, hnext, -, hrest⟩ := hsettings
      exact ⟨hcart, hbraille, hrenew, hsuspend, hlost, hgrace, hnext, hnext, hrest⟩
    · obtain ⟨b', hb', rfl⟩ := List.mem_map.1 hb
      have := hbays b' hb'
      simp only [Bay.inRange, Bool.and_eq_true] at this ⊢
      exact ⟨rfl, this.2⟩

theorem advanceDay_keeps (isOpen : Bool) (s : State) : Keeps s (advanceDay isOpen s) := by
  unfold advanceDay
  refine (turnDay_keeps isOpen s).trans ?_
  dsimp only
  split
  · exact (tickLoans_keeps _).trans ((closeDue_keeps _).trans (dayPatrons_keeps _ _ _ _))
  · exact dayPatrons_keeps _ _ _ _

theorem dayNotices_keeps (lost graced : Nat) (s : State) : Keeps s (dayNotices lost graced s) :=
  (raiseIf_keeps _ _ _ s).trans ((raiseIf_keeps _ _ _ _).trans (raiseIf_keeps _ _ _ _))

/-! ### Check-in -/

theorem checkInLoan_keeps (n : Nat) (l : Loan) (s : State) : Keeps s (checkInLoan n l s) := by
  have hclosed := (closeLoan_keeps n l.patron s).trans (appendPassOpen_keeps l.patron _)
  exact .ite (hclosed.trans (suspensionCheck_keeps l.patron _)) hclosed

theorem closeSetLoan_keeps (set n : Nat) (l : Loan) (s : State) : Keeps s (closeSetLoan set n l s) :=
  (makeAvailable_keeps set s).trans (checkInLoan_keeps n l _)

theorem putLoan_keeps (n : Nat) (l : Loan) (s : State) : Keeps s { s with loans := s.loans.put n l } where
  loans h := Table.wf_put h _ _

theorem firstVolume_keeps (n : Nat) (l : Loan) (v : Nat) (s : State) : Keeps s (firstVolume n l v s) := by
  have hput := putLoan_keeps n { l with state := .part [v] s.settings.partialGrace } s
  exact .ite (hput.trans (suspensionCheck_keeps l.patron _)) hput

/-! ### The Selection Engine -/

theorem takeSet_keeps (fr : WalkFrame) (n : Nat) (w : WishEntry) (p : Plan) (s : State) :
    Keeps s (takeSet fr n w p s).1 where
  copySets h := Table.wf_modify h _ _

theorem walkBraille_keeps (fr : WalkFrame) (w : WishEntry) (r : Title) (p : Plan) (s : State) :
    Keeps s (walkBraille fr w r p s).1 := by
  unfold walkBraille
  split
  · split
    · exact takeSet_keeps _ _ _ _ s
    · exact .refl s
  · exact .refl s

theorem noteBlocked_keeps (c : Cls) (w : WishEntry) (p : Plan) (s : State) : Keeps s (noteBlocked c w p s).1 := by
  unfold noteBlocked
  dsimp only
  split
  · exact {}
  · exact .refl s

theorem walkOpen_keeps (fr : WalkFrame) (t : JobTitle) (w : WishEntry) (p : Plan) (s : State) :
    Keeps s (walkOpen fr t w p s).1 := by
  unfold walkOpen
  dsimp only
  split
  · split
    · exact {}
    · exact noteBlocked_keeps _ _ _ s
  · exact .refl s

theorem walkCartridge_keeps (fr : WalkFrame) (w : WishEntry) (i : Image) (p : Plan) (s : State) :
    Keeps s (walkCartridge fr w i p s).1 := by
  unfold walkCartridge
  dsimp only
  split
  · exact .refl s
  · exact walkOpen_keeps _ _ _ _ s

theorem walkEntry_keeps (fr : WalkFrame) (acc : State × Plan) (w : WishEntry) : Keeps acc.1 (walkEntry fr acc w).1 := by
  unfold walkEntry
  split
  · exact .refl acc.1
  · split
    · exact .refl acc.1
    · split
      · exact walkCartridge_keeps _ _ _ _ _
      · exact walkBraille_keeps _ _ _ _ _
      · exact .refl acc.1

theorem walk_keeps (fr : WalkFrame) (free : Nat) (wishes : List WishEntry) (s : State) : Keeps s (walk fr free wishes s).1 :=
  Keeps.foldl_fst (walkEntry_keeps fr) wishes (s, _)

theorem restampIfFull_keeps (s : State) : Keeps s (restampIfFull s) := by
  unfold restampIfFull
  split
  · exact { jobs := fun h => Table.wf_mapAll h fun n j => { j with stamp := (jobsByStamp s).idxOf n + 1 } }
  · exact .refl s

theorem createJob_keeps (order patron : Nat) (o : Opened) (s : State) : Keeps s (createJob order patron o s).1 := by
  refine (restampIfFull_keeps s).trans ?_
  exact { jobs := fun h => Table.wf_put h _ _, ranges := ranges_withCounters (Counters.inRange_job _ _) }

theorem createTask_keeps (order set : Nat) (band : Band) (s : State) : Keeps s (createTask order set band s) where
  tasks h := Table.wf_put h _ _
  ranges := ranges_withCounters (Counters.inRange_task _)

theorem createItem_keeps (order patron : Nat) (acc : State × List Item) (i : PlanItem) :
    Keeps acc.1 (createItem order patron acc i).1 := by
  cases i with
  | cart o => exact createJob_keeps _ _ _ acc.1
  | copySet n w => exact createTask_keeps _ _ _ acc.1

theorem chargePatron_keeps (n : Nat) (p : Patron) (plan : Plan) (placed : List WishEntry) (s : State) :
    Keeps s (chargePatron n p plan placed s) := by
  refine .trans ?_ (leaveWaitingAll_keeps _ _ _)
  exact { patrons := fun h => Table.wf_put h _ _ }

theorem createOrder_keeps (order n : Nat) (p : Patron) (plan : Plan) (s : State) :
    Keeps s (createOrder order n p plan s) := by
  refine (Keeps.foldl_fst (createItem_keeps order n) plan.items (s, [])).trans (.trans ?_ (chargePatron_keeps _ _ _ _ _))
  exact { orders := fun h => Table.wf_put h _ _, ranges := ranges_withCounters (Counters.inRange_order _) }

theorem settleAll_keeps (n : Nat) (p : Plan) (s : State) : Keeps s (settleAll n p s) := {}

theorem walkPass_keeps (n : Nat) (p : Patron) (offered : Option Nat) (s : State) : Keeps s (walkPass n p offered s) := by
  have hwalk := walk_keeps { limit := p.limit, cls := p.cls, order := freshNumber s.orders s.counters.order, offered := offered }
    (p.allowance - p.held) p.wishes s
  exact .trans (.ite hwalk (hwalk.trans (createOrder_keeps _ _ _ _ _))) (settleAll_keeps _ _ _)

theorem runPass_keeps (n : Nat) (offered : Option Nat) (s : State) : Keeps s (runPass n offered s) := by
  unfold runPass
  split
  · exact .refl s
  · split
    · exact walkPass_keeps _ _ _ s
    · exact .refl s

theorem advanceOffer_keeps (s : State) : Keeps s (advanceOffer s) := by
  unfold advanceOffer
  split
  · exact .refl s
  · dsimp only
    split <;> exact {}

theorem beginNextOffer_keeps (s : State) : Keeps s (beginNextOffer s) := by
  unfold beginNextOffer beginOffer
  split
  · split
    · exact {}
    · exact .trans {} (advanceOffer_keeps _)
  · exact .refl s

theorem settleOffers_keeps (fuel : Nat) (s : State) : Keeps s (settleOffers fuel s) := by
  induction fuel generalizing s with
  | zero => exact .refl s
  | succ fuel ih =>
    unfold settleOffers
    split
    · exact .refl s
    · exact (beginNextOffer_keeps s).trans (ih _)

theorem endOfferPass_keeps (o : Offer) (s : State) : Keeps s (endOfferPass o s) := by
  unfold endOfferPass
  split <;> exact {}

theorem startQueuePass_keeps (s : State) : Keeps s (startQueuePass s) := by
  unfold startQueuePass
  split
  · exact .refl s
  · exact {}

theorem startNext_keeps (s : State) : Keeps s (startNext s) := by
  unfold startNext
  refine ((advanceOffer_keeps s).trans (settleOffers_keeps s.pendingOffers.length _)).trans ?_
  dsimp only
  split
  · split
    · exact {}
    · exact startQueuePass_keeps _
  · exact startQueuePass_keeps _

theorem startPass_keeps (s : State) : Keeps s (startPass s) := by
  unfold startPass
  split
  · exact .refl s
  · exact startNext_keeps s

theorem finishPass_keeps (s : State) : Keeps s (finishPass s) := by
  unfold finishPass
  split
  · exact .refl s
  · rename_i r _
    have hrun : Keeps s (runPass r.patron r.offered { s with running := none }) := .trans {} (runPass_keeps _ _ _)
    dsimp only
    split
    · exact hrun.trans (endOfferPass_keeps _ _)
    · exact hrun

theorem takePass_keeps (s : State) : Keeps s (takePass s) :=
  (startPass_keeps s).trans (finishPass_keeps _)

theorem workOffer_keeps (s : State) : Keeps s (workOffer s) := by
  unfold workOffer
  split
  · exact .refl s
  · split
    · exact advanceOffer_keeps s
    · exact beginNextOffer_keeps s

/-! ### STORE-CLEAR and the scan -/

/-- An empty library over bays in range is in range (R19). -/
theorem inRange_empty {s : State} {bs : List Bay} (hs : s.settings = Settings.default) (hc : s.counters = Counters.initial)
    (hd : s.day = 0) (hb : s.bays = bs) (hl : bs.length = Config.bayCount) (hr : ∀ b ∈ bs, b.inRange = true) :
    s.inRange = true := by
  rw [State.inRange_iff, hs, hc, hd, hb]
  exact ⟨by decide, by decide, by decide, hl, hr⟩

theorem Bay.inRange_cleared {b : Bay} (h : b.inRange = true) : b.cleared.inRange = true := by
  unfold Bay.cleared
  split
  · rfl
  · simp only [Bay.inRange, Bool.and_eq_true] at h ⊢
    exact ⟨rfl, h.2⟩

theorem clearStore_keeps (s : State) : Keeps s (clearStore s) where
  patrons _ := rfl
  titles _ := rfl
  copySets _ := rfl
  carts _ := rfl
  jobs _ := rfl
  orders _ := rfl
  tasks _ := rfl
  parcels _ := rfl
  groups _ := rfl
  loans _ := rfl
  ranges hs := by
    obtain ⟨-, -, -, hlen, hbays⟩ := (State.inRange_iff s).1 hs
    refine inRange_empty rfl rfl rfl rfl (by simpa [clearStore] using hlen) fun b hb => ?_
    obtain ⟨b', hb', rfl⟩ := List.mem_map.1 hb
    exact Bay.inRange_cleared (hbays b' hb')

theorem scanned_keeps (s : State) : Keeps s (scanned s) := by
  unfold scanned
  split
  · exact { clearStore_keeps s with
      ranges := fun _ => inRange_empty rfl rfl rfl rfl (by simp) fun b hb => by rw [List.eq_of_mem_replicate hb]; rfl }
  · exact .refl s

theorem giveUpJob_keeps (n : Nat) (s : State) : Keeps s (giveUpJob n s) := by
  unfold giveUpJob
  split
  · exact freeJob_keeps _ s
  · exact .refl s

theorem takeBackBay_keeps (n : Nat) (s : State) : Keeps s (takeBackBay n s) := by
  unfold takeBackBay
  split
  · split
    · exact (idleBay_keeps _ _ _ _ s).trans ((toUnwiped_keeps _ _).trans (giveUpJob_keeps _ _))
    · exact (idleBay_keeps _ _ _ _ s).trans (toUnwiped_keeps _ _)
    · exact .refl s
  · exact .refl s

theorem bringBackBays_keeps (s : State) : Keeps s (bringBackBays s) where
  ranges := ranges_mapBays fun b hb => inRange_withCondition hb _ (by
    obtain ⟨c, -, -⟩ := b
    cases c <;> rfl)

theorem returnPulls_keeps (s : State) : Keeps s (returnPulls s) where
  tasks h := Table.wf_mapAll h fun _ t => t.returnedTask
  copySets h := Table.wf_mapAll h fun _ c => { c with state := c.state.unpulled }

theorem returnParcels_keeps (s : State) : Keeps s (returnParcels s) where
  parcels h := Table.wf_mapAll h fun _ p => p.unpacked

theorem reissueJobs_keeps (s : State) : Keeps s (reissueJobs s) :=
  Keeps.foldl (fun u n => needBlank_keeps n u) _ s

theorem takeBackBays_keeps (s : State) : Keeps s (takeBackBays s) :=
  Keeps.foldl (fun u n => takeBackBay_keeps n u) _ s

theorem recountHeld_keeps (s : State) : Keeps s (recountHeld s) := {}

theorem recountReserved_keeps (s : State) : Keeps s (recountReserved s) := {}

theorem recountDay_keeps (s : State) : Keeps s (recountDay s) := {}

theorem rebuildEngine_keeps (s : State) : Keeps s (rebuildEngine s) := {}

theorem startPorts_keeps (s : State) : Keeps s (startPorts s) := {}

theorem scanRecords_keeps (s : State) : Keeps s (scanRecords s) :=
  have hbays := ((recountHeld_keeps s).trans (takeBackBays_keeps _)).trans (bringBackBays_keeps _)
  have hjobs := (hbays.trans (recountReserved_keeps _)).trans (reissueJobs_keeps _)
  have hreturns := (hjobs.trans (returnPulls_keeps _)).trans (returnParcels_keeps _)
  (hreturns.trans (recountDay_keeps _)).trans (rebuildEngine_keeps _)

theorem release_keeps (b : Bool) (s : State) : Keeps s { s with restartAsserted := b } := {}

theorem runScan_keeps (s : State) : Keeps s (runScan s) :=
  ((scanned_keeps s).trans (scanRecords_keeps _)).trans ((release_keeps false _).trans (startPorts_keeps _))

end Sys2Proof.Machine
end

section
/-! SUPPORT. What each request keeps when it is taken. -/

namespace Sys2Proof.Machine

-- One declaration at a time: the check's memory does not hold many side by side.
set_option Elab.async false

/-! ### Requests of every link and of the Order link -/

theorem onPort_keeps (l : Link) (f : Port → Port) (s : State) : Keeps s (s.onPort l f) := {}

theorem takeStatus_keeps (l : Link) (s : State) : Keeps s (takeStatus l s).state := {}

theorem takeNoticeAck_keeps (l : Link) (code cls : Nat) (s : State) : Keeps s (takeNoticeAck l code cls s).state := by
  unfold takeNoticeAck
  split
  · exact .refl s
  · split
    · exact .refl s
    · split
      · exact .refl s
      · exact {}

theorem storePatron_keeps (n : Nat) (p : Patron) (clamped : Bool) (s : State) : Keeps s (storePatron n p clamped s).state :=
  (putPatron_keeps n p s).trans (.ite (appendPass_keeps n _) (.refl _))

theorem takePatronSet_keeps (n a t k m : Nat) (s : State) : Keeps s (takePatronSet n a t k m s).state := by
  unfold takePatronSet
  dsimp only
  split
  · exact .refl s
  · split
    · exact storePatron_keeps _ _ _ s
    · split
      · exact .refl s
      · exact .trans {} (storePatron_keeps n _ _ _)

theorem takePatronPause_keeps (n untilDay : Nat) (s : State) : Keeps s (takePatronPause n untilDay s).state := by
  unfold takePatronPause
  split
  · exact .refl s
  · dsimp only
    split
    · exact .refl s
    · exact .refl s
    · exact putPatron_keeps _ _ s

theorem takePatronResume_keeps (n : Nat) (s : State) : Keeps s (takePatronResume n s).state := by
  unfold takePatronResume
  split
  · exact .refl s
  · split
    · exact .refl s
    · exact .refl s
    · exact .refl s
    · exact endPause_keeps _ _ s

theorem takePatronClose_keeps (n : Nat) (s : State) : Keeps s (takePatronClose n s).state := by
  unfold takePatronClose
  split
  · exact .refl s
  · split
    · exact .refl s
    · exact (cancelAll_keeps _ _ s).trans ((closeRecord_keeps _ _).trans (freeIfDone_keeps _ _))

theorem takePatronRead_keeps (n : Nat) (s : State) : Keeps s (takePatronRead n s).state := by
  unfold takePatronRead
  split <;> exact .refl s

theorem addWish_keeps (n : Nat) (p : Patron) (w : WishEntry) (s : State) : Keeps s (addWish n p w s) :=
  ((putPatron_keeps n _ s).trans (.ite (onWaiting_keeps w.title _ _) (.refl _))).trans
    (.ite (appendPass_keeps n _) (.refl _))

theorem takeWishAdd_keeps (n t f b : Nat) (s : State) : Keeps s (takeWishAdd n t f b s).state := by
  unfold takeWishAdd
  split
  · exact .refl s
  · split
    · exact .refl s
    · split
      · split
        · exact .refl s
        · exact addWish_keeps _ _ _ s
      · exact .refl s

theorem takeWishDrop_keeps (n t f : Nat) (s : State) : Keeps s (takeWishDrop n t f s).state := by
  unfold takeWishDrop
  split
  · exact .refl s
  · exact (putPatron_keeps n _ s).trans (.ite (onWaiting_keeps _ _ _) (.refl _))

theorem takeWishMove_keeps (n t f b pos : Nat) (s : State) : Keeps s (takeWishMove n t f b pos s).state := by
  unfold takeWishMove
  split
  · exact .refl s
  · exact (putPatron_keeps n _ s).trans (.ite (appendPass_keeps n _) (.refl _))

theorem takeWishRead_keeps (n : Nat) (s : State) : Keeps s (takeWishRead n s).state := by
  unfold takeWishRead
  split
  · exact .refl s
  · split <;> exact .refl s

theorem takeTitleSet_keeps (t : Nat) (ia : ImageAction) (ba : BrailleAction) (s : State) :
    Keeps s (takeTitleSet t ia ba s).state := by
  unfold takeTitleSet
  split
  · exact .refl s
  · exact { titles := fun h => Table.wf_put h _ _ }

theorem takeTitleWithdraw_keeps (t : Nat) (s : State) : Keeps s (takeTitleWithdraw t s).state := by
  unfold takeTitleWithdraw
  split
  · exact .refl s
  · split
    · exact .refl s
    · exact { titles := fun h => Table.wf_put h _ _ }

theorem takeCopysetAdd_keeps (t : Nat) (s : State) : Keeps s (takeCopysetAdd t s).state := by
  unfold takeCopysetAdd
  split
  · exact .refl s
  · split_ifs
    · exact .refl s
    · exact .refl s
    · exact .refl s
    · exact .refl s
    · refine .trans ?_ (makeAvailable_keeps _ _)
      exact { titles := fun h => Table.wf_put h _ _, copySets := fun h => Table.wf_put h _ _ }

theorem takeLoanRead_keeps (sel : LoanSelector) (s : State) : Keeps s (takeLoanRead sel s).state := by
  unfold takeLoanRead
  split
  · split <;> exact .refl s
  · split <;> exact .refl s

theorem takeRenew_keeps (n : Nat) (s : State) : Keeps s (takeRenew n s).state := by
  unfold takeRenew
  split
  · exact .refl s
  · split
    · exact putLoan_keeps _ _ s
    · exact .refl s

theorem takeOrderCancel_keeps (n order flag : Nat) (s : State) : Keeps s (takeOrderCancel n order flag s).state := by
  unfold takeOrderCancel
  split
  · exact .refl s
  · split
    · exact .refl s
    · exact cancelAll_keeps _ _ s

theorem takeNewDay_keeps (code : Nat) (s : State) : Keeps s (takeNewDay code s).state := by
  unfold takeNewDay
  split
  · exact .refl s
  · exact (advanceDay_keeps _ s).trans (dayNotices_keeps _ _ _)

theorem suspendAfterChecks_keeps (s : State) : Keeps s (suspendAfterChecks s) :=
  Keeps.foldl (fun u n => suspensionCheck_keeps n u) _ s

theorem takeServiceSet_keeps (ident v : Nat) (s : State) : Keeps s (takeServiceSet ident v s).state := by
  unfold takeServiceSet
  split
  · exact .refl s
  · rename_i w hw
    have hwrite : Keeps s { s with settings := s.settings.write ident w } :=
      { ranges := ranges_withSettings (Settings.inRange_write hw) }
    exact hwrite.trans (.ite (suspendAfterChecks_keeps _) (.refl _))

theorem raisePoolLevels_keeps (c : Cls) (s : State) : Keeps s (raisePoolLevels c s) :=
  (raise_keeps _ _ s).trans ((raise_keeps _ _ _).trans (raise_keeps _ _ _))

theorem takeStoreClear_keeps (s : State) : Keeps s (takeStoreClear s).state := by
  unfold takeStoreClear
  split
  · exact .refl s
  · exact (clearStore_keeps s).trans (Keeps.foldl (fun u c => raisePoolLevels_keeps c u) _ _)

/-! ### Requests of the Duplication link -/

theorem takeCartEnrol_keeps (serial c : Nat) (s : State) : Keeps s (takeCartEnrol serial c s).state := by
  unfold takeCartEnrol
  split
  · exact .refl s
  · split
    · exact .refl s
    · split
      · exact .refl s
      · exact { carts := fun h => Table.wf_put h _ _ }

theorem takeCartForget_keeps (serial : Nat) (s : State) : Keeps s (takeCartForget serial s).state := by
  unfold takeCartForget
  split
  · exact .refl s
  · split
    · exact { carts := fun h => Table.wf_del h _ }
    · exact .refl s

/-- POOL-SET's levels leave every setting in its range: warn in 1 to 1,000 and critical below it (R76). -/
theorem inRange_poolLevels {g : Settings} (c : Cls) (warn critical : Nat) (hg : g.inRange = true) :
    ({ g with warn := g.warn.set c (poolLevels warn critical).1
              critical := g.critical.set c (poolLevels warn critical).2 } : Settings).inRange = true := by
  rw [Settings.inRange_iff] at hg ⊢
  obtain ⟨hcart, hbraille, hrenew, hsuspend, hlost, hgrace, hnext, hforce, hwrite, hwipe, hrest, hwear, hlevels⟩ := hg
  refine ⟨hcart, hbraille, hrenew, hsuspend, hlost, hgrace, hnext, hforce, hwrite, hwipe, hrest, hwear, fun d => ?_⟩
  by_cases hd : d = c
  · subst hd
    have := clampTo_bounds (lo := 1) (hi := 1000) warn (by decide)
    simp only [PerClass.get_set_same, poolLevels]
    omega
  · simpa [hd] using hlevels d

theorem takePoolSet_keeps (c warn critical : Nat) (s : State) : Keeps s (takePoolSet c warn critical s).state := by
  unfold takePoolSet
  split
  · exact .refl s
  · refine .trans ?_ (releaseLists_keeps s _)
    exact { ranges := ranges_withSettings (inRange_poolLevels _ warn critical) }

/-- A bay request keeps what it keeps once its checks are passed (R79). -/
theorem bayCheck_keeps {n : Nat} {s : State} {take : Bay → Taken} (h : ∀ b, s.bay n = some b → Keeps s (take b).state) :
    Keeps s (bayCheck n s take).state := by
  unfold bayCheck
  split
  · exact .refl s
  · rename_i b hb
    split
    · exact .refl s
    · exact h b hb

theorem takeBayRead_keeps (n : Nat) (s : State) : Keeps s (takeBayRead n s).state := by
  unfold takeBayRead
  split <;> exact .refl s

theorem takeBayOnline_keeps (n : Nat) (s : State) : Keeps s (takeBayOnline n s).state := by
  unfold takeBayOnline
  split
  · exact .refl s
  · rename_i b hb
    split
    · exact .refl s
    · exact .refl s
    · exact .refl s
    · exact putBay_keeps n fun hs => inRange_withCondition (bay_inRange hb hs) _ rfl

theorem takeBayOffline_keeps (n : Nat) (s : State) : Keeps s (takeBayOffline n s).state :=
  bayCheck_keeps fun b _ => (abandonActivity_keeps n b s).trans (setCondition_keeps n rfl _)

theorem takeBayRestore_keeps (n : Nat) (s : State) : Keeps s (takeBayRestore n s).state :=
  bayCheck_keeps fun b _ => by
    split
    · exact putBay_keeps n fun _ => rfl
    · exact .refl s

theorem releaseList_keeps (c : Cls) (s : State) : Keeps s (releaseList c s) := {}

theorem takeDupRestart_keeps (s : State) : Keeps s (takeDupRestart s).state := by
  unfold takeDupRestart
  split
  · have hrun : Keeps s { s with standing := .running } := {}
    have hlists := hrun.trans ((releaseList_keeps .c1 _).trans ((releaseList_keeps .c2 _).trans (releaseList_keeps .c3 _)))
    exact hlists.trans {}
  · exact .refl s

theorem arbitrate_keeps {n : Nat} {b : Bay} {s : State} (h : s.bay n = some b) : Keeps s (arbitrate n b s).state := by
  unfold arbitrate
  split
  · exact assignWipe_keeps _ h
  · exact assignWrite_keeps _ _ _ h
  · exact assignWipe_keeps _ h
  · exact .refl s

theorem takeWork_keeps (n : Nat) (s : State) : Keeps s (takeWork n s).state :=
  bayCheck_keeps fun b hb => by
    split
    · exact arbitrate_keeps hb
    · exact .refl s

theorem takeWriteDone_keeps (n serial code : Nat) (s : State) : Keeps s (takeWriteDone n serial code s).state :=
  bayCheck_keeps fun b _ => by
    split
    · exact .refl s
    · split
      · split
        · exact finishWrite_keeps _ _ _ _ _ s
        · exact .refl s
      · exact .refl s

theorem takeWipeDone_keeps (n serial code : Nat) (s : State) : Keeps s (takeWipeDone n serial code s).state :=
  bayCheck_keeps fun b _ => by
    split
    · exact .refl s
    · split
      · split
        · exact finishWipe_keeps _ _ _ _ s
        · exact .refl s
      · exact .refl s

theorem takeBayFault_keeps (n : Nat) (s : State) : Keeps s (takeBayFault n s).state :=
  bayCheck_keeps fun b _ => by
    split
    · exact faultBay_keeps n b s
    · exact .refl s

/-! ### Requests of the Mailroom link -/

theorem takeNextPull_keeps (s : State) : Keeps s (takeNextPull s).state := by
  unfold takeNextPull
  split
  · exact .refl s
  · split
    · exact .refl s
    · split
      · exact .refl s
      · refine .trans ?_ (setSetState_keeps _ _ _)
        exact { tasks := fun h => Table.wf_put h _ _ }

theorem takePulled_keeps (n : Nat) (s : State) : Keeps s (takePulled n s).state := by
  unfold takePulled
  split
  · exact .refl s
  · split
    · exact .refl s
    · exact (freeTask_keeps n s).trans ((setSetState_keeps _ _ _).trans (itemReady_keeps _ _ _))

theorem takeNotFound_keeps (n : Nat) (s : State) : Keeps s (takeNotFound n s).state := by
  unfold takeNotFound
  split
  · exact .refl s
  · split
    · exact .refl s
    · exact (freeTask_keeps n s).trans ((makeIncomplete_keeps _ _ _).trans (dropItem_keeps _ _ _))

theorem takeSetFound_keeps (set : Nat) (s : State) : Keeps s (takeSetFound set s).state := by
  unfold takeSetFound
  split
  · exact .refl s
  · split
    · exact makeAvailable_keeps set s
    · exact .refl s

theorem takeNextParcel_keeps (s : State) : Keeps s (takeNextParcel s).state := by
  unfold takeNextParcel
  split
  · exact .refl s
  · split
    · exact .refl s
    · split
      · exact .refl s
      · split
        · exact .refl s
        · split
          · exact .refl s
          · exact handOut_keeps _ _ _ s

theorem takePacked_keeps (n : Nat) (s : State) : Keeps s (takePacked n s).state := by
  unfold takePacked
  split
  · exact .refl s
  · split
    · exact .refl s
    · have hset := setParcelState_keeps n .dispatched s
      dsimp only
      split
      · exact (hset.trans {}).trans ((createLoans_keeps _ _).trans (serveBacklog_keeps _))
      · exact hset.trans {}

theorem takeUnpack_keeps (n : Nat) (s : State) : Keeps s (takeUnpack n s).state := by
  unfold takeUnpack
  split
  · exact .refl s
  · split
    · exact .refl s
    · exact (setParcelState_keeps n .ready s).trans {}

/-! ### Requests of the Returns link -/

theorem takeCartIn_keeps (serial : Nat) (s : State) : Keeps s (takeCartIn serial s).state := by
  unfold takeCartIn
  split
  · exact .refl s
  · split
    · split
      · exact (toUnwiped_keeps serial s).trans (checkInLoan_keeps _ _ _)
      · exact .refl s
    · exact toUnwiped_keeps serial s
    · exact .refl s
    · exact .refl s

theorem volInOnLoan_keeps (set n : Nat) (l : Loan) (v count : Nat) (s : State) :
    Keeps s (volInOnLoan set n l v count s).state := by
  unfold volInOnLoan
  split
  · split
    · exact .refl s
    · split
      · exact closeSetLoan_keeps _ _ _ s
      · exact putLoan_keeps _ _ s
  · split
    · exact closeSetLoan_keeps _ _ _ s
    · exact firstVolume_keeps _ _ _ s

theorem volInIncomplete_keeps (set : Nat) (c : CopySet) (missing : List Nat) (v : Nat) (s : State) :
    Keeps s (volInIncomplete set c missing v s).state := by
  unfold volInIncomplete
  split
  · exact .refl s
  · split
    · exact makeAvailable_keeps set s
    · exact putSet_keeps _ _ s

theorem takeVolIn_keeps (set v : Nat) (s : State) : Keeps s (takeVolIn set v s).state := by
  unfold takeVolIn
  split
  · exact .refl s
  · dsimp only
    split
    · exact .refl s
    · split
      · split
        · exact volInOnLoan_keeps _ _ _ _ _ s
        · exact .refl s
      · exact volInIncomplete_keeps _ _ _ _ s
      · exact .refl s

theorem takeCopysetRead_keeps (n : Nat) (s : State) : Keeps s (takeCopysetRead n s).state := by
  unfold takeCopysetRead
  split <;> exact .refl s

/-! ### Bodies, frames and characters -/

section
variable {s : State} {body : List Byte} {f : State → Taken}

theorem noBody_keeps {take : State → Taken} (h : ∀ s, Keeps s (take s).state) (hf : noBody take body = some f) :
    Keeps s (f s).state := by
  unfold noBody at hf
  split at hf <;> cases hf
  exact h s

theorem oneField_keeps {w : Nat} {take : Nat → State → Taken} (h : ∀ a s, Keeps s (take a s).state)
    (hf : oneField w take body = some f) : Keeps s (f s).state := by
  unfold oneField at hf
  split at hf <;> cases hf
  exact h _ s

theorem twoFields_keeps {w1 w2 : Nat} {take : Nat → Nat → State → Taken} (h : ∀ a b s, Keeps s (take a b s).state)
    (hf : twoFields w1 w2 take body = some f) : Keeps s (f s).state := by
  unfold twoFields at hf
  split at hf <;> cases hf
  exact h _ _ s

theorem threeFields_keeps {w1 w2 w3 : Nat} {take : Nat → Nat → Nat → State → Taken}
    (h : ∀ a b c s, Keeps s (take a b c s).state) (hf : threeFields w1 w2 w3 take body = some f) : Keeps s (f s).state := by
  unfold threeFields at hf
  split at hf <;> cases hf
  exact h _ _ _ s

theorem fourFields_keeps {w1 w2 w3 w4 : Nat} {take : Nat → Nat → Nat → Nat → State → Taken}
    (h : ∀ a b c d s, Keeps s (take a b c d s).state) (hf : fourFields w1 w2 w3 w4 take body = some f) :
    Keeps s (f s).state := by
  unfold fourFields at hf
  split at hf <;> cases hf
  exact h _ _ _ _ s

theorem fiveFields_keeps {w1 w2 w3 w4 w5 : Nat} {take : Nat → Nat → Nat → Nat → Nat → State → Taken}
    (h : ∀ a b c d e s, Keeps s (take a b c d e s).state) (hf : fiveFields w1 w2 w3 w4 w5 take body = some f) :
    Keeps s (f s).state := by
  unfold fiveFields at hf
  split at hf <;> cases hf
  exact h _ _ _ _ _ s

/-- Every request kind's block, with the body read (R169). -/
theorem bodyOf_keeps {l : Link} {k : Kind} (hf : bodyOf l k body = some f) : Keeps s (f s).state := by
  cases k with
  | status => exact noBody_keeps (takeStatus_keeps l) hf
  | noticeAck => exact twoFields_keeps (takeNoticeAck_keeps l) hf
  | patronSet => exact fiveFields_keeps takePatronSet_keeps hf
  | patronPause => exact twoFields_keeps takePatronPause_keeps hf
  | patronResume => exact oneField_keeps takePatronResume_keeps hf
  | patronClose => exact oneField_keeps takePatronClose_keeps hf
  | patronRead => exact oneField_keeps takePatronRead_keeps hf
  | wishAdd => exact fourFields_keeps takeWishAdd_keeps hf
  | wishDrop => exact threeFields_keeps takeWishDrop_keeps hf
  | wishMove => exact fiveFields_keeps takeWishMove_keeps hf
  | wishRead => exact oneField_keeps takeWishRead_keeps hf
  | titleSet =>
    obtain ⟨r, -, rfl⟩ := Option.map_eq_some_iff.1 hf
    exact takeTitleSet_keeps _ _ _ s
  | titleWithdraw => exact oneField_keeps takeTitleWithdraw_keeps hf
  | copysetAdd => exact oneField_keeps takeCopysetAdd_keeps hf
  | loanRead =>
    obtain ⟨sel, -, rfl⟩ := Option.map_eq_some_iff.1 hf
    exact takeLoanRead_keeps sel s
  | renew => exact oneField_keeps takeRenew_keeps hf
  | orderCancel => exact threeFields_keeps takeOrderCancel_keeps hf
  | newDay => exact oneField_keeps takeNewDay_keeps hf
  | serviceSet => exact twoFields_keeps takeServiceSet_keeps hf
  | storeClear => exact noBody_keeps takeStoreClear_keeps hf
  | cartEnrol => exact twoFields_keeps takeCartEnrol_keeps hf
  | cartForget => exact oneField_keeps takeCartForget_keeps hf
  | poolSet => exact threeFields_keeps takePoolSet_keeps hf
  | bayOnline => exact oneField_keeps takeBayOnline_keeps hf
  | bayOffline => exact oneField_keeps takeBayOffline_keeps hf
  | bayRestore => exact oneField_keeps takeBayRestore_keeps hf
  | dupRestart => exact noBody_keeps takeDupRestart_keeps hf
  | work => exact oneField_keeps takeWork_keeps hf
  | writeDone => exact threeFields_keeps takeWriteDone_keeps hf
  | wipeDone => exact threeFields_keeps takeWipeDone_keeps hf
  | bayFault => exact oneField_keeps takeBayFault_keeps hf
  | bayRead => exact oneField_keeps takeBayRead_keeps hf
  | nextPull => exact noBody_keeps takeNextPull_keeps hf
  | pulled => exact oneField_keeps takePulled_keeps hf
  | notFound => exact oneField_keeps takeNotFound_keeps hf
  | setFound => exact oneField_keeps takeSetFound_keeps hf
  | nextParcel => exact noBody_keeps takeNextParcel_keeps hf
  | packed => exact oneField_keeps takePacked_keeps hf
  | unpack => exact oneField_keeps takeUnpack_keeps hf
  | cartIn => exact oneField_keeps takeCartIn_keeps hf
  | volIn => exact twoFields_keeps takeVolIn_keeps hf
  | copysetRead => exact oneField_keeps takeCopysetRead_keeps hf

end

theorem deliver_keeps (l : Link) (f : RxFrame) (s : State) : Keeps s (deliver l f s).state := by
  unfold deliver
  split
  · exact .refl s
  · split
    · split
      · exact .refl s
      · rename_i hf
        exact bodyOf_keeps hf
    · exact .refl s

theorem answerRequest_keeps (l : Link) (f : RxFrame) (s0 s : State) : Keeps s (answerRequest l f s0 s) :=
  (deliver_keeps l f s).trans ((onPort_keeps l _ _).trans (endEvent_keeps s0 _))

theorem goodFrame_keeps (l : Link) (f : RxFrame) (s : State) : Keeps s (goodFrame l f s) :=
  .ite (onPort_keeps l _ s)
    (.ite ((onPort_keeps l _ s).trans (onPort_keeps l _ _)) ((onPort_keeps l _ s).trans (answerRequest_keeps l f s _)))

theorem takeWaiting_keeps (l : Link) (s : State) : Keeps s (takeWaiting l s) := by
  unfold takeWaiting
  split
  · exact (onPort_keeps l _ s).trans (answerRequest_keeps l _ s _)
  · exact .refl s

theorem judge_keeps (l : Link) (bs : List Byte) (s : State) : Keeps s (judge l bs s) := by
  unfold judge
  split
  · exact (onPort_keeps l _ s).trans (goodFrame_keeps l _ _)
  · exact onPort_keeps l _ s

theorem rxChar_keeps (l : Link) (c : RxChar) (s : State) : Keeps s (rxChar l c s) := by
  unfold rxChar
  split
  · exact onPort_keeps l _ s
  · exact .refl s
  · exact .ite (onPort_keeps l _ s) (onPort_keeps l _ s)
  · exact onPort_keeps l _ s
  · exact .ite (onPort_keeps l _ s) (.ite (onPort_keeps l _ s) (.ite (judge_keeps l _ s) (onPort_keeps l _ s)))
  · exact onPort_keeps l _ s

theorem receiveRun_keeps (l : Link) (cs : List RxChar) (s : State) : Keeps s (receiveRun l cs s) :=
  Keeps.foldl (fun u c => rxChar_keeps l c u) cs s

theorem rxIdle_keeps (l : Link) (s : State) : Keeps s (rxIdle l s) := by
  unfold rxIdle
  split
  · exact onPort_keeps l _ s
  · exact .refl s
  · exact onPort_keeps l _ s

theorem request_keeps (l : Link) (f : RxFrame) (s : State) : Keeps s (request l f s) :=
  .ite (.refl s) (.ite (.ite ((onPort_keeps l _ s).trans (goodFrame_keeps l f _)) (onPort_keeps l _ s))
    (receiveRun_keeps l _ s))

/-! ### Commands and steps -/

theorem ownEvent_keeps {f : State → State} (h : ∀ s, Keeps s (f s)) (s : State) : Keeps s (ownEvent f s) :=
  .ite (.refl s) ((h s).trans (endEvent_keeps s _))

/-- A command that is a frame of its own is that frame received (R169). -/
theorem exec_request {c : Instr} {l : Link} {f : RxFrame} (h : c.frame = some (l, f)) (s : State) :
    exec c s = .next (request l f s) := by
  cases c <;> cases h <;> rfl

/-- Every command goes on to a state that keeps the queue, the tables and the ranges. -/
theorem exec_keeps (c : Instr) (s : State) : ∃ t, exec c s = .next t ∧ Keeps s t := by
  cases hf : c.frame with
  | some lf => exact ⟨_, exec_request hf s, request_keeps _ _ s⟩
  | none =>
    cases c with
    | busy l kind tag body => exact ⟨_, rfl, request_keeps _ _ s⟩
    | receiveError l chars => exact ⟨_, rfl, .ite (.refl s) (receiveRun_keeps l chars s)⟩
    | frameSent l => exact ⟨_, rfl, .ite (.refl s) (onPort_keeps l _ s)⟩
    | linkRestart l => exact ⟨_, rfl, .ite (.refl s) (onPort_keeps l _ s)⟩
    | restartLine => exact ⟨_, rfl, {}⟩
    | startUpScan => exact ⟨_, rfl, .ite (runScan_keeps s) (.refl s)⟩
    | minuteEvent => exact ⟨_, rfl, ownEvent_keeps minuteTick_keeps s⟩
    | deadlineExpiry n => exact ⟨_, rfl, ownEvent_keeps (expireDeadline_keeps n) s⟩
    | restExpiry n => exact ⟨_, rfl, ownEvent_keeps (expireRest_keeps n) s⟩
    | selectionPass =>
      exact ⟨_, rfl, .ite (.refl s) (((takePass_keeps s).trans (endEvent_keeps s _)).trans (takeWaiting_keeps .order _))⟩
    | copySetOffer => exact ⟨_, rfl, ownEvent_keeps workOffer_keeps s⟩
    | starvedClaim k =>
      exact ⟨_, rfl, ownEvent_keeps (fun u => (claimStarved_keeps k u).trans (releaseLists_keeps u _)) s⟩
    | parcelBacklogServe => exact ⟨_, rfl, ownEvent_keeps serveBacklog_keeps s⟩
    | frameSeparatingIdle l => exact ⟨_, rfl, .ite (.refl s) (rxIdle_keeps l s)⟩
    | _ => cases hf

/-- Every step keeps the tables and the ranges; it takes the front command off the queue. -/
theorem step_keeps {s t : State} (h : step s = .next t) : ∃ rest, Keeps { s with pending := rest } t := by
  unfold step at h
  split at h
  · cases h
    exact ⟨s.pending, ownEvent_keeps startPass_keeps s⟩
  · rename_i c rest _
    obtain ⟨u, hu, hk⟩ := exec_keeps c { s with pending := rest }
    rw [hu] at h
    cases h
    exact ⟨rest, hk⟩

end Sys2Proof.Machine
end

section
/-! The invariants of every step, and the commands' going on. -/

namespace Sys2Proof.Machine

-- One declaration at a time: the check's memory does not hold many side by side.
set_option Elab.async false

/-- Settles O58: every operation keeps the ranges, and so every step does. -/
theorem rangesKept : Obligations.RangesKept := by
  intro s t hs h
  obtain ⟨rest, hk⟩ := step_keeps h
  exact hk.ranges hs

/-- Settles O59: every operation keeps the canonical form of each table, and so every step does. -/
theorem tablesWfKept : Obligations.TablesWfKept := by
  intro s t hs h
  obtain ⟨rest, hk⟩ := step_keeps h
  exact hk.tablesWf hs

/-- Settles O2: each command has a next state, and no operation touches the queue. -/
theorem everyCommandGoesOn : Obligations.EveryCommandGoesOn := by
  intro c s
  obtain ⟨t, ht, hk⟩ := exec_keeps c s
  exact ⟨t, ht, hk.pending⟩

end Sys2Proof.Machine
end

section
/-! SUPPORT. The restart line. -/

namespace Sys2Proof.Machine

-- One declaration at a time: the check's memory does not hold many side by side.
set_option Elab.async false

/-! ### The restart line -/

theorem request_asserted {s : State} (h : s.restartAsserted = true) (l : Link) (f : RxFrame) : request l f s = s := by
  simp [request, h]

theorem ownEvent_asserted {s : State} (h : s.restartAsserted = true) (f : State → State) : ownEvent f s = s := by
  simp [ownEvent, h]

/-- Under the restart line every command but the line's own two leaves the part as it is (R175). -/
theorem exec_asserted {s : State} (h : s.restartAsserted = true) {c : Instr} (hr : c ≠ .restartLine)
    (hs : c ≠ .startUpScan) : exec c s = .next s := by
  cases hf : c.frame with
  | some lf => rw [exec_request hf, request_asserted h]
  | none =>
    cases c with
    | busy l kind tag body => exact congrArg _ (request_asserted h l _)
    | receiveError l chars => simp [exec, execReceiveError, h]
    | frameSent l => simp [exec, execFrameSent, h]
    | linkRestart l => simp [exec, execLinkRestart, h]
    | restartLine => exact absurd rfl hr
    | startUpScan => exact absurd rfl hs
    | minuteEvent => exact congrArg _ (ownEvent_asserted h _)
    | deadlineExpiry n => exact congrArg _ (ownEvent_asserted h _)
    | restExpiry n => exact congrArg _ (ownEvent_asserted h _)
    | selectionPass => simp [exec, execSelectionPass, h]
    | copySetOffer => exact congrArg _ (ownEvent_asserted h _)
    | starvedClaim k => exact congrArg _ (ownEvent_asserted h _)
    | parcelBacklogServe => exact congrArg _ (ownEvent_asserted h _)
    | frameSeparatingIdle l => simp [exec, execFrameSeparatingIdle, h]
    | _ => cases hf

/-- Settles O8: while the restart line is asserted every command but the scan meets its guard. -/
theorem restartLineStopsThePart : Obligations.RestartLineStopsThePart :=
  ⟨fun _ => ⟨Port.started [], rfl, rfl, rfl, rfl, rfl, rfl, rfl⟩, fun _ _ h hr hs => exec_asserted h hr hs⟩

end Sys2Proof.Machine
end

section
/-! SUPPORT. Requests that name no patron, taken on a ready port, and the catalog's and the store's requests. -/

namespace Sys2Proof.Machine

-- One declaration at a time: the check's memory does not hold many side by side.
set_option Elab.async false

/-! ### A request whose body reads -/

/-- A body of a kind the link delivers, which reads as a request that names no patron. -/
structure Reads (l : Link) (k : Kind) (body : List Byte) (take : State → Taken) : Prop where
  length : body.length ≤ Config.maxBody
  role : roleOk l k = true
  reads : bodyOf l k body = some take
  unnamed : patronNamed k body = none

theorem SameConditions.refl (s : State) : SameConditions s s :=
  ⟨rfl, rfl, rfl, rfl, rfl, rfl, rfl, rfl, rfl⟩

section
variable {l : Link} {k : Kind} {body : List Byte} {take : State → Taken} {s s' : State} {tag : Half} {a : Answer}

/-- A request that changes no condition and raises nothing is answered with its block's state. -/
theorem Reads.reply (h : Reads l k body take) (hs : Ready l s)
    (he : take (admitted l tag k.code s) = ⟨{ s' with ports := (admitted l tag k.code s).ports }, a⟩)
    (hq : SameConditions s s') : request l ⟨k.code, tag, body⟩ s = s.reply l tag k a s' :=
  request_quiet hs h.length (fun n hn => by rw [h.unnamed] at hn; cases hn) h.role h.reads he hq

/-- A request that changes nothing is answered with the state as it was. -/
theorem Reads.answers (h : Reads l k body take) (hs : Ready l s)
    (he : take (admitted l tag k.code s) = ⟨admitted l tag k.code s, a⟩) :
    request l ⟨k.code, tag, body⟩ s = s.reply l tag k a s :=
  h.reply hs he (.refl s)

/-- A request that raises kinds is answered, and its notices follow. -/
theorem Reads.after (h : Reads l k body take) (hs : Ready l s) (raised : List (Link × Notice))
    (he : take (admitted l tag k.code s) = ⟨raiseAll raised { s' with ports := (admitted l tag k.code s).ports }, a⟩) :
    request l ⟨k.code, tag, body⟩ s = s.after l tag k a raised s' :=
  request_after raised hs h.length (fun n hn => by rw [h.unnamed] at hn; cases hn) h.role h.reads he

end

theorem oneField_writeFields {w v : Nat} (take : Nat → State → Taken) (h : v < 256 ^ w) :
    oneField w take (writeFields [w] [v]) = some (take v) := by
  rw [oneField, readFields_writeFields _ _ (.cons h .nil)]

theorem twoFields_writeFields {w1 w2 v1 v2 : Nat} (take : Nat → Nat → State → Taken) (h : Fits [w1, w2] [v1, v2]) :
    twoFields w1 w2 take (writeFields [w1, w2] [v1, v2]) = some (take v1 v2) := by
  rw [twoFields, readFields_writeFields _ _ h]

theorem writeFields_short {ws vs : List Nat} (h : ws.length = vs.length) (hw : ws.sum ≤ Config.maxBody) :
    (writeFields ws vs).length ≤ Config.maxBody :=
  (writeFields_length ws vs h).trans_le hw

theorem reads_copysetRead {n : Nat} (h : n < 65536) :
    Reads .returns .copysetRead (writeFields [2] [n]) (takeCopysetRead n) :=
  ⟨writeFields_short rfl (by decide), rfl, oneField_writeFields (w := 2) _ h, rfl⟩

theorem reads_bayRead {n : Nat} (h : n < 256) : Reads .duplication .bayRead (writeFields [1] [n]) (takeBayRead n) :=
  ⟨writeFields_short rfl (by decide), rfl, oneField_writeFields (w := 1) _ h, rfl⟩

theorem reads_titleWithdraw {t : Nat} (h : t < 65536) :
    Reads .order .titleWithdraw (writeFields [2] [t]) (takeTitleWithdraw t) :=
  ⟨writeFields_short rfl (by decide), rfl, oneField_writeFields (w := 2) _ h, rfl⟩

theorem reads_copysetAdd {t : Nat} (h : t < 65536) : Reads .order .copysetAdd (writeFields [2] [t]) (takeCopysetAdd t) :=
  ⟨writeFields_short rfl (by decide), rfl, oneField_writeFields (w := 2) _ h, rfl⟩

theorem reads_serviceSet {i v : Nat} (h : Fits [1, 2] [i, v]) :
    Reads .order .serviceSet (writeFields [1, 2] [i, v]) (takeServiceSet i v) :=
  ⟨writeFields_short rfl (by decide), rfl, twoFields_writeFields _ h, rfl⟩

theorem reads_storeClear : Reads .order .storeClear [] takeStoreClear :=
  ⟨by decide, rfl, rfl, rfl⟩

/-! ### Copy sets and bays read -/

section
variable {s : State} {n : Nat}

theorem takeCopysetRead_some {c : CopySet} (h : s.copySets.get n = some c) :
    takeCopysetRead n s =
      ⟨s, .done, [f2 n, f2 c.title, f2 (volumeCount s c.title), f1 c.state.code] ++ setTieFields s c.state⟩ := by
  simp [takeCopysetRead, h]

theorem takeCopysetRead_none (h : s.copySets.get n = none) : takeCopysetRead n s = refused s .noSuch := by
  simp [takeCopysetRead, h]

theorem takeBayRead_some {b : Bay} (h : s.bay n = some b) :
    takeBayRead n s =
      ⟨s, .done, [f1 b.condition.code, f1 b.activity.code, f1 b.restsToday] ++ conditionFields b.condition
        ++ lastFields b.last ++ [f1 s.standing.code, f2 s.jobQueue.length, f2 (baysIn s 1), f2 (baysIn s 2),
          f2 (baysIn s 3), f2 (baysIn s 4)]⟩ := by
  simp [takeBayRead, h, bayTaken, bayFields, bayCounts]

theorem takeBayRead_none (h : 32 ≤ n) : takeBayRead n s = refused s .noSuch := by
  have hb : s.bay n = none := if_neg (Nat.not_lt.2 h)
  simp [takeBayRead, hb]

end

/-- Settles O25, by whether the record is there. -/
theorem copysetReadAndBayRead : Obligations.CopysetReadAndBayRead := by
  intro tag s n
  refine ⟨fun hr hn => ⟨fun c hc => ?_, fun hc => ?_⟩, fun hr hn => ⟨fun b hb hbay => ?_, fun hb => ?_⟩⟩
  · exact congrArg Host.Outcome.next ((reads_copysetRead hn).answers hr (takeCopysetRead_some hc))
  · exact congrArg Host.Outcome.next ((reads_copysetRead hn).answers hr (takeCopysetRead_none hc))
  · exact congrArg Host.Outcome.next ((reads_bayRead hn).answers hr (takeBayRead_some (bay_some hb hbay)))
  · exact congrArg Host.Outcome.next ((reads_bayRead hn).answers hr (takeBayRead_none hb))

/-! ### Titles withdrawn and copy sets added -/

section
variable {s : State} {t : Nat}

theorem takeTitleWithdraw_none (h : s.titles.get t = none) : takeTitleWithdraw t s = refused s .noSuch := by
  simp [takeTitleWithdraw, h]

theorem takeTitleWithdraw_already {r : Title} (h : s.titles.get t = some r) (hw : r.withdrawn = true) :
    takeTitleWithdraw t s = refused s .already := by
  simp [takeTitleWithdraw, h, hw]

theorem takeTitleWithdraw_done {r : Title} (h : s.titles.get t = some r) (hw : r.withdrawn = false) :
    takeTitleWithdraw t s = ⟨{ s with titles := s.titles.put t { r with withdrawn := true } }, .done, []⟩ := by
  simp [takeTitleWithdraw, h, hw]

/-- COPYSET-ADD's checks in their order (R15). -/
def copysetAddCheck (s : State) (r : Title) : Option OutcomeCode :=
  if r.braille = none then some .noSuch
  else if r.withdrawn then some .withdrawn
  else if Config.maxCopySetsPerTitle ≤ r.copySets.length then some .full
  else if Config.maxCopySets ≤ s.copySets.length then some .storeFull
  else none

theorem takeCopysetAdd_none (h : s.titles.get t = none) : takeCopysetAdd t s = refused s .noSuch := by
  simp [takeCopysetAdd, h]

theorem takeCopysetAdd_refused {r : Title} {o : OutcomeCode} (h : s.titles.get t = some r)
    (ho : copysetAddCheck s r = some o) : takeCopysetAdd t s = refused s o := by
  unfold copysetAddCheck at ho
  simp only [takeCopysetAdd, h, Option.isNone_iff_eq_none]
  split_ifs at ho ⊢ <;> simp_all

/-- The new set stands under its title, AVAILABLE, and is offered where the title has waiters (R15, R45). -/
theorem takeCopysetAdd_done {r : Title} (h : s.titles.get t = some r) (ho : copysetAddCheck s r = none) :
    takeCopysetAdd t s =
      ⟨{ s with
          titles := s.titles.put t { r with copySets := r.copySets ++ [s.copySets.length + 1] }
          copySets := s.copySets.put (s.copySets.length + 1) { title := t, state := .available }
          pendingOffers :=
            if r.waiting = [] ∨ s.copySets.length + 1 ∈ s.pendingOffers then s.pendingOffers
            else s.pendingOffers ++ [s.copySets.length + 1] },
        .done, [f2 (s.copySets.length + 1)]⟩ := by
  unfold copysetAddCheck at ho
  simp only [takeCopysetAdd, h, Option.isNone_iff_eq_none]
  split_ifs at ho with hb hw hc hs
  rw [if_neg hb, if_neg hw, if_neg hc, if_neg hs]
  rw [makeAvailable_eq (c := { title := t, state := .available })
    (t := { r with copySets := r.copySets ++ [s.copySets.length + 1] }) (by simp [nextCopySet]) (by simp [nextCopySet])]
  simp only [nextCopySet, State.putSet, Table.put_put]
  congr

end

/-- Settles O24, by the checks of each request in their order. -/
theorem titleWithdrawAndCopysetAdd : Obligations.TitleWithdrawAndCopysetAdd := by
  refine ⟨fun tag s t hr ht => ⟨fun h => ?_, fun r h hw => ?_, fun r h hw => ?_⟩, fun tag s t hr ht => ?_⟩
  · exact congrArg Host.Outcome.next ((reads_titleWithdraw ht).answers hr (takeTitleWithdraw_none h))
  · exact congrArg Host.Outcome.next ((reads_titleWithdraw ht).answers hr (takeTitleWithdraw_already h hw))
  · exact congrArg Host.Outcome.next ((reads_titleWithdraw ht).reply hr (takeTitleWithdraw_done h hw)
      ⟨rfl, rfl, rfl, rfl, rfl, rfl, rfl, rfl, rfl⟩)
  · have refuses : ∀ {r o}, s.titles.get t = some r → copysetAddCheck s r = some o →
        exec (.copysetAdd .order tag (writeFields [2] [t])) s = .next (s.reply .order tag .copysetAdd ⟨o, []⟩ s) :=
      fun h ho => congrArg Host.Outcome.next ((reads_copysetAdd ht).answers hr (takeCopysetAdd_refused h ho))
    refine ⟨fun h => ?_, fun r h => ⟨fun hb => ?_, fun hb hw => ?_, fun hb hw hc => ?_, fun hb hw hc hs => ?_,
      fun hb hw hc hs => ?_⟩⟩
    · exact congrArg Host.Outcome.next ((reads_copysetAdd ht).answers hr (takeCopysetAdd_none h))
    · exact refuses h (by simp [copysetAddCheck, hb])
    · exact refuses h (by simp [copysetAddCheck, hb, hw])
    · exact refuses h (by simp [copysetAddCheck, hb, hw, Config.maxCopySetsPerTitle, hc])
    · exact refuses h (by simp [copysetAddCheck, hb, hw, Config.maxCopySetsPerTitle, hc, Config.maxCopySets, hs])
    · have hok : copysetAddCheck s r = none := by
        simp [copysetAddCheck, hb, hw, Config.maxCopySetsPerTitle, Nat.not_le.2 hc, Config.maxCopySets, Nat.not_le.2 hs]
      exact congrArg Host.Outcome.next ((reads_copysetAdd ht).reply hr (takeCopysetAdd_done h hok)
        ⟨rfl, rfl, rfl, rfl, rfl, rfl, rfl, rfl, rfl⟩)

/-! ### STORE-CLEAR -/

theorem handlingUnderWay_iff (s : State) :
    handlingUnderWay s = true ↔ (∃ b ∈ s.bays, b.activity ≠ .idle) ∨ (∃ e ∈ s.parcels, e.2.state = .packing)
      ∨ ∃ e ∈ s.tasks, e.2.state = .handed := by
  simp only [handlingUnderWay, Bool.or_eq_true, List.any_eq_true, bne_iff_ne, beq_iff_eq, or_assoc]

/-- Settles O27, by whether work is under way. -/
theorem storeClear : Obligations.StoreClear := by
  intro tag s hr
  refine ⟨fun h => ?_, fun h => ?_⟩
  · have hbusy : handlingUnderWay (admitted .order tag Kind.storeClear.code s) = true := (handlingUnderWay_iff s).2 h
    exact congrArg Host.Outcome.next (reads_storeClear.answers hr (by rw [takeStoreClear, if_pos hbusy]; rfl))
  · have hfree : ¬ handlingUnderWay (admitted .order tag Kind.storeClear.code s) = true := fun hb =>
      h ((handlingUnderWay_iff s).1 hb)
    refine congrArg Host.Outcome.next (reads_storeClear.after hr _ ?_)
    rw [takeStoreClear, if_neg hfree, clearStore]
    simp only [admitted, hr.released]
    rfl

end Sys2Proof.Machine
end

section
/-! SUPPORT. TITLE-SET: its body, its checks and its effect (R12). -/

namespace Sys2Proof.Machine

-- One declaration at a time: the check's memory does not hold many side by side.
set_option Elab.async false

/-! ### The body -/

theorem two_bytes {v : Nat} (h : v < 65536) (rest : List Byte) :
    ∃ a b, leBytes 2 v ++ rest = a :: b :: rest ∧ leValue [a, b] = v :=
  ⟨_, _, rfl, leValue_leBytes 2 v h⟩

theorem parseWeights_bytes {ws : List Nat} (h : ∀ w ∈ ws, w < 65536) :
    parseWeights (ws.flatMap (leBytes 2)) = some ws := by
  induction ws with
  | nil => rfl
  | cons w ws ih =>
    obtain ⟨a, b, hab, hv⟩ := two_bytes (h w (by simp)) (ws.flatMap (leBytes 2))
    rw [List.flatMap_cons, hab, parseWeights, ih fun x hx => h x (by simp [hx]), hv]
    rfl

theorem parseImage_bytes {ia : ImageAction} (h : ∀ size rev, ia = .set size rev → size < 65536 ∧ rev < 256)
    (rest : List Byte) : parseImage (ia.bytes ++ rest) = some (ia, rest) := by
  cases ia with
  | keep => rfl
  | remove => rfl
  | set size rev =>
    obtain ⟨hs, hr⟩ := h size rev rfl
    obtain ⟨a, b, hab, hv⟩ := two_bytes hs (leBytes 1 rev ++ rest)
    have hb : ImageAction.bytes (.set size rev) ++ rest = 1 :: a :: b :: BitVec.ofNat 8 rev :: rest := by
      simpa [ImageAction.bytes, writeFields, leBytes] using hab
    rw [hb]
    simp [parseImage, hv, Nat.mod_eq_of_lt hr]

theorem parseBraille_bytes {ba : BrailleAction}
    (h : ∀ ws, ba = .set ws → 1 ≤ ws.length ∧ ws.length ≤ 40 ∧ ∀ w ∈ ws, w < 65536) :
    parseBraille ba.bytes = some ba := by
  cases ba with
  | keep => rfl
  | remove => rfl
  | set ws =>
    obtain ⟨h1, h40, hw⟩ := h ws rfl
    have hne : ws ≠ [] := by rintro rfl; simp at h1
    simp [BrailleAction.bytes, parseBraille, parseWeights_bytes hw, hne, Config.maxVolumes, Nat.not_lt.2 h40]

theorem parseTitleSet_bytes {t : Nat} {ia : ImageAction} {ba : BrailleAction} (ht : t < 65536)
    (hi : ∀ size rev, ia = .set size rev → size < 65536 ∧ rev < 256)
    (hb : ∀ ws, ba = .set ws → 1 ≤ ws.length ∧ ws.length ≤ 40 ∧ ∀ w ∈ ws, w < 65536) :
    parseTitleSet (leBytes 2 t ++ ia.bytes ++ ba.bytes) = some (t, ia, ba) := by
  obtain ⟨a, b, hab, hv⟩ := two_bytes ht (ia.bytes ++ ba.bytes)
  rw [List.append_assoc, hab, parseTitleSet, parseImage_bytes hi]
  simp [parseBraille_bytes hb, hv]

theorem ImageAction.bytes_length (ia : ImageAction) : ia.bytes.length ≤ 4 := by
  cases ia <;> simp [ImageAction.bytes, writeFields]

theorem BrailleAction.bytes_length {ba : BrailleAction} (h : ∀ ws, ba = .set ws → ws.length ≤ 40) :
    ba.bytes.length ≤ 81 := by
  cases ba with
  | keep => simp [BrailleAction.bytes]
  | remove => simp [BrailleAction.bytes]
  | set ws =>
    have := h ws rfl
    simp [BrailleAction.bytes, List.length_flatMap]
    omega

theorem reads_titleSet {t : Nat} {ia : ImageAction} {ba : BrailleAction} (ht : t < 65536)
    (hi : ∀ size rev, ia = .set size rev → size < 65536 ∧ rev < 256)
    (hb : ∀ ws, ba = .set ws → 1 ≤ ws.length ∧ ws.length ≤ 40 ∧ ∀ w ∈ ws, w < 65536) :
    Reads .order .titleSet (leBytes 2 t ++ ia.bytes ++ ba.bytes) (takeTitleSet t ia ba) where
  length := by
    have h1 := ia.bytes_length
    have h2 := BrailleAction.bytes_length (ba := ba) fun ws hw => (hb ws hw).2.1
    simp only [List.length_append, leBytes_length, Config.maxBody]
    omega
  role := rfl
  reads := by
    show (parseTitleSet _).map _ = _
    rw [parseTitleSet_bytes ht hi hb]
    rfl
  unnamed := rfl

/-! ### The checks and the effect -/

theorem takeTitleSet_refused {s : State} {t : Nat} {ia : ImageAction} {ba : BrailleAction} {o : OutcomeCode}
    (h : titleSetCheck s t ia ba = some o) : takeTitleSet t ia ba s = refused s o := by
  simp [takeTitleSet, h]

theorem jobNames_iff (s : State) (t : Nat) : jobNames s t = true ↔ ∃ e ∈ s.jobs, ∃ x ∈ e.2.titles, x.title = t := by
  simp [jobNames]

theorem jobNames_false_iff (s : State) (t : Nat) : jobNames s t = false ↔ ∀ e ∈ s.jobs, ∀ x ∈ e.2.titles, x.title ≠ t := by
  simp [jobNames]

theorem setAway_iff (s : State) (t : Nat) :
    setAway s t = true ↔ ∃ e ∈ s.copySets, e.2.title = t ∧ e.2.state ≠ .available := by
  simp [setAway]

theorem ImageAction.changes_set (size revision : Nat) (image : Option Image) :
    (ImageAction.set size revision).changes image = decide (image ≠ some ⟨size, revision⟩) :=
  Bool.eq_iff_iff.2 (by simp [ImageAction.changes])

theorem ImageAction.changes_remove (image : Option Image) : ImageAction.remove.changes image = decide (image ≠ none) := by
  cases image <;> rfl

theorem brailleInUse_set (s : State) (t : Nat) (r : Title) (ws : List Nat) :
    brailleInUse s t r (.set ws) = decide (r.braille ≠ some ws ∧ ∃ e ∈ s.copySets, e.2.title = t ∧ e.2.state ≠ .available) :=
  Bool.eq_iff_iff.2 (by simp [brailleInUse, BrailleAction.changes, setAway_iff])

theorem brailleInUse_remove (s : State) (t : Nat) (r : Title) : brailleInUse s t r .remove = decide (r.copySets ≠ []) :=
  Bool.eq_iff_iff.2 (by simp [brailleInUse])

theorem ImageAction.tooLarge_iff (ia : ImageAction) : ia.tooLarge = true ↔ ∃ size rev, ia = .set size rev ∧ 15288 < size := by
  cases ia with
  | keep => simp [ImageAction.tooLarge]
  | set size rev =>
    have h : Config.maxImage = 15288 := rfl
    simp [ImageAction.tooLarge, ← h]
  | remove => simp [ImageAction.tooLarge]

/-- The checks of a number in range and an image not too large (R12 checks 3 and 4). -/
theorem titleSetCheck_inRange {s : State} {t : Nat} {ia : ImageAction} {ba : BrailleAction} (h1 : 1 ≤ t) (h2 : t ≤ 60000)
    (hl : ia.tooLarge = false) :
    titleSetCheck s t ia ba =
      if (ia.changes (titleOrNew s t).image = true ∧ jobNames s t = true) ∨ brailleInUse s t (titleOrNew s t) ba = true then
        some .inUse
      else none := by
  have ht : 1 ≤ t ∧ t ≤ Config.maxTitle := ⟨h1, h2⟩
  simp only [titleSetCheck, ht, hl, if_false, Bool.false_eq_true]
  split_ifs <;> simp_all

theorem ImageAction.apply_set (size revision : Nat) (image : Option Image) :
    (ImageAction.set size revision).apply image = some ⟨max 1 size, max 1 revision⟩ := by
  have h : ∀ n, (if n = 0 then 1 else n) = max 1 n := by intro n; split <;> omega
  simp [ImageAction.apply, h]

theorem clampWeight_eq (w : Nat) : clampWeight w = max 10 (min 300 w) := by
  unfold clampWeight clampTo Config.minWeight Config.maxWeight
  split_ifs <;> omega

/-- No value sent is clamped exactly where each is in its range (R12). -/
theorem titleSet_clamped_iff (ia : ImageAction) (ba : BrailleAction) :
    (ia.clamped || ba.clamped) = false ↔
      (∀ size rev, ia = .set size rev → 1 ≤ size ∧ 1 ≤ rev) ∧ ∀ ws, ba = .set ws → ∀ w ∈ ws, 10 ≤ w ∧ w ≤ 300 := by
  have hi : ia.clamped = false ↔ ∀ size rev, ia = .set size rev → 1 ≤ size ∧ 1 ≤ rev := by
    cases ia <;> simp [ImageAction.clamped, Nat.one_le_iff_ne_zero]
  have hb : ba.clamped = false ↔ ∀ ws, ba = .set ws → ∀ w ∈ ws, 10 ≤ w ∧ w ≤ 300 := by
    have hw : ∀ w, clampWeight w = w ↔ 10 ≤ w ∧ w ≤ 300 := fun w => by
      rw [clampWeight_eq]
      omega
    cases ba <;> simp [BrailleAction.clamped, hw]
  rw [Bool.or_eq_false_iff, hi, hb]

/-- Settles O23, by the checks in their order; each action's outcome is a lemma of its own. -/
theorem titleSet : Obligations.TitleSet := by
  intro tag s t ia ba hr ht hi hb r imageChanges formRefused image braille asSent set inRange
  have hreads := reads_titleSet ht hi hb
  have refuses : ∀ o, titleSetCheck s t ia ba = some o → set = .next (s.reply .order tag .titleSet ⟨o, []⟩ s) := fun o ho =>
    congrArg Host.Outcome.next (hreads.answers hr (takeTitleSet_refused ho))
  have himageChanges : ia.changes r.image = imageChanges := by
    cases ia with
    | keep => rfl
    | set size rev => exact ImageAction.changes_set _ _ _
    | remove => exact ImageAction.changes_remove _
  have hformRefused : brailleInUse s t r ba = formRefused := by
    cases ba with
    | keep => rfl
    | set ws => exact brailleInUse_set _ _ _ _
    | remove => exact brailleInUse_remove _ _ _
  have himage : ia.apply r.image = image := by
    cases ia with
    | keep => rfl
    | set size rev => exact ImageAction.apply_set _ _ _
    | remove => rfl
  have hbraille : ba.apply r.braille = braille := by
    cases ba with
    | keep => rfl
    | set ws => exact congrArg some (List.map_congr_left fun w _ => clampWeight_eq w)
    | remove => rfl
  have hcheck : inRange → titleSetCheck s t ia ba =
      if (imageChanges = true ∧ jobNames s t = true) ∨ formRefused = true then some .inUse else none := by
    rintro ⟨h1, h2, hsize⟩
    have hl : ia.tooLarge = false := by
      rw [Bool.eq_false_iff, ne_eq, ImageAction.tooLarge_iff]
      rintro ⟨size, rev, he, hlt⟩
      exact absurd (hsize size rev he) (Nat.not_le.2 hlt)
    rw [titleSetCheck_inRange h1 h2 hl, ← himageChanges, ← hformRefused]
    rfl
  have hfree : (imageChanges = false ∨ ∀ e ∈ s.jobs, ∀ x ∈ e.2.titles, x.title ≠ t) →
      ¬ (imageChanges = true ∧ jobNames s t = true) := by
    rw [← jobNames_false_iff]
    rintro (h | h) <;> simp [h]
  refine ⟨fun h => refuses _ ?_, fun size rev h1 h2 he hlt => refuses _ ?_, fun h hc hj => refuses _ ?_,
    fun h hc hf => refuses _ ?_, fun h hc hf => ?_⟩
  · rw [titleSetCheck, if_pos (by simp only [Config.maxTitle]; omega)]
  · have hl : ia.tooLarge = true := (ImageAction.tooLarge_iff _).2 ⟨size, rev, he, hlt⟩
    rw [titleSetCheck, if_neg (by simp only [Config.maxTitle]; omega), if_pos hl]
  · rw [hcheck h, if_pos (.inl ⟨hc, (jobNames_iff s t).2 hj⟩)]
  · rw [hcheck h, if_pos (.inr hf)]
  · have hnone : titleSetCheck s t ia ba = none := by
      rw [hcheck h, if_neg (by rintro (hn | hn); exacts [hfree hc hn, by simp [hf] at hn])]
    refine ⟨doneOr (ia.clamped || ba.clamped), fun ha => ?_, fun ha => ?_, ?_⟩
    · rw [(titleSet_clamped_iff ia ba).2 ha]
      rfl
    · rw [Bool.eq_true_of_not_eq_false (mt (titleSet_clamped_iff ia ba).1 ha)]
      rfl
    · rw [← himage, ← hbraille]
      refine congrArg Host.Outcome.next (hreads.reply hr ?_ ⟨rfl, rfl, rfl, rfl, rfl, rfl, rfl, rfl, rfl⟩)
      have hnone' : titleSetCheck (admitted .order tag Kind.titleSet.code s) t ia ba = none := hnone
      rw [takeTitleSet, hnone']
      rfl

end Sys2Proof.Machine
end

section
/-! SUPPORT. Further laws of the record tables: tables in canonical form told apart by reading them, and what `select` and
`mapAll` give. -/

namespace Sys2Proof.Machine

-- One declaration at a time: the check's memory does not hold many side by side.
set_option Elab.async false

variable {α : Type}

/-- The first record of a table in canonical form has the least number. -/
theorem Table.get_lt_first {k : Nat} {v : α} {t : Table α} (h : Table.wf ((k, v) :: t) = true) {n : Nat} (hn : n ≤ k) :
    t.get n = none := by
  rw [Table.wf_iff, List.pairwise_cons] at h
  rw [Table.get_eq_none_iff, Table.numbers, List.mem_map]
  rintro ⟨e, he, rfl⟩
  exact absurd (h.1 e he) (Nat.not_lt.2 hn)

/-- Tables in canonical form that read alike are one table. -/
theorem Table.ext_get {t u : Table α} (ht : t.wf = true) (hu : u.wf = true) (h : ∀ n, t.get n = u.get n) : t = u := by
  induction t generalizing u with
  | nil =>
    cases u with
    | nil => rfl
    | cons e u => simpa [Table.get_cons] using h e.1
  | cons e t ih =>
    obtain ⟨k, v⟩ := e
    cases u with
    | nil => simpa [Table.get_cons] using h k
    | cons e' u =>
      obtain ⟨k', v'⟩ := e'
      have hk : k = k' := by
        by_contra hne
        rcases Nat.lt_or_gt_of_ne hne with hlt | hlt
        · have := h k
          simp [Table.get_cons, hne, Table.get_lt_first hu hlt.le] at this
        · have := h k'
          simp [Table.get_cons, Ne.symm hne, Table.get_lt_first ht hlt.le] at this
      subst hk
      have hv : v = v' := by simpa [Table.get_cons] using h k
      subst hv
      have hwf : ∀ {t : Table α}, Table.wf ((k, v) :: t) = true → t.wf = true := fun h => by
        rw [Table.wf_iff, List.pairwise_cons] at h
        exact (Table.wf_iff _).2 h.2
      rw [ih (hwf ht) (hwf hu) fun n => ?_]
      by_cases hn : n = k
      · rw [hn, Table.get_lt_first ht le_rfl, Table.get_lt_first hu le_rfl]
      · simpa [Table.get_cons, hn] using h n

theorem Table.mapAll_congr {t : Table α} {f g : Nat → α → α} (h : ∀ e ∈ t, f e.1 e.2 = g e.1 e.2) : t.mapAll f = t.mapAll g :=
  List.map_congr_left fun e he => by rw [h e he]

theorem Table.mapAll_id {t : Table α} {f : Nat → α → α} (h : ∀ e ∈ t, f e.1 e.2 = e.2) : t.mapAll f = t := by
  rw [Table.mapAll_congr (g := fun _ v => v) h]
  exact List.map_id' t

theorem Table.mapAll_mapAll (t : Table α) (f g : Nat → α → α) :
    (t.mapAll f).mapAll g = t.mapAll (fun n v => g n (f n v)) := by
  simp [Table.mapAll, Function.comp_def]

/-- A change of one live record, as a write. -/
theorem Table.mapAll_one {t : Table α} {n : Nat} {v : α} (h : t.wf = true) (hv : t.get n = some v) (f : α → α) :
    t.mapAll (fun m x => if m = n then f x else x) = t.put n (f v) := by
  refine Table.ext_get (Table.wf_mapAll h _) (Table.wf_put h n _) fun m => ?_
  rw [Table.get_put, Table.get_mapAll]
  split
  · subst_vars
    simp [hv]
  · simp

theorem Table.put_self {t : Table α} {n : Nat} {v : α} (h : t.wf = true) (hv : t.get n = some v) : t.put n v = t :=
  (Table.mapAll_one h hv id).symm.trans (Table.mapAll_id fun e _ => by simp)

theorem Table.mem_select {t : Table α} (h : t.wf = true) {p : Nat → α → Bool} {n : Nat} :
    n ∈ t.select p ↔ ∃ v, t.get n = some v ∧ p n v = true := by
  simp only [Table.select, List.mem_map, List.mem_filter]
  constructor
  · rintro ⟨e, ⟨he, hp⟩, rfl⟩
    exact ⟨e.2, Table.get_of_mem h he, hp⟩
  · rintro ⟨v, hv, hp⟩
    exact ⟨(n, v), ⟨Table.mem_of_get hv, hp⟩, rfl⟩

theorem Table.select_nodup {t : Table α} (h : t.wf = true) (p : Nat → α → Bool) : (t.select p).Nodup := by
  rw [Table.wf_iff] at h
  exact List.pairwise_map.2 ((h.filter _).imp fun hlt => Nat.ne_of_lt hlt)

/-- A selection narrowed by a test of the records read is the selection by both tests. -/
theorem Table.filter_select {t : Table α} (h : t.wf = true) (p : Nat → α → Bool) (q : Nat → Bool) (r : Nat → α → Bool)
    (hr : ∀ n v, t.get n = some v → (p n v && q n) = r n v) : (t.select p).filter q = t.select r := by
  rw [Table.select, List.filter_map, List.filter_filter]
  refine congrArg (List.map Prod.fst) (List.filter_congr fun e he => ?_)
  rw [← hr e.1 e.2 (Table.get_of_mem h he), Bool.and_comm]
  rfl

end Sys2Proof.Machine
end

section
/-! SUPPORT. SERVICE-SET: the settings brought into their ranges, and the checks of a new suspend-after (R17, R18). -/

namespace Sys2Proof.Machine

-- One declaration at a time: the check's memory does not hold many side by side.
set_option Elab.async false

/-! ### Suspension checks of several patrons -/

/-- A kind raised twice is raised once (R171). -/
theorem raise_raise (l : Link) (n : Notice) (s : State) : raise l n (raise l n s) = raise l n s := by
  have h : ∀ set, addNotice (addNotice set n) n = addNotice set n := fun set =>
    if_pos ((mem_addNotice set n n).2 (.inl rfl))
  simp [raise, State.onPort, h]

theorem raiseIf_raiseIf (a b : Bool) (l : Link) (n : Notice) (s : State) :
    raiseIf a l n (raiseIf b l n s) = raiseIf (b || a) l n s := by
  cases a <;> cases b <;> simp [raiseIf, raise_raise]

theorem raiseIf_with (b : Bool) (l : Link) (n : Notice) (s : State) (ps : Table Patron) (q : List Nat) :
    { raiseIf b l n s with patrons := ps, passQueue := q } = raiseIf b l n { s with patrons := ps, passQueue := q } := by
  cases b <;> rfl

@[simp] theorem raiseIf_patrons (b : Bool) (l : Link) (n : Notice) (s : State) : (raiseIf b l n s).patrons = s.patrons := by
  cases b <;> rfl

@[simp] theorem raiseIf_passQueue (b : Bool) (l : Link) (n : Notice) (s : State) :
    (raiseIf b l n s).passQueue = s.passQueue := by
  cases b <;> rfl

@[simp] theorem suspensionHolds_raiseIf (b : Bool) (l : Link) (n : Notice) (s : State) (m : Nat) :
    suspensionHolds (raiseIf b l n s) m = suspensionHolds s m := by
  cases b <;> rfl

/-- Whether a patron is ACTIVE with the suspension condition, and so is suspended by a check (R27). -/
def checkSuspends (s : State) (n : Nat) : Bool :=
  match s.patrons.get n with
  | some p => p.state == .active && suspensionHolds s n
  | none => false

/-- Whether a patron is SUSPENDED without the suspension condition, and so is ACTIVE again after a check (R28). -/
def checkRestores (s : State) (n : Nat) : Bool :=
  match s.patrons.get n with
  | some p => p.state == .suspended && !suspensionHolds s n
  | none => false

/-- A patron record after a suspension check (R142). -/
def Patron.checked (late : Bool) (p : Patron) : Patron :=
  { p with state := p.state.checked late }

/-- The patrons of a list checked: the records, the pass queue and the notice (R27, R28, R142). -/
def checkedAll (ns : List Nat) (s : State) : State :=
  raiseIf (ns.any (checkSuspends s)) .order .patronSuspended
    { s with
      patrons := s.patrons.mapAll (fun m p => if m ∈ ns then p.checked (suspensionHolds s m) else p)
      passQueue := (ns.filter (checkRestores s)).foldl appendNew s.passQueue }

/-- A patron neither suspended nor restored by a check is left as it was. -/
theorem Patron.checked_self {p : Patron} {late : Bool} (ha : ¬ (p.state = .active ∧ late = true))
    (hs : ¬ (p.state = .suspended ∧ ¬ late = true)) : p.checked late = p := by
  obtain ⟨st, _, _, _, _, _, _⟩ := p
  cases st <;> cases late <;> simp_all [Patron.checked, PatronState.checked]

theorem suspensionCheck_eq {s : State} (h : s.patrons.wf = true) (n : Nat) : suspensionCheck n s = checkedAll [n] s := by
  simp only [suspensionCheck, checkedAll, List.mem_singleton, List.any_cons, List.any_nil, Bool.or_false, List.filter_cons,
    List.filter_nil]
  cases hp : s.patrons.get n with
  | none =>
    have hid : s.patrons.mapAll (fun m p => if m = n then p.checked (suspensionHolds s m) else p) = s.patrons :=
      Table.mapAll_id fun e he => if_neg fun hn => by
        have := Table.get_of_mem h he
        rw [hn, hp] at this
        cases this
    simp [checkSuspends, checkRestores, hp, hid]
  | some p =>
    have hmap : s.patrons.mapAll (fun m x => if m = n then x.checked (suspensionHolds s m) else x) =
        s.patrons.put n (p.checked (suspensionHolds s n)) := by
      rw [← Table.mapAll_one h hp]
      exact Table.mapAll_congr fun e _ => by split <;> simp_all
    rw [hmap]
    dsimp only
    split
    · rename_i ha
      simp [checkSuspends, checkRestores, hp, ha.1, ha.2, Patron.checked, PatronState.checked, raiseIf, State.putPatron]
    · rename_i ha
      split
      · rename_i hs
        simp [checkSuspends, checkRestores, hp, hs.1, hs.2, Patron.checked, PatronState.checked, appendPass, State.putPatron]
      · rename_i hs
        rw [Patron.checked_self ha hs, Table.put_self h hp]
        have h1 : checkSuspends s n = false := by simpa [checkSuspends, hp] using ha
        have h2 : checkRestores s n = false := by simpa [checkRestores, hp] using hs
        simp [h1, h2]

/-- What a check reads of the patrons not yet checked is unchanged by the checks before it. -/
theorem checkedAll_reads (n : Nat) (s : State) :
    (∀ m, suspensionHolds (checkedAll [n] s) m = suspensionHolds s m)
    ∧ ∀ m, m ≠ n → (checkedAll [n] s).patrons.get m = s.patrons.get m := by
  refine ⟨fun m => ?_, fun m hm => ?_⟩
  · rw [checkedAll, suspensionHolds_raiseIf]
    rfl
  · simp [checkedAll, hm]

/-- Checks of several patrons, one after another, are one change of their records (R18). -/
theorem foldl_suspensionCheck {ns : List Nat} (hn : ns.Nodup) {s : State} (h : s.patrons.wf = true) :
    ns.foldl (fun acc n => suspensionCheck n acc) s = checkedAll ns s := by
  induction ns generalizing s with
  | nil =>
    have hid : s.patrons.mapAll (fun _ p => p) = s.patrons := Table.mapAll_id fun _ _ => rfl
    simp [checkedAll, hid]
  | cons n ns ih =>
    obtain ⟨hnot, hn⟩ := List.nodup_cons.1 hn
    obtain ⟨hlate, hget⟩ := checkedAll_reads n s
    have hwf : (checkedAll [n] s).patrons.wf = true := by
      rw [← suspensionCheck_eq h]
      exact (suspensionCheck_keeps n s).patrons h
    have hne : ∀ m ∈ ns, m ≠ n := fun m hm he => hnot (he ▸ hm)
    have hany : ns.any (checkSuspends (checkedAll [n] s)) = ns.any (checkSuspends s) := by
      rw [Bool.eq_iff_iff, List.any_eq_true, List.any_eq_true]
      exact exists_congr fun m => and_congr_right fun hm => by simp only [checkSuspends, hget m (hne m hm), hlate]
    have hfilter : ns.filter (checkRestores (checkedAll [n] s)) = ns.filter (checkRestores s) :=
      List.filter_congr fun m hm => by simp only [checkRestores, hget m (hne m hm), hlate]
    have hrecords : (checkedAll [n] s).patrons.mapAll (fun m p => if m ∈ ns then p.checked (suspensionHolds s m) else p) =
        s.patrons.mapAll (fun m p => if m ∈ n :: ns then p.checked (suspensionHolds s m) else p) := by
      rw [checkedAll, raiseIf_patrons, Table.mapAll_mapAll]
      refine Table.mapAll_congr fun e _ => ?_
      by_cases he : e.1 = n
      · simp [he, hnot]
      · simp [he]
    have hqueue : (ns.filter (checkRestores s)).foldl appendNew (checkedAll [n] s).passQueue =
        ((n :: ns).filter (checkRestores s)).foldl appendNew s.passQueue := by
      rw [checkedAll, raiseIf_passQueue, ← List.foldl_append, ← List.filter_append]
      rfl
    rw [List.foldl_cons, suspensionCheck_eq h, ih hn hwf, checkedAll, hany, hfilter, hqueue]
    simp only [hlate, hrecords]
    rw [checkedAll, raiseIf_with, raiseIf_raiseIf, checkedAll]
    simp

/-! ### SERVICE-SET -/

theorem clampTo_eq {lo hi : Nat} (h : lo ≤ hi) (v : Nat) : clampTo lo hi v = max lo (min hi v) := by
  unfold clampTo
  split_ifs <;> omega

theorem doneOr_bne (v w : Nat) : doneOr (w != v) = if w = v then .done else .clamped := by
  by_cases h : w = v <;> simp [doneOr, h]

theorem takeServiceSet_none {s : State} {i v : Nat} (h : settingValue s.settings i v = none) :
    takeServiceSet i v s = refused s .noSuch := by
  simp [takeServiceSet, h]

theorem takeServiceSet_some {s : State} {i v w : Nat} (h : settingValue s.settings i v = some w) (hi : i ≠ 4) :
    takeServiceSet i v s =
      ⟨{ s with settings := s.settings.write i w }, if w = v then .done else .clamped,
        settingsFields (s.settings.write i w)⟩ := by
  simp [takeServiceSet, h, hi, doneOr_bne]

/-- A patron with the suspension condition has an OVERDUE loan. -/
theorem hasOverdue_of_suspensionHolds {s : State} {n : Nat} (h : suspensionHolds s n = true) : hasOverdue s n = true := by
  simp only [suspensionHolds, hasOverdue, List.any_eq_true, Bool.and_eq_true] at h ⊢
  obtain ⟨e, he, hn, hl⟩ := h
  refine ⟨e, he, hn, ?_⟩
  unfold Loan.suspends at hl
  split at hl
  · simp [*]
  · cases hl

/-- The checks of a new suspend-after, over every patron: those that have no OVERDUE loan and are not SUSPENDED are left as they
were by a check (R18). -/
theorem suspendAfterChecks_eq {s : State} (h : s.patrons.wf = true) :
    suspendAfterChecks s =
      raiseIf (s.patrons.any (fun e => e.2.state == .active && suspensionHolds s e.1)) .order .patronSuspended
        { s with
          patrons := s.patrons.mapAll (fun n p => p.checked (suspensionHolds s n))
          passQueue := (s.patrons.select (fun n p => p.state == .suspended && !suspensionHolds s n)).foldl appendNew
            s.passQueue } := by
  have hmem := @Table.mem_select _ s.patrons h (fun n p => hasOverdue s n || p.state == .suspended)
  rw [suspendAfterChecks, foldl_suspensionCheck (Table.select_nodup h _) h, checkedAll]
  congr 1
  · rw [Bool.eq_iff_iff, List.any_eq_true, List.any_eq_true]
    constructor
    · rintro ⟨n, hn, hs⟩
      obtain ⟨p, hp, -⟩ := hmem.1 hn
      exact ⟨(n, p), Table.mem_of_get hp, by simpa [checkSuspends, hp] using hs⟩
    · rintro ⟨e, he, hs⟩
      have hp := Table.get_of_mem h he
      refine ⟨e.1, hmem.2 ⟨e.2, hp, ?_⟩, by simpa [checkSuspends, hp] using hs⟩
      simp only [Bool.and_eq_true] at hs
      simp [hasOverdue_of_suspensionHolds hs.2]
  · congr 1
    · refine Table.mapAll_congr fun e he => ?_
      split
      · rfl
      · rename_i hn
        have hp := Table.get_of_mem h he
        have hout : ¬ (hasOverdue s e.1 || e.2.state == .suspended) = true := fun hs => hn (hmem.2 ⟨e.2, hp, hs⟩)
        simp only [Bool.or_eq_true, beq_iff_eq, not_or] at hout
        exact (Patron.checked_self (fun ha => hout.1 (hasOverdue_of_suspensionHolds ha.2)) fun hs => hout.2 hs.1).symm
    · congr 1
      refine Table.filter_select h _ _ _ fun n p hp => ?_
      simp only [checkRestores, hp]
      cases hs : p.state == .suspended <;> simp

theorem settingValue_suspendAfter (g : Settings) (h : 2 ≤ g.lostAfter) (v : Nat) :
    settingValue g 4 v = some (max 1 (min (min 120 (g.lostAfter - 1)) v)) := by
  rw [settingValue, clampTo_eq (by decide)]
  exact congrArg some (by omega)

theorem settingValue_lostAfter (g : Settings) (h : g.suspendAfter ≤ 254) (v : Nat) :
    settingValue g 5 v = some (max (g.suspendAfter + 1) (min 255 v)) :=
  congrArg some (by omega)

theorem settingValue_none {g : Settings} {i v : Nat} (h : i = 0 ∨ 11 < i) : settingValue g i v = none := by
  rw [settingValue] <;> omega

/-- A patron record after a check, by its two changes (R27, R28). -/
theorem Patron.checked_eq (late : Bool) (p : Patron) :
    p.checked late =
      if p.state = .active ∧ late = true then { p with state := .suspended }
      else if p.state = .suspended ∧ late = false then { p with state := .active }
      else p := by
  obtain ⟨st, _, _, _, _, _, _⟩ := p
  cases st <;> cases late <;> rfl

theorem takeServiceSet_suspendAfter {s : State} {v w : Nat} (hp : s.patrons.wf = true)
    (h : settingValue s.settings 4 v = some w) :
    let s' := { s with settings := { s.settings with suspendAfter := w } }
    takeServiceSet 4 v s =
      ⟨raiseIf (s.patrons.any (fun e => e.2.state == .active && suspensionHolds s' e.1)) .order .patronSuspended
        { s' with
          patrons := s.patrons.mapAll (fun n p => p.checked (suspensionHolds s' n))
          passQueue := (s.patrons.select (fun n p => p.state == .suspended && !suspensionHolds s' n)).foldl appendNew
            s.passQueue }, if w = v then .done else .clamped, settingsFields s'.settings⟩ := by
  intro s'
  have hchecks := suspendAfterChecks_eq (s := s') hp
  simp only [takeServiceSet, h, if_true, doneOr_bne]
  rw [show s.settings.write 4 w = s'.settings from rfl, hchecks]
  cases s.patrons.any (fun e => e.2.state == .active && suspensionHolds s' e.1) <;> rfl

theorem raiseIf_raiseAll (b : Bool) (l : Link) (n : Notice) (s : State) :
    raiseIf b l n s = raiseAll (if b then [(l, n)] else []) s := by
  cases b <;> rfl

/-- Settles O26: a setting is its clamped value, and the checks of a new suspend-after are one change of the patrons. -/
theorem serviceSet : Obligations.ServiceSet := by
  intro tag s i v hr hv g ask stores
  have hreads := reads_serviceSet hv
  have hstores : ∀ lo hi (put : Nat → Settings), i ≠ 4 → settingValue g i v = some (max lo (min hi v)) →
      (∀ x, g.write i x = put x) → (∀ x, (put x).warn = g.warn ∧ (put x).critical = g.critical) → stores lo hi put := by
    intro lo hi put hi4 hval hput hlevels
    have hw := hlevels (max lo (min hi v))
    have he := takeServiceSet_some (s := admitted .order tag Kind.serviceSet.code s) hval hi4
    refine congrArg Host.Outcome.next (hreads.reply hr ?_ ⟨rfl, rfl, rfl, rfl, rfl, rfl, rfl, hw.1, hw.2⟩)
    rw [he, ← hput]
    rfl
  have hclamps : ∀ lo hi (put : Nat → Settings), i ≠ 4 → settingValue g i v = some (clampTo lo hi v) → lo ≤ hi →
      (∀ x, g.write i x = put x) → (∀ x, (put x).warn = g.warn ∧ (put x).critical = g.critical) → stores lo hi put :=
    fun lo hi put hi4 hval hle => hstores lo hi put hi4 (by rw [hval, clampTo_eq hle])
  refine ⟨?_, ?_, ?_, ?_, ?_, ?_, ?_, ?_, ?_, ?_, ?_, ?_⟩
  case refine_4 =>
    rintro rfl hl hp v' late s'
    refine congrArg Host.Outcome.next (hreads.after hr _ ?_)
    have he := takeServiceSet_suspendAfter (s := admitted .order tag Kind.serviceSet.code s) hp
      (settingValue_suspendAfter g hl v)
    rw [he, raiseIf_raiseAll]
    simp only [Patron.checked_eq]
    rfl
  case refine_5 =>
    rintro rfl hs
    exact hstores _ _ _ (by decide) (settingValue_lostAfter g hs v) (fun _ => rfl) fun _ => ⟨rfl, rfl⟩
  case refine_12 =>
    intro hi
    exact congrArg Host.Outcome.next (hreads.answers hr (takeServiceSet_none (settingValue_none hi)))
  all_goals
    rintro rfl
    exact hclamps _ _ _ (by decide) rfl (by decide) (fun _ => rfl) fun _ => ⟨rfl, rfl⟩

end Sys2Proof.Machine
end

section
/-! SUPPORT. What the start-up scan takes back from the bays: the writes and wipes under way, in bay order (R77 step 1, R103). -/

namespace Sys2Proof.Machine

-- One declaration at a time: the check's memory does not hold many side by side.
set_option Elab.async false

/-! ### Records kept by a test -/

theorem Table.get_filter {α : Type} {t : Table α} (h : t.wf = true) (p : Nat × α → Bool) (n : Nat) :
    Table.get (t.filter p) n = (t.get n).filter (fun v => p (n, v)) := by
  induction t with
  | nil => rfl
  | cons e t ih =>
    obtain ⟨k, v⟩ := e
    have hwf : Table.wf t = true := by
      rw [Table.wf_iff, List.pairwise_cons] at h
      exact (Table.wf_iff _).2 h.2
    have hk : Table.get t k = none := Table.get_lt_first h le_rfl
    rw [List.filter_cons, Table.get_cons]
    by_cases hn : n = k
    · subst hn
      cases hp : p (n, v) <;> simp [Table.get_cons, ih hwf, hk, hp, Option.filter_some]
    · cases hp : p (k, v) <;> simp [Table.get_cons, ih hwf, hn]

/-! ### One bay's work taken back -/

/-- The write or wipe of a bay, with its cartridge (R103). -/
def Bay.work (b : Bay) : Option (WorkKind × Nat) :=
  match b.activity with
  | .idle => none
  | .writing job serial _ => some (.write job, serial)
  | .wiping serial _ => some (.wipe, serial)

/-- A bay's last activity once its work is taken back (R103). -/
def Bay.lastTakenBack (b : Bay) : Option LastActivity :=
  match b.activity with
  | .idle => b.last
  | .writing job serial _ => some ⟨.write job, serial, .takenBack⟩
  | .wiping serial _ => some ⟨.wipe, serial, .takenBack⟩

/-- A condition with its activity ended. -/
def Condition.stopped : Condition → Condition
  | .service st streak strikes _ => .service st streak strikes .idle
  | c => c

/-- A bay with its work taken back (R103). -/
def Bay.takenBack (b : Bay) : Bay :=
  { b with condition := b.condition.stopped, last := b.lastTakenBack }

/-- The write job that a taken-back piece of work leaves to be given up. -/
def writtenJob (w : WorkKind × Nat) : Option Nat :=
  match w.1 with
  | .write job => some job
  | .wipe => none

/-- What a taken-back piece of work leaves of its cartridge and its job (R77 step 1, R103). -/
def undoWork (s : State) (w : WorkKind × Nat) : State :=
  match w.1 with
  | .write job => giveUpJob job (toUnwiped w.2 s)
  | .wipe => toUnwiped w.2 s

/-- A cartridge record that joins the UNWIPED list. -/
def Cart.unwiped (c : Cart) : Cart :=
  { c with state := .unwiped }

@[simp] theorem Cart.unwiped_unwiped (c : Cart) : c.unwiped.unwiped = c.unwiped := rfl

theorem Bay.takenBack_idle {b : Bay} (h : b.activity = .idle) : b.takenBack = b := by
  obtain ⟨c, _, _⟩ := b
  cases c <;> simp_all [Bay.takenBack, Bay.lastTakenBack, Bay.activity, Condition.stopped]

theorem Condition.broughtBack_stopped (c : Condition) : c.stopped.broughtBack = c.broughtBack := by
  cases c <;> rfl

/-- A state with its bay records replaced. -/
def State.withBays (s : State) (bs : List Bay) : State :=
  { s with bays := bs }

@[simp] theorem State.withBays_bays (s : State) (bs : List Bay) : (s.withBays bs).bays = bs := rfl

@[simp] theorem State.withBays_withBays (s : State) (bs cs : List Bay) : (s.withBays bs).withBays cs = s.withBays cs := rfl

@[simp] theorem State.withBays_self (s : State) : s.withBays s.bays = s := rfl

theorem toUnwiped_some {serial : Nat} {s : State} {c : Cart} (h : s.carts.get serial = some c) :
    toUnwiped serial s = { s with carts := s.carts.put serial c.unwiped, unwiped := s.unwiped ++ [serial] } := by
  simp only [toUnwiped, h]
  rfl

theorem toUnwiped_none {serial : Nat} {s : State} (h : s.carts.get serial = none) : toUnwiped serial s = s := by
  simp [toUnwiped, h]

theorem toUnwiped_withBays (serial : Nat) (s : State) (bs : List Bay) :
    toUnwiped serial (s.withBays bs) = (toUnwiped serial s).withBays bs := by
  cases h : s.carts.get serial with
  | none => rw [toUnwiped_none h, toUnwiped_none (s := s.withBays bs) h]
  | some c =>
    rw [toUnwiped_some h, toUnwiped_some (s := s.withBays bs) h]
    rfl

theorem giveUpJob_withBays (n : Nat) (s : State) (bs : List Bay) :
    giveUpJob n (s.withBays bs) = (giveUpJob n s).withBays bs := by
  have hjobs : (s.withBays bs).jobs = s.jobs := rfl
  unfold giveUpJob
  rw [hjobs]
  split <;> rfl

/-- What a taken-back piece of work leaves does not depend on the bays. -/
theorem undoWork_withBays (w : WorkKind × Nat) (s : State) (bs : List Bay) :
    undoWork (s.withBays bs) w = (undoWork s w).withBays bs := by
  unfold undoWork
  split
  · rw [toUnwiped_withBays, giveUpJob_withBays]
  · rw [toUnwiped_withBays]

theorem foldl_undoWork_withBays (ws : List (WorkKind × Nat)) (s : State) (bs : List Bay) :
    ws.foldl undoWork (s.withBays bs) = (ws.foldl undoWork s).withBays bs := by
  induction ws generalizing s with
  | nil => rfl
  | cons w ws ih => rw [List.foldl_cons, List.foldl_cons, undoWork_withBays, ih]

theorem takeBackBay_eq {n : Nat} {s : State} {b : Bay} (hn : n < 32) (hb : s.bays[n]? = some b) :
    takeBackBay n s = b.work.toList.foldl undoWork (s.withBays (s.bays.set n b.takenBack)) := by
  have hbay : s.bay n = some b := (if_pos hn).trans hb
  have hidle : b.activity = .idle → takeBackBay n s =
      b.work.toList.foldl undoWork (s.withBays (s.bays.set n b.takenBack)) := by
    intro h
    have hset : s.bays.set n b = s.bays := by
      obtain ⟨hlt, he⟩ := List.getElem?_eq_some_iff.1 hb
      rw [← he, List.set_getElem_self]
    simp [takeBackBay, hbay, h, Bay.work, Bay.takenBack_idle h, hset]
  obtain ⟨c, rests, last⟩ := b
  cases c with
  | service st streak strikes a =>
    cases a with
    | idle => exact hidle rfl
    | writing job serial m =>
      simp [takeBackBay, idleBay, hbay, Bay.activity, Bay.work, undoWork, State.putBay, State.withBays, Bay.takenBack,
        Bay.lastTakenBack, Condition.stopped]
    | wiping serial m =>
      simp [takeBackBay, idleBay, hbay, Bay.activity, Bay.work, undoWork, State.putBay, State.withBays, Bay.takenBack,
        Bay.lastTakenBack, Condition.stopped]
  | offline => exact hidle rfl
  | resting m => exact hidle rfl
  | failed => exact hidle rfl

theorem takeBackBay_none {n : Nat} {s : State} (hb : s.bays[n]? = none) : takeBackBay n s = s := by
  have hbay : s.bay n = none := by
    unfold State.bay
    split
    · exact hb
    · rfl
  simp [takeBackBay, hbay]

/-! ### Every bay's work taken back -/

theorem takeBackBays_upTo (s : State) {k : Nat} (hk : k ≤ 32) :
    (List.range k).foldl (fun acc n => takeBackBay n acc) s =
      (((s.bays.take k).filterMap Bay.work).foldl undoWork s).withBays
        ((s.bays.take k).map Bay.takenBack ++ s.bays.drop k) := by
  induction k with
  | zero => simp
  | succ k ih =>
    rw [List.range_succ, List.foldl_append, ih (Nat.le_of_succ_le hk), List.foldl_cons, List.foldl_nil]
    cases hb : s.bays[k]? with
    | none =>
      have hlen := List.getElem?_eq_none_iff.1 hb
      rw [List.take_of_length_le hlen, List.take_of_length_le (Nat.le_succ_of_le hlen), List.drop_of_length_le hlen,
        List.drop_of_length_le (Nat.le_succ_of_le hlen)]
      exact takeBackBay_none (by simpa using hlen)
    | some b =>
      obtain ⟨hlt, he⟩ := List.getElem?_eq_some_iff.1 hb
      have hget : ((s.bays.take k).map Bay.takenBack ++ s.bays.drop k)[k]? = some b := by
        rw [List.getElem?_append_right (by simp)]
        simp [Nat.min_eq_left hlt.le, hb]
      have hset : ((s.bays.take k).map Bay.takenBack ++ s.bays.drop k).set k b.takenBack =
          (s.bays.take (k + 1)).map Bay.takenBack ++ s.bays.drop (k + 1) := by
        have hdrop : s.bays.drop k = b :: s.bays.drop (k + 1) := by rw [List.drop_eq_getElem_cons hlt, he]
        rw [List.set_append_right _ _ (by simp), List.take_add_one, hb, hdrop]
        simp [Nat.min_eq_left hlt.le]
      rw [takeBackBay_eq (Nat.lt_of_succ_le hk) hget, State.withBays_bays, hset, State.withBays_withBays,
        foldl_undoWork_withBays, ← List.foldl_append, List.take_add_one, hb, List.filterMap_append]
      cases hw : b.work <;> simp [hw]

/-- The works under way in the part's 32 bays, in bay order. -/
def worksUnderWay (s : State) : List (WorkKind × Nat) :=
  (s.bays.take 32).filterMap Bay.work

theorem takeBackBays_eq (s : State) :
    takeBackBays s = ((worksUnderWay s).foldl undoWork s).withBays
      ((s.bays.take 32).map Bay.takenBack ++ s.bays.drop 32) :=
  takeBackBays_upTo s (k := 32) le_rfl

/-! ### Cartridges and jobs of the works taken back -/

/-- Whether a job is CANCEL-PENDING. -/
def Job.isCancelPending (j : Job) : Bool :=
  match j.state with
  | .cancelPending _ _ => true
  | _ => false

theorem giveUpJob_jobs {s : State} (h : s.jobs.wf = true) (n : Nat) :
    (giveUpJob n s).jobs = s.jobs.filter (fun e => !(e.2.isCancelPending && e.1 == n)) := by
  unfold giveUpJob
  split
  · rename_i hn
    refine List.filter_congr fun e he => ?_
    by_cases hk : e.1 = n
    · have := Table.get_of_mem h he
      rw [hk, hn] at this
      simp [hk, ← Option.some.inj this, Job.isCancelPending]
    · have hne : (e.1 == n) = false := beq_false_of_ne hk
      simp [hne, bne]
  · rename_i hn
    refine (List.filter_eq_self.2 fun e he => ?_).symm
    by_cases hk : e.1 = n
    · have hget := Table.get_of_mem h he
      rw [hk] at hget
      have : e.2.isCancelPending = false := by
        unfold Job.isCancelPending
        split
        · rename_i b c hs
          obtain ⟨_, j⟩ := e
          obtain ⟨_, _, _, _, _, _, _, _⟩ := j
          cases hs
          exact absurd hget (hn _ _ _ _ _ _ _ _ _)
        · rfl
      simp [this]
    · simp [hk]

@[simp] theorem toUnwiped_jobs (serial : Nat) (s : State) : (toUnwiped serial s).jobs = s.jobs := by
  unfold toUnwiped
  split <;> rfl

@[simp] theorem toUnwiped_carts_get (serial m : Nat) (s : State) :
    (toUnwiped serial s).carts.get m =
      if m = serial then (s.carts.get m).map Cart.unwiped else s.carts.get m := by
  cases h : s.carts.get serial with
  | none =>
    rw [toUnwiped_none h]
    split
    · subst_vars
      simp [h]
    · rfl
  | some c =>
    rw [toUnwiped_some h]
    split
    · subst_vars
      simp [h]
    · simp [*]

theorem toUnwiped_unwiped (serial : Nat) (s : State) :
    (toUnwiped serial s).unwiped = s.unwiped ++ [serial].filter (fun m => (s.carts.get m).isSome) := by
  cases h : s.carts.get serial with
  | none => simp [toUnwiped_none h, h]
  | some c => simp [toUnwiped_some h, h]

/-- Giving a job up changes the job records alone. -/
theorem giveUpJob_frame (n : Nat) (s : State) :
    (giveUpJob n s).carts = s.carts ∧ (giveUpJob n s).unwiped = s.unwiped := by
  unfold giveUpJob
  split <;> exact ⟨rfl, rfl⟩

theorem undoWork_carts_get (w : WorkKind × Nat) (s : State) (m : Nat) :
    (undoWork s w).carts.get m = if m = w.2 then (s.carts.get m).map Cart.unwiped else s.carts.get m := by
  unfold undoWork
  split
  · rw [(giveUpJob_frame _ _).1, toUnwiped_carts_get]
  · rw [toUnwiped_carts_get]

theorem undoWork_unwiped (w : WorkKind × Nat) (s : State) :
    (undoWork s w).unwiped = s.unwiped ++ [w.2].filter (fun m => (s.carts.get m).isSome) := by
  unfold undoWork
  split
  · rw [(giveUpJob_frame _ _).2, toUnwiped_unwiped]
  · rw [toUnwiped_unwiped]

theorem undoWork_jobs {s : State} (h : s.jobs.wf = true) (w : WorkKind × Nat) :
    (undoWork s w).jobs = s.jobs.filter (fun e => !(e.2.isCancelPending && decide (e.1 ∈ (writtenJob w).toList))) := by
  obtain ⟨k, serial⟩ := w
  cases k with
  | write job =>
    rw [undoWork, giveUpJob_jobs (by simpa using h)]
    simp [writtenJob, Bool.beq_eq_decide_eq]
  | wipe => simp [undoWork, writtenJob]

/-- The cartridges of the works taken back are UNWIPED, their counts unchanged (R77 step 1, R103). -/
theorem foldl_undoWork_carts_get (ws : List (WorkKind × Nat)) (s : State) (m : Nat) :
    (ws.foldl undoWork s).carts.get m =
      if m ∈ ws.map Prod.snd then (s.carts.get m).map Cart.unwiped else s.carts.get m := by
  induction ws generalizing s with
  | nil => simp
  | cons w ws ih =>
    rw [List.foldl_cons, ih, undoWork_carts_get]
    by_cases hm : m ∈ ws.map Prod.snd <;> by_cases hw : m = w.2 <;> simp_all [Function.comp_def]

/-- The cartridges of the works taken back join the UNWIPED tail in bay order. -/
theorem foldl_undoWork_unwiped (ws : List (WorkKind × Nat)) (s : State) :
    (ws.foldl undoWork s).unwiped =
      s.unwiped ++ (ws.map Prod.snd).filter (fun m => (s.carts.get m).isSome) := by
  induction ws generalizing s with
  | nil => simp
  | cons w ws ih =>
    have hlive : ∀ m, ((undoWork s w).carts.get m).isSome = (s.carts.get m).isSome := fun m => by
      rw [undoWork_carts_get]
      split <;> simp
    rw [List.foldl_cons, ih, undoWork_unwiped]
    simp only [hlive]
    rw [List.append_assoc, ← List.filter_append]
    rfl

/-- The CANCEL-PENDING jobs that bays were writing are freed, and the other job records are as they were (R103). -/
theorem foldl_undoWork_jobs (ws : List (WorkKind × Nat)) {s : State} (h : s.jobs.wf = true) :
    (ws.foldl undoWork s).jobs =
      s.jobs.filter (fun e => !(e.2.isCancelPending && decide (e.1 ∈ ws.filterMap writtenJob))) := by
  induction ws generalizing s with
  | nil => simp
  | cons w ws ih =>
    have hjobs := undoWork_jobs h w
    rw [List.foldl_cons, ih (by rw [hjobs]; exact Table.wf_filter h _), hjobs, List.filter_filter]
    refine List.filter_congr fun e _ => ?_
    rw [List.filterMap_cons]
    cases writtenJob w <;> cases e.2.isCancelPending <;> simp [Bool.and_comm, Bool.beq_eq_decide_eq]

/-- What taking back the works and recounting leaves unchanged: everything but the figures named. -/
def OnlyTakenBack (s t : State) : Prop :=
  t = { s with bays := t.bays, carts := t.carts, unwiped := t.unwiped, jobs := t.jobs, reserved := t.reserved }

theorem OnlyTakenBack.eq {s t : State} (h : OnlyTakenBack s t) :
    t = { s with bays := t.bays, carts := t.carts, unwiped := t.unwiped, jobs := t.jobs, reserved := t.reserved } := h

theorem OnlyTakenBack.trans {s t u : State} (h : OnlyTakenBack s t) (h' : OnlyTakenBack t u) : OnlyTakenBack s u :=
  Eq.trans h' (congrArg (fun x : State => { x with
    bays := u.bays, carts := u.carts, unwiped := u.unwiped, jobs := u.jobs, reserved := u.reserved }) h)

theorem onlyTakenBack_undoWork (w : WorkKind × Nat) (s : State) : OnlyTakenBack s (undoWork s w) := by
  have hcart : OnlyTakenBack s (toUnwiped w.2 s) := by
    unfold toUnwiped
    split <;> rfl
  unfold undoWork
  split
  · refine hcart.trans ?_
    unfold giveUpJob
    split <;> rfl
  · exact hcart

theorem onlyTakenBack_takeBackBays (s : State) : OnlyTakenBack s (takeBackBays s) := by
  have hfold : ∀ (ws : List (WorkKind × Nat)) (s : State), OnlyTakenBack s (ws.foldl undoWork s) := by
    intro ws
    induction ws with
    | nil => exact fun s => rfl
    | cons w ws ih => exact fun s => (onlyTakenBack_undoWork w s).trans (ih _)
  rw [takeBackBays_eq]
  exact (hfold _ s).trans rfl

end Sys2Proof.Machine
end

section
/-! SUPPORT. The reissue of the jobs returned from bays: each, oldest stamp first, reserves a free blank or starves (R73, R77
step 3). -/

namespace Sys2Proof.Machine

-- One declaration at a time: the check's memory does not hold many side by side.
set_option Elab.async false

/-! ### Sorted lists and counts -/

section
variable {α : Type}

theorem insertBefore_congr {b b' : α → α → Bool} {x : α} {l : List α} (h : ∀ y ∈ l, b x y = b' x y) :
    insertBefore b x l = insertBefore b' x l := by
  induction l with
  | nil => rfl
  | cons y ys ih =>
    rw [insertBefore, insertBefore, h y (by simp), ih fun z hz => h z (by simp [hz])]

theorem insertBefore_perm (b : α → α → Bool) (x : α) (l : List α) : (insertBefore b x l).Perm (x :: l) := by
  induction l with
  | nil => rfl
  | cons y ys ih =>
    rw [insertBefore]
    split
    · rfl
    · exact (ih.cons y).trans (.swap _ _ _)

theorem foldl_insertBefore_perm (b : α → α → Bool) (l acc : List α) :
    (l.foldl (fun acc x => insertBefore b x acc) acc).Perm (l ++ acc) := by
  induction l generalizing acc with
  | nil => rfl
  | cons x l ih => exact (ih _).trans ((List.Perm.append_left l (insertBefore_perm b x acc)).trans List.perm_middle)

theorem sortBy_perm (b : α → α → Bool) (l : List α) : (sortBy b l).Perm l := by
  simpa [sortBy] using foldl_insertBefore_perm b l []

/-- A sort depends on the order of the list's own members alone. -/
theorem sortBy_congr {b b' : α → α → Bool} {l : List α} (h : ∀ x ∈ l, ∀ y ∈ l, b x y = b' x y) : sortBy b l = sortBy b' l := by
  have hfold : ∀ m acc : List α, (∀ x ∈ m ++ acc, x ∈ l) →
      m.foldl (fun acc x => insertBefore b x acc) acc = m.foldl (fun acc x => insertBefore b' x acc) acc := by
    intro m
    induction m with
    | nil => exact fun _ _ => rfl
    | cons x m ih =>
      intro acc hl
      rw [List.foldl_cons, List.foldl_cons,
        insertBefore_congr fun y hy => h x (hl x (by simp)) y (hl y (by simp [hy]))]
      refine ih _ fun y hy => hl y ?_
      rw [List.mem_append, mem_insertBefore] at hy
      simp only [List.cons_append, List.mem_cons, List.mem_append]
      tauto
  exact hfold l [] (by simp)

end

/-- A written record in a count of the records that satisfy a test. -/
theorem countOf_put {α : Type} {t : Table α} {n : Nat} {v : α} (h : t.wf = true) (hv : t.get n = some v)
    (p : Nat × α → Bool) (w : α) :
    countOf p (t.put n w) + (p (n, v)).toNat = countOf p t + (p (n, w)).toNat := by
  induction t with
  | nil => simp at hv
  | cons e t ih =>
    obtain ⟨k, x⟩ := e
    have hwf : Table.wf t = true := by
      rw [Table.wf_iff, List.pairwise_cons] at h
      exact (Table.wf_iff _).2 h.2
    rw [Table.get_cons] at hv
    by_cases hn : n = k
    · subst hn
      have hx : x = v := by simpa using hv
      subst hx
      cases hp : p (n, x) <;> cases hq : p (n, w) <;> simp [Table.put, countOf, hp, hq]
    · have hlt : ¬ n < k := fun hlt => by
        rw [if_neg hn, Table.get_lt_first h hlt.le] at hv
        cases hv
      rw [if_neg hn] at hv
      have := ih hwf hv
      cases hp : p (k, x) <;> simp [Table.put, countOf, hp, hn, hlt] at this ⊢ <;> omega

/-! ### What stays of a job -/

/-- A job in another state. -/
def Job.withState (j : Job) (st : JobState) : Job :=
  { j with state := st }

/-- Whether two states have the same jobs but for the jobs' states. -/
def SameJobs (s t : State) : Prop :=
  ∀ n, (t.jobs.get n).map (Job.withState · .queued) = (s.jobs.get n).map (Job.withState · .queued)

theorem SameJobs.map {s t : State} (h : SameJobs s t) {β : Type} (f : Job → β) (hf : ∀ j st, f (j.withState st) = f j)
    (n : Nat) : (t.jobs.get n).map f = (s.jobs.get n).map f := by
  have := congrArg (Option.map f) (h n)
  simpa [Function.comp_def, hf] using this

theorem stampBefore_eq (s : State) (a b : Nat) :
    stampBefore s a b = match (s.jobs.get a).map Job.stamp, (s.jobs.get b).map Job.stamp with
      | some x, some y => decide (x < y)
      | _, _ => false := by
  unfold stampBefore
  cases s.jobs.get a <;> cases s.jobs.get b <;> rfl

theorem SameJobs.stampBefore {s t : State} (h : SameJobs s t) : stampBefore t = stampBefore s := by
  have hs := h.map Job.stamp fun _ _ => rfl
  funext a b
  rw [stampBefore_eq, stampBefore_eq, hs a, hs b]

/-- What gives a job its place in the write job queue. -/
def Job.place (j : Job) : Band × Nat :=
  (j.band, j.stamp)

theorem jobBefore_eq (s : State) (a b : Nat) :
    jobBefore s a b = match (s.jobs.get a).map Job.place, (s.jobs.get b).map Job.place with
      | some (.urgent, _), some (.normal, _) => true
      | some (.normal, _), some (.urgent, _) => false
      | some (_, x), some (_, y) => decide (x < y)
      | _, _ => false := by
  unfold jobBefore
  cases s.jobs.get a <;> cases s.jobs.get b
  case some.some x y =>
    obtain ⟨_, _, _, _, _, b1, _, _⟩ := x
    obtain ⟨_, _, _, _, _, b2, _, _⟩ := y
    cases b1 <;> cases b2 <;> rfl
  all_goals simp [Job.place]

theorem SameJobs.jobBefore {s t : State} (h : SameJobs s t) : jobBefore t = jobBefore s := by
  have hs := h.map Job.place fun _ _ => rfl
  funext a b
  rw [jobBefore_eq, jobBefore_eq, hs a, hs b]

theorem SameJobs.refl (s : State) : SameJobs s s := fun _ => rfl

theorem SameJobs.trans {s t u : State} (h : SameJobs s t) (h' : SameJobs t u) : SameJobs s u := fun n => (h' n).trans (h n)

/-! ### One job reissued -/

section
variable {s : State} {n : Nat} {j : Job}

/-- Whether a job of a class, were it to need a blank now, would get one (R73). -/
def gets (s : State) (c : Cls) : Bool :=
  decide (0 < freeBlanks s c)

theorem needBlank_jobs (h : s.jobs.get n = some j) :
    (needBlank n s).jobs = s.jobs.put n (j.withState (if gets s j.cls then .queued else .starved)) := by
  simp only [needBlank, h, gets, decide_eq_true_eq]
  split <;> simp [*, queueWithBlank, enqueueJob, reserveBlank, starveJob, Job.withState]

theorem needBlank_sameJobs (h : s.jobs.get n = some j) : SameJobs s (needBlank n s) := by
  intro m
  rw [needBlank_jobs h, Table.get_put]
  split
  · subst_vars
    simp [h, Job.withState]
  · rfl

theorem needBlank_reserved (h : s.jobs.get n = some j) (c : Cls) :
    (needBlank n s).reserved.get c = s.reserved.get c + (decide (c = j.cls) && gets s j.cls).toNat := by
  simp only [needBlank, h, gets]
  split
  · by_cases hc : c = j.cls
    · subst hc
      simp [*, queueWithBlank, enqueueJob, reserveBlank]
    · simp [*, queueWithBlank, enqueueJob, reserveBlank]
  · simp [*, starveJob]

theorem needBlank_blank (n : Nat) (s : State) : (needBlank n s).blank = s.blank := by
  unfold needBlank
  split
  · split <;> rfl
  · rfl

theorem needBlank_free (h : s.jobs.get n = some j) (c : Cls) :
    freeBlanks (needBlank n s) c = freeBlanks s c - (decide (c = j.cls)).toNat := by
  have hr := needBlank_reserved h c
  by_cases hc : c = j.cls
  · subst hc
    simp only [gets, decide_true, Bool.true_and, freeBlanks, needBlank_blank] at hr ⊢
    by_cases hf : 0 < (s.blank.get j.cls).length - s.reserved.get j.cls
    · simp only [hf, decide_true, Bool.toNat_true] at hr ⊢
      omega
    · simp only [hf, decide_false, Bool.toNat_false, Bool.toNat_true] at hr ⊢
      omega
  · simp only [hc, decide_false, Bool.false_and, Bool.toNat_false, freeBlanks, needBlank_blank] at hr ⊢
    omega

theorem needBlank_starved (h : s.jobs.get n = some j) (c : Cls) :
    (needBlank n s).starved.get c =
      if c = j.cls ∧ gets s j.cls = false then insertBefore (stampBefore s) n (s.starved.get c) else s.starved.get c := by
  have hbefore : stampBefore (s.putJob n { j with state := .starved }) = stampBefore s := by
    refine SameJobs.stampBefore fun m => ?_
    rw [State.putJob_jobs, Table.get_put]
    split
    · subst_vars
      simp [h, Job.withState]
    · rfl
  simp only [needBlank, h, gets]
  split
  · simp [*, queueWithBlank, enqueueJob, reserveBlank]
  · by_cases hc : c = j.cls
    · subst hc
      simp [*, starveJob]
    · simp [*, starveJob]

theorem needBlank_jobQueue (h : s.jobs.get n = some j) :
    (needBlank n s).jobQueue = if gets s j.cls then insertBefore (jobBefore s) n s.jobQueue else s.jobQueue := by
  have hbefore : jobBefore (reserveBlank j.cls (s.putJob n { j with state := .queued })) = jobBefore s := by
    refine SameJobs.jobBefore fun m => ?_
    rw [reserveBlank, State.putJob_jobs, Table.get_put]
    split
    · subst_vars
      simp [h, Job.withState]
    · rfl
  simp only [needBlank, h, gets, decide_eq_true_eq]
  split
  · rw [queueWithBlank, enqueueJob, hbefore]
    rfl
  · simp [starveJob]

end

/-! ### The jobs reissued, one after another -/

/-- The jobs of a list that are of a class. -/
def jobsOfClass (s : State) (ns : List Nat) (c : Cls) : List Nat :=
  ns.filter (fun n => (s.jobs.get n).map Job.cls == some c)

/-- The jobs of a list and class for which there are free blanks, the list's first ones. -/
def takers (s : State) (ns : List Nat) (c : Cls) : List Nat :=
  (jobsOfClass s ns c).take (freeBlanks s c)

/-- The jobs of a list and class for which no free blank is left. -/
def waiters (s : State) (ns : List Nat) (c : Cls) : List Nat :=
  (jobsOfClass s ns c).drop (freeBlanks s c)

/-- Whether a job is one of those of a list that get a free blank. -/
def served (s : State) (ns : List Nat) (n : Nat) : Bool :=
  allClasses.any (fun c => decide (n ∈ takers s ns c))

theorem mem_allClasses (c : Cls) : c ∈ allClasses := by
  cases c <;> decide

theorem served_iff (s : State) (ns : List Nat) (n : Nat) : served s ns n = true ↔ ∃ c, n ∈ takers s ns c := by
  simp [served, mem_allClasses]

theorem mem_of_mem_takers {s : State} {ns : List Nat} {c : Cls} {n : Nat} (h : n ∈ takers s ns c) : n ∈ ns :=
  List.mem_of_mem_filter (List.mem_of_mem_take h)

theorem SameJobs.jobsOfClass {s t : State} (h : SameJobs s t) : jobsOfClass t = jobsOfClass s := by
  funext ns c
  simp only [Machine.jobsOfClass, h.map Job.cls fun _ _ => rfl]

section
variable {s : State} {n : Nat} {ns : List Nat} {j : Job}

theorem jobsOfClass_cons (h : s.jobs.get n = some j) (c : Cls) :
    jobsOfClass s (n :: ns) c = if c = j.cls then n :: jobsOfClass s ns c else jobsOfClass s ns c := by
  by_cases hc : c = j.cls
  · simp [jobsOfClass, h, hc]
  · simp [jobsOfClass, h, hc, Ne.symm hc]

theorem takers_cons (h : s.jobs.get n = some j) (c : Cls) :
    takers s (n :: ns) c =
      if c = j.cls ∧ gets s j.cls = true then n :: takers (needBlank n s) ns c else takers (needBlank n s) ns c := by
  rw [takers, takers, (needBlank_sameJobs h).jobsOfClass, jobsOfClass_cons h, needBlank_free h]
  by_cases hc : c = j.cls
  · subst hc
    cases hf : freeBlanks s j.cls <;> simp [gets, hf]
  · simp [hc]

theorem waiters_cons (h : s.jobs.get n = some j) (c : Cls) :
    waiters s (n :: ns) c =
      if c = j.cls ∧ gets s j.cls = false then n :: waiters (needBlank n s) ns c else waiters (needBlank n s) ns c := by
  rw [waiters, waiters, (needBlank_sameJobs h).jobsOfClass, jobsOfClass_cons h, needBlank_free h]
  by_cases hc : c = j.cls
  · subst hc
    cases hf : freeBlanks s j.cls <;> simp [gets, hf]
  · simp [hc]

theorem served_head (h : s.jobs.get n = some j) (hn : n ∉ ns) : served s (n :: ns) n = gets s j.cls := by
  rw [Bool.eq_iff_iff, served_iff]
  constructor
  · rintro ⟨c, hc⟩
    rw [takers_cons h] at hc
    split at hc
    · rename_i hg
      exact hg.2
    · exact absurd (mem_of_mem_takers hc) hn
  · intro hg
    exact ⟨j.cls, by rw [takers_cons h, if_pos ⟨rfl, hg⟩]; exact List.mem_cons_self⟩

theorem served_tail (h : s.jobs.get n = some j) {m : Nat} (hm : m ≠ n) :
    served s (n :: ns) m = served (needBlank n s) ns m := by
  have htakers : ∀ c, m ∈ takers s (n :: ns) c ↔ m ∈ takers (needBlank n s) ns c := fun c => by
    rw [takers_cons h]
    split <;> simp [hm]
  rw [Bool.eq_iff_iff, served_iff, served_iff, exists_congr htakers]

end

/-- What the reissue of a list of jobs leaves (R73, R77 step 3). -/
structure Reissued (s : State) (ns : List Nat) (t : State) : Prop where
  same : SameJobs s t
  jobs : ∀ m, t.jobs.get m =
    if m ∈ ns then (s.jobs.get m).map (Job.withState · (if served s ns m then .queued else .starved)) else s.jobs.get m
  reserved : ∀ c, t.reserved.get c = s.reserved.get c + (takers s ns c).length
  starved : ∀ c, t.starved.get c =
    (waiters s ns c).foldl (fun l n => insertBefore (stampBefore s) n l) (s.starved.get c)
  jobQueue : t.jobQueue = (ns.filter (served s ns)).foldl (fun q n => insertBefore (jobBefore s) n q) s.jobQueue

theorem reissued_foldl {ns : List Nat} (hn : ns.Nodup) {s : State} (hlive : ∀ n ∈ ns, (s.jobs.get n).isSome = true) :
    Reissued s ns (ns.foldl (fun acc n => needBlank n acc) s) := by
  induction ns generalizing s with
  | nil => exact ⟨.refl s, by simp, by simp [takers, jobsOfClass], by simp [waiters, jobsOfClass], rfl⟩
  | cons n ns ih =>
    obtain ⟨hnot, hn⟩ := List.nodup_cons.1 hn
    obtain ⟨j, hj⟩ := Option.isSome_iff_exists.1 (hlive n List.mem_cons_self)
    have hsame := needBlank_sameJobs hj
    have hrest := ih hn (s := needBlank n s) fun m hm => by
      have := hsame.map (fun _ => true) (fun _ _ => rfl) m
      have hm := hlive m (List.mem_cons_of_mem _ hm)
      cases hg : s.jobs.get m <;> cases hg' : (needBlank n s).jobs.get m <;> simp_all
    have hserved : ∀ m ∈ ns, served (needBlank n s) ns m = served s (n :: ns) m := fun m hm =>
      (served_tail hj fun he => hnot (he ▸ hm)).symm
    refine ⟨hsame.trans hrest.same, fun m => ?_, fun c => ?_, fun c => ?_, ?_⟩
    · rw [List.foldl_cons, hrest.jobs, needBlank_jobs hj]
      by_cases hm : m = n
      · subst hm
        simp [hnot, served_head hj hnot, hj]
      · by_cases hmem : m ∈ ns <;> simp [hm, hmem, hserved]
    · rw [List.foldl_cons, hrest.reserved, needBlank_reserved hj, takers_cons hj]
      by_cases hc : c = j.cls
      · cases hg : gets s j.cls <;> simp [hc]
        omega
      · simp [hc]
    · rw [List.foldl_cons, hrest.starved, hsame.stampBefore, needBlank_starved hj, waiters_cons hj]
      split <;> rfl
    · rw [List.foldl_cons, hrest.jobQueue, hsame.jobBefore, needBlank_jobQueue hj, List.filter_cons,
        served_head hj hnot, List.filter_congr hserved]
      split <;> rfl

/-! ### The reserved counts and the rest of the state -/

/-- A job that was not QUEUED counts as QUEUED once it has a reservation. -/
theorem queuedOf_needBlank {s : State} {n : Nat} {j : Job} (h : s.jobs.wf = true) (hj : s.jobs.get n = some j)
    (hq : j.state ≠ .queued) (c : Cls) :
    queuedOf (needBlank n s) c = queuedOf s c + (decide (c = j.cls) && gets s j.cls).toNat := by
  have hput := countOf_put h hj (fun e => e.2.cls == c && e.2.state == .queued)
    (j.withState (if gets s j.cls then .queued else .starved))
  have hold : (j.cls == c && j.state == .queued) = false := by simp [hq]
  have hnew : ((j.withState (if gets s j.cls then .queued else .starved)).cls == c &&
      (j.withState (if gets s j.cls then .queued else .starved)).state == .queued) = (decide (c = j.cls) && gets s j.cls) := by
    have hcls : (j.cls == c) = decide (c = j.cls) := by
      rw [Bool.eq_iff_iff, beq_iff_eq, decide_eq_true_iff]
      exact eq_comm
    cases gets s j.cls <;> simp [Job.withState, hcls]
  rw [hold, hnew, ← needBlank_jobs hj] at hput
  exact hput

/-- Whether the reserved counts are those of the QUEUED jobs (R72). -/
def ReservedCounted (s : State) : Prop :=
  ∀ c, s.reserved.get c = queuedOf s c

theorem reservedCounted_foldl {ns : List Nat} (hn : ns.Nodup) {s : State} (h : s.jobs.wf = true) (hs : ReservedCounted s)
    (hjobs : ∀ n ∈ ns, ∃ j, s.jobs.get n = some j ∧ j.state ≠ .queued) :
    ReservedCounted (ns.foldl (fun acc n => needBlank n acc) s) := by
  induction ns generalizing s with
  | nil => exact hs
  | cons n ns ih =>
    obtain ⟨hnot, hn⟩ := List.nodup_cons.1 hn
    obtain ⟨j, hj, hq⟩ := hjobs n List.mem_cons_self
    refine ih hn ((needBlank_keeps n s).jobs h) (fun c => ?_) fun m hm => ?_
    · rw [needBlank_reserved hj, queuedOf_needBlank h hj hq, hs c]
    · obtain ⟨i, hi, hqi⟩ := hjobs m (List.mem_cons_of_mem _ hm)
      refine ⟨i, ?_, hqi⟩
      have hne : m ≠ n := fun he => hnot (he ▸ hm)
      rw [needBlank_jobs hj, Table.get_put_other _ _ hne, hi]

/-- What taking back the works and reissuing the jobs leave unchanged: everything but the figures named. -/
def OnlyRestored (s t : State) : Prop :=
  t = { s with
    bays := t.bays, carts := t.carts, unwiped := t.unwiped, jobs := t.jobs, reserved := t.reserved, starved := t.starved
    jobQueue := t.jobQueue }

theorem OnlyRestored.eq {s t : State} (h : OnlyRestored s t) :
    t = { s with
      bays := t.bays, carts := t.carts, unwiped := t.unwiped, jobs := t.jobs, reserved := t.reserved, starved := t.starved
      jobQueue := t.jobQueue } := h

theorem OnlyRestored.trans {s t u : State} (h : OnlyRestored s t) (h' : OnlyRestored t u) : OnlyRestored s u :=
  Eq.trans h' (congrArg (fun x : State => { x with
    bays := u.bays, carts := u.carts, unwiped := u.unwiped, jobs := u.jobs, reserved := u.reserved, starved := u.starved
    jobQueue := u.jobQueue }) h)

theorem OnlyTakenBack.restored {s t : State} (h : OnlyTakenBack s t) : OnlyRestored s t := by
  have hstarved : t.starved = s.starved := by
    rw [h.eq]
  have hqueue : t.jobQueue = s.jobQueue := by
    rw [h.eq]
  rw [OnlyRestored, hstarved, hqueue]
  exact h

theorem onlyRestored_needBlank (n : Nat) (s : State) : OnlyRestored s (needBlank n s) := by
  unfold needBlank
  split
  · split <;> rfl
  · rfl

theorem onlyRestored_foldl (ns : List Nat) (s : State) : OnlyRestored s (ns.foldl (fun acc n => needBlank n acc) s) := by
  induction ns generalizing s with
  | nil => rfl
  | cons n ns ih => exact (onlyRestored_needBlank n s).trans (ih _)

/-- The reissue leaves the bays and the cartridges as they are. -/
theorem foldl_needBlank_frame (ns : List Nat) (s : State) :
    (ns.foldl (fun acc n => needBlank n acc) s).bays = s.bays ∧ (ns.foldl (fun acc n => needBlank n acc) s).carts = s.carts
      ∧ (ns.foldl (fun acc n => needBlank n acc) s).unwiped = s.unwiped := by
  induction ns generalizing s with
  | nil => exact ⟨rfl, rfl, rfl⟩
  | cons n ns ih =>
    have hone : (needBlank n s).bays = s.bays ∧ (needBlank n s).carts = s.carts ∧ (needBlank n s).unwiped = s.unwiped := by
      unfold needBlank
      split
      · split <;> exact ⟨rfl, rfl, rfl⟩
      · exact ⟨rfl, rfl, rfl⟩
    obtain ⟨hbays, hcarts, hunwiped⟩ := ih (needBlank n s)
    exact ⟨hbays.trans hone.1, hcarts.trans hone.2.1, hunwiped.trans hone.2.2⟩

end Sys2Proof.Machine
end

section
/-! SUPPORT. The start-up scan repeated: a state that a scan left is one that a further scan leaves as it is (R20), and the
reset state is what the first scan leaves. -/

namespace Sys2Proof.Machine

-- One declaration at a time: the check's memory does not hold many side by side.
set_option Elab.async false

/-! ### The jobs of a whole scan -/

theorem mem_returnedJobs {s : State} (h : s.jobs.wf = true) {n : Nat} :
    n ∈ returnedJobs s ↔ ∃ j, s.jobs.get n = some j ∧ j.isAssigned = true :=
  ((sortBy_perm _ _).mem_iff).trans (Table.mem_select h)

theorem returnedJobs_nodup {s : State} (h : s.jobs.wf = true) : (returnedJobs s).Nodup :=
  (sortBy_perm _ _).nodup_iff.2 (Table.select_nodup h _)

theorem reissued_reissueJobs {s : State} (h : s.jobs.wf = true) : Reissued s (returnedJobs s) (reissueJobs s) :=
  reissued_foldl (returnedJobs_nodup h) fun n hn => by
    obtain ⟨j, hj, -⟩ := (mem_returnedJobs h).1 hn
    simp [hj]

/-- After the reissue no job is ASSIGNED. -/
theorem returnedJobs_reissueJobs {s : State} (h : s.jobs.wf = true) : returnedJobs (reissueJobs s) = [] := by
  have hwf : (reissueJobs s).jobs.wf = true :=
    (Keeps.foldl (fun s n => needBlank_keeps n s) (returnedJobs s) s).jobs h
  refine List.eq_nil_iff_forall_not_mem.2 fun n hn => ?_
  obtain ⟨j, hj, ha⟩ := (mem_returnedJobs hwf).1 hn
  rw [(reissued_reissueJobs h).jobs] at hj
  split at hj
  · obtain ⟨i, -, rfl⟩ := Option.map_eq_some_iff.1 hj
    cases hs : served s (returnedJobs s) n <;> simp [hs, Job.isAssigned, Job.withState] at ha
  · rename_i hnot
    exact hnot ((mem_returnedJobs h).2 ⟨j, hj, ha⟩)

theorem reservedCounted_recount (s : State) : ReservedCounted (recountReserved s) := fun c => by
  cases c <;> rfl

theorem reservedCounted_reissueJobs {s : State} (h : s.jobs.wf = true) (hs : ReservedCounted s) :
    ReservedCounted (reissueJobs s) :=
  reservedCounted_foldl (returnedJobs_nodup h) h hs fun n hn => by
    obtain ⟨j, hj, ha⟩ := (mem_returnedJobs h).1 hn
    refine ⟨j, hj, fun hq => ?_⟩
    simp [Job.isAssigned, hq] at ha

/-! ### The stages of the scan -/

/-- The records as they stand when the returned jobs are reissued: the held units and the reserved counts recounted, and the
bays taken back and brought back (R77 steps 1 and 2, R103). -/
def beforeReissue (s : State) : State :=
  recountReserved (bringBackBays (takeBackBays (recountHeld s)))

/-- What the scan does after the reissue (R61, R124, R136). -/
def afterReissue (s : State) : State :=
  rebuildEngine (recountDay (returnParcels (returnPulls s)))

@[simp] theorem recountReserved_jobs (s : State) : (recountReserved s).jobs = s.jobs := rfl

@[simp] theorem recountReserved_bays (s : State) : (recountReserved s).bays = s.bays := rfl

@[simp] theorem bringBackBays_jobs (s : State) : (bringBackBays s).jobs = s.jobs := rfl

@[simp] theorem bringBackBays_bays (s : State) :
    (bringBackBays s).bays = s.bays.map (fun b => { b with condition := b.condition.broughtBack }) := rfl

theorem beforeReissue_jobs (s : State) : (beforeReissue s).jobs = (takeBackBays (recountHeld s)).jobs := by
  rw [beforeReissue, recountReserved_jobs, bringBackBays_jobs]

theorem beforeReissue_bays (s : State) : (beforeReissue s).bays =
    (takeBackBays (recountHeld s)).bays.map (fun b => { b with condition := b.condition.broughtBack }) := by
  rw [beforeReissue, recountReserved_bays, bringBackBays_bays]

theorem beforeReissue_jobs_wf {s : State} (h : s.jobs.wf = true) : (beforeReissue s).jobs.wf = true := by
  have hheld : (recountHeld s).jobs.wf = true := h
  rw [beforeReissue_jobs]
  exact (takeBackBays_keeps (recountHeld s)).jobs hheld

theorem reservedCounted_beforeReissue (s : State) : ReservedCounted (beforeReissue s) := by
  unfold beforeReissue
  exact reservedCounted_recount _

theorem scanRecords_eq (s : State) : scanRecords s = afterReissue (reissueJobs (beforeReissue s)) := rfl

/-- The states in which a scan finds nothing to do. -/
structure Settled (s : State) : Prop where
  held : recountHeld s = s
  bays : ∀ b ∈ s.bays, b.condition.broughtBack = b.condition
  reserved : recountReserved s = s
  jobs : returnedJobs s = []
  pulls : returnPulls s = s
  parcels : returnParcels s = s
  day : recountDay s = s
  engine : rebuildEngine s = s

theorem Bay.activity_of_broughtBack {b : Bay} (h : b.condition.broughtBack = b.condition) : b.activity = .idle := by
  obtain ⟨c, _, _⟩ := b
  cases c with
  | service st streak strikes a =>
    simp only [Condition.broughtBack, freshService, Condition.service.injEq] at h
    obtain ⟨-, -, -, rfl⟩ := h
    rfl
  | _ => rfl

theorem Bay.work_idle {b : Bay} (h : b.activity = .idle) : b.work = none := by
  simp [Bay.work, h]

theorem takeBackBays_idle {s : State} (h : ∀ b ∈ s.bays, b.activity = .idle) : takeBackBays s = s := by
  have hworks : worksUnderWay s = [] :=
    List.filterMap_eq_nil_iff.2 fun b hb => Bay.work_idle (h b (List.mem_of_mem_take hb))
  have hbays : (s.bays.take 32).map Bay.takenBack = s.bays.take 32 :=
    (List.map_congr_left fun b hb => Bay.takenBack_idle (h b (List.mem_of_mem_take hb))).trans (List.map_id' _)
  rw [takeBackBays_eq, hworks, hbays, List.take_append_drop]
  rfl

/-- A scan leaves a settled state as it is. -/
theorem Settled.scanRecords {s : State} (h : Settled s) : scanRecords s = s := by
  have hbring : bringBackBays s = s := by
    have : s.bays.map (fun b => { b with condition := b.condition.broughtBack }) = s.bays :=
      (List.map_congr_left fun b hb => by rw [h.bays b hb]).trans (List.map_id' _)
    rw [bringBackBays, this]
  have hreissue : reissueJobs s = s := by rw [reissueJobs, h.jobs, List.foldl_nil]
  rw [Machine.scanRecords, h.held, takeBackBays_idle fun b hb => Bay.activity_of_broughtBack (h.bays b hb), hbring,
    h.reserved, hreissue, h.pulls, h.parcels, h.day, h.engine]

theorem PullTask.returnedTask_returnedTask (t : PullTask) : t.returnedTask.returnedTask = t.returnedTask := rfl

theorem SetState.unpulled_unpulled (st : SetState) : st.unpulled.unpulled = st.unpulled := by
  cases st <;> rfl

theorem Parcel.unpacked_unpacked (p : Parcel) : p.unpacked.unpacked = p.unpacked := by
  unfold Parcel.unpacked
  split <;> simp_all

theorem Condition.broughtBack_broughtBack (c : Condition) : c.broughtBack.broughtBack = c.broughtBack := by
  cases c <;> rfl

/-- What of the records found stands before the reissue. -/
theorem onlyTakenBack_beforeReissue (s : State) : OnlyTakenBack (recountHeld s) (beforeReissue s) := by
  have hbring : ∀ t, OnlyTakenBack t (bringBackBays t) := fun _ => rfl
  have hcount : ∀ t, OnlyTakenBack t (recountReserved t) := fun _ => rfl
  exact ((onlyTakenBack_takeBackBays _).trans (hbring _)).trans (hcount _)

/-- What of the records found stands when the returned jobs have been reissued. -/
theorem onlyRestored_reissueJobs (s : State) : OnlyRestored (recountHeld s) (reissueJobs (beforeReissue s)) :=
  (onlyTakenBack_beforeReissue s).restored.trans (onlyRestored_foldl _ _)

theorem settled_afterReissue {s : State} (hheld : s.heldTotal = sumOf (fun e => e.2.held) s.patrons)
    (hbays : ∀ b ∈ s.bays, b.condition.broughtBack = b.condition) (hres : ReservedCounted s) (hjobs : returnedJobs s = []) :
    Settled (afterReissue s) where
  held := congrArg (fun v => { afterReissue s with heldTotal := v }) hheld.symm
  bays := hbays
  reserved := by
    have h : (⟨queuedOf s .c1, queuedOf s .c2, queuedOf s .c3⟩ : PerClass Nat) = s.reserved := by
      rw [← hres, ← hres, ← hres]
      rfl
    exact congrArg (fun v => { afterReissue s with reserved := v }) h
  jobs := hjobs
  pulls := by
    have htasks := Table.mapAll_mapAll s.tasks (fun _ t => t.returnedTask) (fun _ t => t.returnedTask)
    have hsets := Table.mapAll_mapAll s.copySets (fun _ c => { c with state := c.state.unpulled })
      (fun _ c => { c with state := c.state.unpulled })
    simp only [PullTask.returnedTask_returnedTask, SetState.unpulled_unpulled] at htasks hsets
    exact congrArg₂ (fun ts cs => { afterReissue s with tasks := ts, copySets := cs }) htasks hsets
  parcels := by
    have hparcels := Table.mapAll_mapAll s.parcels (fun _ p => p.unpacked) (fun _ p => p.unpacked)
    simp only [Parcel.unpacked_unpacked] at hparcels
    exact congrArg (fun ps => { afterReissue s with parcels := ps }) hparcels
  day := rfl
  engine := rfl

/-- What a scan leaves is settled. -/
theorem settled_scanRecords {s : State} (h : s.jobs.wf = true) : Settled (scanRecords s) := by
  have hwf := beforeReissue_jobs_wf h
  have hframe := onlyRestored_reissueJobs s
  have hbays : (reissueJobs (beforeReissue s)).bays = (beforeReissue s).bays := (foldl_needBlank_frame _ _).1
  have hbrought : ∀ b ∈ (beforeReissue s).bays, b.condition.broughtBack = b.condition := fun b hb => by
    rw [beforeReissue_bays] at hb
    obtain ⟨b', -, rfl⟩ := List.mem_map.1 hb
    exact Condition.broughtBack_broughtBack _
  have hres := reservedCounted_reissueJobs hwf (reservedCounted_beforeReissue s)
  have hjobs := returnedJobs_reissueJobs hwf
  rw [scanRecords_eq]
  generalize reissueJobs (beforeReissue s) = t at hframe hbays hres hjobs
  have hpatrons : t.patrons = s.patrons := by
    rw [hframe.eq]
    rfl
  have hheld : t.heldTotal = sumOf (fun e => e.2.held) s.patrons := by
    rw [hframe.eq]
    rfl
  exact settled_afterReissue (by rw [hheld, hpatrons]) (by rw [hbays]; exact hbrought) hres hjobs

/-! ### A whole scan -/

@[simp] theorem scanned_virgin (s : State) : (scanned s).virgin = false := by
  unfold scanned
  cases h : s.virgin <;> simp [h]

/-- A memory that never held the part's records is taken as a settled one (R20). -/
theorem settled_scanned {s : State} (h : s.virgin = true) : Settled (scanned s) := by
  rw [scanned, if_pos h]
  refine ⟨rfl, ?_, rfl, rfl, rfl, rfl, rfl, rfl⟩
  intro b hb
  rw [List.eq_of_mem_replicate hb]
  rfl

/-- The scan of a memory that never held the part's records leaves the reset state (R20, R21). -/
theorem runScan_virgin {s : State} (h : s.virgin = true) : runScan s = { State.reset with pending := s.pending } := by
  rw [runScan, (settled_scanned h).scanRecords, scanned, if_pos h]
  rfl

/-- A port that starts with some of its link's kinds, in their order, is sound (R175). -/
theorem Port.sound_started {l : Link} {kinds : List Notice} (hl : kinds.length ≤ Config.sendPlaces)
    (hp : kinds.Pairwise (fun a b => a.code < b.code ∨ a.code = b.code ∧ a.cls < b.cls))
    (hk : ∀ n ∈ kinds, n ∈ kindsOfLink l) : Port.sound l (Port.started kinds) := by
  refine ⟨?_, by simp [Port.started], ?_, Nat.zero_le _, hp, hk⟩
  · simp [Port.answers, Port.started, countOf, OutFrame.isAnswer, List.filter_map, Function.comp_def]
  · simpa [Port.started, countOf, OutFrame.isAnswer, List.filter_map, Function.comp_def] using hl

/-- Settles O57: the first scan finds a settled memory, and the reset state's ranges and tables are closed facts. -/
theorem resetInvariants : Obligations.ResetInvariants := by
  refine ⟨congrArg Host.Outcome.next (runScan_virgin (s := State.powerOn) rfl), by decide, by decide, fun l => ?_,
    fun l body h => ?_⟩
  · cases l <;> exact Port.sound_started (by decide) (by decide) (by decide)
  · cases l <;> cases h

/-! ### A second scan -/

/-- A scan does not read the restart line or the ports. -/
theorem Settled.stopped {s : State} (h : Settled s) (a : Bool) (ps : PerLink Port) :
    Settled { s with restartAsserted := a, ports := ps } where
  held := congrArg (fun t : State => { t with restartAsserted := a, ports := ps }) h.held
  bays := h.bays
  reserved := congrArg (fun t : State => { t with restartAsserted := a, ports := ps }) h.reserved
  jobs := h.jobs
  pulls := congrArg (fun t : State => { t with restartAsserted := a, ports := ps }) h.pulls
  parcels := congrArg (fun t : State => { t with restartAsserted := a, ports := ps }) h.parcels
  day := congrArg (fun t : State => { t with restartAsserted := a, ports := ps }) h.day
  engine := congrArg (fun t : State => { t with restartAsserted := a, ports := ps }) h.engine

theorem scanned_found {s : State} (h : s.virgin = false) : scanned s = s := by
  rw [scanned, if_neg (by simp [h])]

theorem runScan_settled {s : State} (h : Settled s) (hv : s.virgin = false) :
    runScan s = startPorts { s with restartAsserted := false } := by
  rw [runScan, scanned_found hv, h.scanRecords]

/-- A scan of settled records, the restart line asserted again, leaves what the scan before it left. -/
theorem runScan_again {s : State} (h : Settled s) (hv : s.virgin = false) :
    runScan (stopPorts { startPorts { s with restartAsserted := false } with restartAsserted := true }) =
      startPorts { s with restartAsserted := false } :=
  runScan_settled (h.stopped true ⟨Port.started [], Port.started [], Port.started [], Port.started []⟩) hv

theorem scanRecords_virgin (s : State) : (scanRecords s).virgin = s.virgin := by
  have hframe := onlyRestored_reissueJobs s
  rw [scanRecords_eq]
  generalize reissueJobs (beforeReissue s) = t at hframe
  have ht : (afterReissue t).virgin = t.virgin := rfl
  rw [ht, hframe.eq]
  rfl

theorem jobs_wf_of_tablesWf {s : State} (h : s.tablesWf = true) : s.jobs.wf = true := by
  simp only [State.tablesWf, Bool.and_eq_true] at h
  tauto

/-- Settles O13: what a scan leaves is settled, and a settled state is what its scan leaves. -/
theorem scanRepeats : Obligations.ScanRepeats := by
  intro s t hwf hr ht
  have hs : Settled (scanRecords (scanned s)) :=
    settled_scanRecords (jobs_wf_of_tablesWf ((scanned_keeps s).tablesWf hwf))
  have hv : (scanRecords (scanned s)).virgin = false := (scanRecords_virgin _).trans (scanned_virgin s)
  have ht : t = startPorts { scanRecords (scanned s) with restartAsserted := false } := by
    have hexec : exec .startUpScan s = .next (runScan s) := congrArg Host.Outcome.next (if_pos hr)
    rw [hexec] at ht
    exact (Host.Outcome.next.inj ht).symm
  refine ⟨stopPorts { t with restartAsserted := true }, rfl, ?_⟩
  refine congrArg Host.Outcome.next ((if_pos rfl).trans ?_)
  rw [ht]
  exact runScan_again hs hv

end Sys2Proof.Machine
end

section
/-! SUPPORT. What the start-up scan leaves of the records it finds (R20, R61, R77, R103, R124, R136), and of the ports (R21,
R175). -/

namespace Sys2Proof.Machine

-- One declaration at a time: the check's memory does not hold many side by side.
set_option Elab.async false

/-! ### The jobs as the reissue finds them -/

section
variable {s : State}

/-- The jobs the scan finds, less the CANCEL-PENDING ones that bays were writing (R103). -/
theorem beforeReissue_jobs_eq (h : s.jobs.wf = true) :
    (beforeReissue s).jobs =
      s.jobs.filter (fun e => !(e.2.isCancelPending && decide (e.1 ∈ (worksUnderWay s).filterMap writtenJob))) := by
  have hheld : (recountHeld s).jobs.wf = true := h
  rw [beforeReissue_jobs, takeBackBays_eq]
  exact foldl_undoWork_jobs (worksUnderWay s) hheld

theorem beforeReissue_jobs_get (h : s.jobs.wf = true) (n : Nat) :
    (beforeReissue s).jobs.get n =
      (s.jobs.get n).filter (fun j => !(j.isCancelPending && decide (n ∈ (worksUnderWay s).filterMap writtenJob))) := by
  rw [beforeReissue_jobs_eq h, Table.get_filter h]

/-- A job that is not CANCEL-PENDING is there when the returned jobs are reissued. -/
theorem beforeReissue_jobs_of_not_cancelPending (h : s.jobs.wf = true) {n : Nat} {j : Job} (hj : s.jobs.get n = some j)
    (hc : j.isCancelPending = false) : (beforeReissue s).jobs.get n = some j := by
  rw [beforeReissue_jobs_get h, hj]
  simp [Option.filter_some, hc]

theorem Job.isCancelPending_of_isAssigned {j : Job} (h : j.isAssigned = true) : j.isCancelPending = false := by
  obtain ⟨_, _, _, _, _, _, st, _⟩ := j
  cases st <;> simp_all [Job.isAssigned, Job.isCancelPending]

theorem Job.isCancelPending_of_queued {j : Job} (h : j.state = .queued) : j.isCancelPending = false := by
  simp [Job.isCancelPending, h]

theorem queuedOf_beforeReissue (h : s.jobs.wf = true) (c : Cls) : queuedOf (beforeReissue s) c = queuedOf s c := by
  rw [queuedOf, queuedOf, beforeReissue_jobs_eq h, countOf, countOf, List.filter_filter]
  refine congrArg List.length (List.filter_congr fun e _ => ?_)
  cases hq : e.2.state == .queued
  · simp
  · simp [Job.isCancelPending_of_queued (beq_iff_eq.1 hq)]

theorem select_assigned_beforeReissue (h : s.jobs.wf = true) :
    (beforeReissue s).jobs.select (fun _ j => j.isAssigned) = s.jobs.select (fun _ j => j.isAssigned) := by
  rw [Table.select, Table.select, beforeReissue_jobs_eq h, List.filter_filter]
  refine congrArg (List.map Prod.fst) (List.filter_congr fun e _ => ?_)
  cases ha : e.2.isAssigned
  · simp
  · simp [Job.isCancelPending_of_isAssigned ha]

/-- The returned jobs, and their order, are those of the records the scan finds (R77 step 3). -/
theorem returnedJobs_beforeReissue (h : s.jobs.wf = true) : returnedJobs (beforeReissue s) = returnedJobs s := by
  rw [returnedJobs, returnedJobs, select_assigned_beforeReissue h]
  have hget : ∀ n ∈ s.jobs.select (fun _ j => j.isAssigned), (beforeReissue s).jobs.get n = s.jobs.get n := fun n hn => by
    obtain ⟨j, hj, ha⟩ := (Table.mem_select h).1 hn
    rw [hj, beforeReissue_jobs_of_not_cancelPending h hj (Job.isCancelPending_of_isAssigned ha)]
  exact sortBy_congr fun x hx y hy => by rw [stampBefore, stampBefore, hget x hx, hget y hy]

theorem jobsOfClass_beforeReissue (h : s.jobs.wf = true) (c : Cls) :
    jobsOfClass (beforeReissue s) (returnedJobs s) c = jobsOfClass s (returnedJobs s) c := by
  refine List.filter_congr fun n hn => ?_
  obtain ⟨j, hj, ha⟩ := (mem_returnedJobs h).1 hn
  rw [hj, beforeReissue_jobs_of_not_cancelPending h hj (Job.isCancelPending_of_isAssigned ha)]

theorem freeBlanks_beforeReissue (h : s.jobs.wf = true) (c : Cls) :
    freeBlanks (beforeReissue s) c = (s.blank.get c).length - queuedOf s c := by
  have hblank : (beforeReissue s).blank = s.blank := by
    rw [(onlyTakenBack_beforeReissue s).eq]
    rfl
  rw [freeBlanks, hblank, reservedCounted_beforeReissue, queuedOf_beforeReissue h]

/-- Whether a returned job gets one of its class's free blanks (R77 step 3). -/
def getsAgain (s : State) (n : Nat) : Bool :=
  allClasses.any (fun c => decide (n ∈
    (jobsOfClass s (returnedJobs s) c).take ((s.blank.get c).length - queuedOf s c)))

/-- What the scan leaves of the jobs and of the counts and queues of jobs (R77, R103). -/
structure JobsRestored (s x : State) : Prop where
  assigned : ∀ n j, s.jobs.get n = some j → j.isAssigned = true →
    x.jobs.get n = some (j.withState (if getsAgain s n then .queued else .starved))
  others : ∀ n, (∀ j, s.jobs.get n = some j → j.isAssigned = false) →
    x.jobs.get n =
      (s.jobs.get n).filter (fun j => !(j.isCancelPending && decide (n ∈ (worksUnderWay s).filterMap writtenJob)))
  reserved : ∀ c, x.reserved.get c =
    queuedOf s c + min (jobsOfClass s (returnedJobs s) c).length ((s.blank.get c).length - queuedOf s c)
  starved : ∀ c, x.starved.get c =
    ((jobsOfClass s (returnedJobs s) c).drop ((s.blank.get c).length - queuedOf s c)).foldl
      (fun l n => insertBefore (stampBefore x) n l) (s.starved.get c)
  jobQueue : x.jobQueue =
    ((returnedJobs s).filter (getsAgain s)).foldl (fun q n => insertBefore (jobBefore x) n q) s.jobQueue

theorem jobsRestored (h : s.jobs.wf = true) : JobsRestored s (reissueJobs (beforeReissue s)) := by
  have hx := reissued_reissueJobs (beforeReissue_jobs_wf h)
  rw [returnedJobs_beforeReissue h] at hx
  have htakers : ∀ c, takers (beforeReissue s) (returnedJobs s) c =
      (jobsOfClass s (returnedJobs s) c).take ((s.blank.get c).length - queuedOf s c) := fun c => by
    rw [takers, jobsOfClass_beforeReissue h, freeBlanks_beforeReissue h]
  have hserved : served (beforeReissue s) (returnedJobs s) = getsAgain s := by
    funext n
    simp only [served, htakers]
    rfl
  have hstarved : (beforeReissue s).starved = s.starved := by
    rw [(onlyTakenBack_beforeReissue s).eq]
    rfl
  have hqueue : (beforeReissue s).jobQueue = s.jobQueue := by
    rw [(onlyTakenBack_beforeReissue s).eq]
    rfl
  refine ⟨fun n j hj ha => ?_, fun n hn => ?_, fun c => ?_, fun c => ?_, ?_⟩
  · rw [hx.jobs, if_pos ((mem_returnedJobs h).2 ⟨j, hj, ha⟩), hserved,
      beforeReissue_jobs_of_not_cancelPending h hj (Job.isCancelPending_of_isAssigned ha)]
    rfl
  · have hnot : n ∉ returnedJobs s := fun hmem => by
      obtain ⟨j, hj, ha⟩ := (mem_returnedJobs h).1 hmem
      simp [hn j hj] at ha
    rw [hx.jobs, if_neg hnot, beforeReissue_jobs_get h]
  · rw [hx.reserved, htakers, List.length_take, Nat.min_comm, reservedCounted_beforeReissue, queuedOf_beforeReissue h]
  · rw [hx.starved, waiters, jobsOfClass_beforeReissue h, freeBlanks_beforeReissue h, hx.same.stampBefore, hstarved]
  · rw [hx.jobQueue, hserved, hx.same.jobBefore, hqueue]

end

end Sys2Proof.Machine
end

section
/-! SUPPORT. The bays, parcels and ports as the start-up scan leaves them, and the scan's effects put together (R20, R21). -/

namespace Sys2Proof.Machine

-- One declaration at a time: the check's memory does not hold many side by side.
set_option Elab.async false

/-! ### The bays -/

/-- A bay as the scan leaves it: its work taken back and its condition brought back (R103). -/
def Bay.restored (b : Bay) : Bay :=
  { b.takenBack with condition := b.condition.broughtBack }

theorem reissueJobs_bays (s : State) :
    (reissueJobs (beforeReissue s)).bays =
      (s.bays.take 32).map Bay.restored
        ++ (s.bays.drop 32).map (fun b => { b with condition := b.condition.broughtBack }) := by
  have hheld : (recountHeld s).bays = s.bays := rfl
  have hkept : (reissueJobs (beforeReissue s)).bays = (beforeReissue s).bays := (foldl_needBlank_frame _ _).1
  rw [hkept, beforeReissue_bays, takeBackBays_eq, State.withBays_bays, List.map_append, List.map_map, hheld]
  refine congrArg (· ++ _) (List.map_congr_left fun b _ => ?_)
  exact congrArg (fun c => Bay.mk c b.restsToday b.lastTakenBack) (Condition.broughtBack_stopped _)

theorem map_restored {β : Type} (f : Bay → β) (g : Bay → β) (bs : List Bay) (h1 : ∀ b, f b.restored = g b)
    (h2 : ∀ b : Bay, f { b with condition := b.condition.broughtBack } = g b) :
    ((bs.take 32).map Bay.restored ++ (bs.drop 32).map (fun b : Bay => { b with condition := b.condition.broughtBack })).map f =
      bs.map g := by
  have hfirst : (bs.take 32).map (f ∘ Bay.restored) = (bs.take 32).map g := List.map_congr_left fun b _ => h1 b
  have hrest : (bs.drop 32).map (f ∘ fun b : Bay => { b with condition := b.condition.broughtBack }) = (bs.drop 32).map g :=
    List.map_congr_left fun b _ => h2 b
  rw [List.map_append, List.map_map, List.map_map, hfirst, hrest, ← List.map_append, List.take_append_drop]

theorem getElem?_restored {bs cs : List Bay} {i : Nat} {b : Bay} (hi : i < 32) (hb : bs[i]? = some b) :
    ((bs.take 32).map Bay.restored ++ cs)[i]? = some b.restored := by
  obtain ⟨hlt, -⟩ := List.getElem?_eq_some_iff.1 hb
  rw [List.getElem?_append_left (by simp; omega), List.getElem?_map, List.getElem?_take_of_lt hi, hb]
  rfl

/-! ### The cartridges -/

@[simp] theorem recountReserved_carts (s : State) : (recountReserved s).carts = s.carts := rfl

@[simp] theorem recountReserved_unwiped (s : State) : (recountReserved s).unwiped = s.unwiped := rfl

@[simp] theorem bringBackBays_carts (s : State) : (bringBackBays s).carts = s.carts := rfl

@[simp] theorem bringBackBays_unwiped (s : State) : (bringBackBays s).unwiped = s.unwiped := rfl

@[simp] theorem State.withBays_carts (s : State) (bs : List Bay) : (s.withBays bs).carts = s.carts := rfl

@[simp] theorem State.withBays_unwiped (s : State) (bs : List Bay) : (s.withBays bs).unwiped = s.unwiped := rfl

/-- The cartridges the bays were working on are UNWIPED and the others as they were. -/
theorem reissueJobs_carts_get (s : State) (m : Nat) :
    (reissueJobs (beforeReissue s)).carts.get m =
      if m ∈ (worksUnderWay s).map Prod.snd then (s.carts.get m).map Cart.unwiped else s.carts.get m := by
  have hkept : (reissueJobs (beforeReissue s)).carts = (beforeReissue s).carts := (foldl_needBlank_frame _ _).2.1
  rw [hkept, beforeReissue, recountReserved_carts, bringBackBays_carts, takeBackBays_eq, State.withBays_carts]
  exact foldl_undoWork_carts_get (worksUnderWay s) (recountHeld s) m

theorem reissueJobs_unwiped (s : State) :
    (reissueJobs (beforeReissue s)).unwiped =
      s.unwiped ++ ((worksUnderWay s).map Prod.snd).filter (fun m => (s.carts.get m).isSome) := by
  have hkept : (reissueJobs (beforeReissue s)).unwiped = (beforeReissue s).unwiped := (foldl_needBlank_frame _ _).2.2
  rw [hkept, beforeReissue, recountReserved_unwiped, bringBackBays_unwiped, takeBackBays_eq, State.withBays_unwiped]
  exact foldl_undoWork_unwiped (worksUnderWay s) (recountHeld s)

/-! ### The parcels and the day's figures -/

theorem countOf_mapAll {α : Type} (p : Nat × α → Bool) (t : Table α) (f : Nat → α → α) :
    countOf p (t.mapAll f) = countOf (fun e => p (e.1, f e.1 e.2)) t := by
  rw [countOf, countOf, Table.mapAll, List.filter_map, List.length_map]
  rfl

theorem countOf_congr {α : Type} {p q : α → Bool} {l : List α} (h : ∀ x ∈ l, p x = q x) : countOf p l = countOf q l :=
  congrArg List.length (List.filter_congr h)

theorem returnParcels_parcels (s : State) : (returnParcels s).parcels = s.parcels.mapAll (fun _ p => p.unpacked) := rfl

/-- The DISPATCHED parcels are not changed by the return of the PACKING ones. -/
theorem dispatchedCount_returnParcels (s : State) : dispatchedCount (returnParcels s) = dispatchedCount s := by
  rw [dispatchedCount, returnParcels_parcels, countOf_mapAll]
  refine countOf_congr fun e _ => ?_
  unfold Parcel.unpacked
  split <;> simp_all

/-- A PACKING parcel of a begun group has its reserved place again (R126, R136). -/
theorem readyOfBegun_returnParcels (s : State) :
    readyOfBegun (returnParcels s) =
      countOf (fun e => (e.2.state == .ready || e.2.state == .packing) && groupBegun s e.2.group) s.parcels := by
  rw [readyOfBegun, returnParcels_parcels, countOf_mapAll]
  refine countOf_congr fun e _ => ?_
  have hgroup : ∀ g, groupBegun (returnParcels s) g = groupBegun s g := fun _ => rfl
  unfold Parcel.unpacked
  split
  · simp_all
  · rename_i hp
    have hp : (e.2.state == .packing) = false := beq_false_of_ne hp
    simp [hgroup, hp]

theorem afterReissue_todayCount (s : State) : (afterReissue s).todayCount = s.tally + dispatchedCount s :=
  congrArg (s.tally + ·) (dispatchedCount_returnParcels (returnPulls s))

theorem afterReissue_reservedCap (s : State) :
    (afterReissue s).reservedCap =
      countOf (fun e => (e.2.state == .ready || e.2.state == .packing) && groupBegun s e.2.group) s.parcels :=
  readyOfBegun_returnParcels (returnPulls s)

/-! ### The ports -/

/-- The level kinds are DUP-HALTED while halted, and POOL-LOW and POOL-CRITICAL of a class at or below its level (R75, R171). -/
theorem levelCondition_holds_iff (s : State) (n : Notice) :
    levelCondition s n = some true ↔
      (n = .dupHalted ∧ s.standing = .halted
        ∨ (∃ c, n = .poolLow c ∧ (s.blank.get c).length - s.reserved.get c ≤ s.settings.warn.get c)
        ∨ ∃ c, n = .poolCritical c ∧ (s.blank.get c).length - s.reserved.get c ≤ s.settings.critical.get c) := by
  cases n <;> simp [levelCondition, lowHolds, criticalHolds, freeBlanks]

theorem mem_levelsHolding (s : State) (l : Link) (n : Notice) :
    n ∈ levelsHolding s l ↔ n ∈ kindsOfLink l ∧ levelCondition s n = some true := by
  simp [levelsHolding]

/-- The level kinds that hold stand in ascending notice code and class. -/
theorem levelsHolding_pairwise (s : State) (l : Link) :
    (levelsHolding s l).Pairwise (fun a b => a.code < b.code ∨ a.code = b.code ∧ a.cls < b.cls) :=
  List.Pairwise.filter _ (by cases l <;> decide)

theorem startPorts_port (s : State) (l : Link) : (startPorts s).port l = Port.started (levelsHolding s l) := by
  cases l <;> rfl

/-! ### The scan's effects -/

/-- The figures that stand while the works are taken back and the jobs reissued. -/
theorem OnlyRestored.kept {s t : State} (h : OnlyRestored s t) :
    (t.virgin = s.virgin ∧ t.patrons = s.patrons ∧ t.titles = s.titles ∧ t.orders = s.orders ∧ t.groups = s.groups
      ∧ t.loans = s.loans ∧ t.counters = s.counters ∧ t.settings = s.settings ∧ t.day = s.day ∧ t.dayOpen = s.dayOpen
      ∧ t.tally = s.tally ∧ t.blank = s.blank ∧ t.standing = s.standing ∧ t.pullQueue = s.pullQueue
      ∧ t.dispatchQueue = s.dispatchQueue ∧ t.pending = s.pending)
    ∧ t.heldTotal = s.heldTotal ∧ t.tasks = s.tasks ∧ t.copySets = s.copySets ∧ t.parcels = s.parcels := by
  rw [h.eq]
  exact ⟨⟨rfl, rfl, rfl, rfl, rfl, rfl, rfl, rfl, rfl, rfl, rfl, rfl, rfl, rfl, rfl, rfl⟩, rfl, rfl, rfl, rfl⟩

/-- What of a job the scan leaves, by the state it finds it in (R77, R103). -/
theorem JobsRestored.get {s x : State} (h : JobsRestored s x) (n : Nat) :
    x.jobs.get n = match s.jobs.get n with
      | none => none
      | some j => match j.state with
        | .queued => some j
        | .starved => some j
        | .assigned _ _ => some { j with state := if getsAgain s n then .queued else .starved }
        | .cancelPending _ _ => if n ∈ (worksUnderWay s).filterMap writtenJob then none else some j := by
  cases hj : s.jobs.get n with
  | none => simp [h.others n (by simp [hj]), hj]
  | some j =>
    obtain ⟨stamp, order, patron, cls, titles, band, st, attempts⟩ := j
    cases st with
    | assigned b c => exact h.assigned n _ hj rfl
    | queued => simp [h.others n (by simp [hj, Job.isAssigned]), hj, Job.isCancelPending, Option.filter_some]
    | starved => simp [h.others n (by simp [hj, Job.isAssigned]), hj, Job.isCancelPending, Option.filter_some]
    | cancelPending b c =>
      rw [h.others n (by simp [hj, Job.isAssigned]), hj]
      by_cases hn : n ∈ (worksUnderWay s).filterMap writtenJob <;> simp [hn, Job.isCancelPending, Option.filter_some]

/-- Settles O14, from what the stages of the scan leave of each record. -/
theorem scanEffects : Obligations.ScanEffects := by
  refine ⟨fun s hr hv => ?_, fun s hr hv => ?_⟩
  · exact congrArg Host.Outcome.next ((if_pos hr).trans (runScan_virgin hv))
  intro busy assigned queuedOf free returned ofClass again
  have hrun : exec .startUpScan s =
      .next (startPorts { afterReissue (reissueJobs (beforeReissue s)) with restartAsserted := false }) := by
    refine congrArg Host.Outcome.next ((if_pos hr).trans ?_)
    rw [runScan, scanned_found hv, scanRecords_eq]
  have hbays := reissueJobs_bays s
  have hcarts := reissueJobs_carts_get s
  have hunwiped := reissueJobs_unwiped s
  have hjobs := fun h => jobsRestored (s := s) h
  have hframe := onlyRestored_reissueJobs s
  generalize reissueJobs (beforeReissue s) = x at hrun hbays hcarts hunwiped hjobs hframe
  obtain ⟨⟨hvirgin, hpatrons, htitles, horders, hgroups, hloans, hcounters, hsettings, hday, hopen, htally, hblank, hstanding,
    hpulls, hdispatch, hpending⟩, hheld, htasks, hsets, hparcels⟩ := hframe.kept
  refine ⟨_, hrun, rfl, hvirgin.trans hv, hpatrons, htitles, horders, hgroups, hloans, hcounters, hsettings, hday, hopen, htally,
    hblank, hstanding, hpulls, hdispatch, hpending, hcarts, hunwiped,
    fun h => ⟨(hjobs h).get, (hjobs h).reserved, (hjobs h).starved, (hjobs h).jobQueue⟩, ?_, ?_, ?_, ?_, ?_, ?_, hheld, ?_,
    rfl, rfl, rfl, rfl, rfl, rfl, ?_, ?_, fun l => ?_⟩
  · exact congrArg (fun ts => Table.mapAll ts fun _ t => t.returnedTask) htasks
  · refine (congrArg (fun cs => Table.mapAll cs fun _ c => { c with state := c.state.unpulled }) hsets).trans ?_
    refine Table.mapAll_congr fun e _ => ?_
    cases e.2.state <;> rfl
  · exact congrArg (fun ps => Table.mapAll ps fun _ p => p.unpacked) hparcels
  · exact (congrArg (List.map Bay.restsToday) hbays).trans (map_restored _ _ _ (fun _ => rfl) fun _ => rfl)
  · exact (congrArg (List.map Bay.condition) hbays).trans
      (map_restored _ _ _ (fun ⟨c, _, _⟩ => by cases c <;> rfl) fun ⟨c, _, _⟩ => by cases c <;> rfl)
  · intro i b hi hb
    refine (congrArg (fun bs : List Bay => bs[i]?.map Bay.last) hbays).trans ?_
    rw [getElem?_restored hi hb]
    rfl
  · exact congrArg (fun ps => Table.select ps fun _ p => p.wants && !p.wishes.isEmpty) hpatrons
  · refine (afterReissue_todayCount x).trans ?_
    rw [htally, dispatchedCount, hparcels]
    rfl
  · refine (afterReissue_reservedCap x).trans ?_
    simp only [groupBegun, hgroups, hparcels]
    rfl
  · exact ⟨_, startPorts_port _ l, fun n => (mem_levelsHolding _ l n).trans (and_congr_right fun _ =>
      levelCondition_holds_iff _ n), levelsHolding_pairwise _ l⟩

end Sys2Proof.Machine
end

section
/-! SUPPORT. What every operation of the part leaves of the ports (R167 to R171): a block answers nothing itself, it makes kinds
pending that the link carries, and it takes kinds off and lowers the bad-frame count at most. One lemma per operation, in the
order of the model. -/

namespace Sys2Proof.Machine

-- One declaration at a time: the check's memory does not hold many side by side.
set_option Elab.async false

/-! ### The relation -/

/-- A notice set of kinds the link carries, in ascending notice code and class (R170, R171). -/
def NoticesSound (l : Link) (ns : List Notice) : Prop :=
  ns.Pairwise (fun a b => a.code < b.code ∨ a.code = b.code ∧ a.cls < b.cls) ∧ ∀ n ∈ ns, n ∈ kindsOfLink l

/-- What a block leaves of a port of link `l`. -/
structure PortKept (l : Link) (p q : Port) : Prop where
  inProgress : q.inProgress = p.inProgress
  waiting : q.waiting = p.waiting
  sendList : q.sendList = p.sendList
  badFrames : q.badFrames ≤ p.badFrames
  notices : NoticesSound l p.notices → NoticesSound l q.notices

theorem PortKept.refl (l : Link) (p : Port) : PortKept l p p :=
  ⟨rfl, rfl, rfl, le_rfl, id⟩

theorem PortKept.trans {l : Link} {p q r : Port} (h : PortKept l p q) (h' : PortKept l q r) : PortKept l p r :=
  ⟨h'.inProgress.trans h.inProgress, h'.waiting.trans h.waiting, h'.sendList.trans h.sendList,
    h'.badFrames.trans h.badFrames, h'.notices ∘ h.notices⟩

/-- What a block leaves of every port, and of the running pass. A field left out is one the operation does not touch. -/
structure PortsKept (s t : State) : Prop where
  running : t.running = s.running := by exact rfl
  ports : ∀ l, PortKept l (s.port l) (t.port l) := by exact fun l => .refl l _

theorem PortsKept.refl (s : State) : PortsKept s s := {}

theorem PortsKept.trans {s t u : State} (h : PortsKept s t) (h' : PortsKept t u) : PortsKept s u where
  running := h'.running.trans h.running
  ports l := (h.ports l).trans (h'.ports l)

theorem PortsKept.foldl {α : Type} {f : State → α → State} (h : ∀ s x, PortsKept s (f s x)) (l : List α) (s : State) :
    PortsKept s (l.foldl f s) := by
  induction l generalizing s with
  | nil => exact .refl s
  | cons x l ih => exact (h s x).trans (ih _)

theorem PortsKept.foldl_fst {α β : Type} {f : State × β → α → State × β} (h : ∀ a x, PortsKept a.1 (f a x).1) (l : List α)
    (a : State × β) : PortsKept a.1 (l.foldl f a).1 := by
  induction l generalizing a with
  | nil => exact .refl a.1
  | cons x l ih => exact (h a x).trans (ih _)

theorem PortsKept.ite {c : Prop} [Decidable c] {s t u : State} (ht : PortsKept s t) (hu : PortsKept s u) :
    PortsKept s (if c then t else u) := by
  split
  · exact ht
  · exact hu

theorem OnlyParcels.portsKept {s t : State} (h : OnlyParcels s t) : PortsKept s t := by
  rw [OnlyParcels] at h
  rw [h]
  exact {}

/-! ### Notices -/

theorem Notice.before_iff (a b : Notice) : a.before b = true ↔ a.code < b.code ∨ a.code = b.code ∧ a.cls < b.cls := by
  simp [Notice.before]

/-- A notice code and class name one kind (R171). -/
theorem Notice.eq_of_code {a b : Notice} (hcode : a.code = b.code) (hcls : a.cls = b.cls) : a = b := by
  have hclass : ∀ {c d : Cls}, clsCode c = clsCode d → c = d := fun {c d} h => by
    cases c <;> cases d <;> first | rfl | cases h
  cases a <;> cases b <;> first | rfl | exact congrArg _ (hclass hcls) | cases hcode

/-- A kind put at its place among kinds in ascending order leaves them so. -/
theorem pairwise_insertNotice {n : Notice} {ns : List Notice}
    (h : ns.Pairwise (fun a b => a.code < b.code ∨ a.code = b.code ∧ a.cls < b.cls)) (hn : n ∉ ns) :
    (insertBefore Notice.before n ns).Pairwise (fun a b => a.code < b.code ∨ a.code = b.code ∧ a.cls < b.cls) := by
  induction ns with
  | nil => simp [insertBefore]
  | cons m ns ih =>
    rw [List.pairwise_cons] at h
    obtain ⟨hm, hns⟩ := h
    rw [List.mem_cons, not_or] at hn
    rw [insertBefore]
    split
    · rename_i hb
      rw [Notice.before_iff] at hb
      refine List.pairwise_cons.2 ⟨fun k hk => ?_, List.pairwise_cons.2 ⟨hm, hns⟩⟩
      rcases List.mem_cons.1 hk with rfl | hk
      · exact hb
      · have := hm k hk
        omega
    · rename_i hb
      rw [Notice.before_iff] at hb
      have hne : ¬ (n.code = m.code ∧ n.cls = m.cls) := fun h => hn.1 (Notice.eq_of_code h.1 h.2)
      refine List.pairwise_cons.2 ⟨fun k hk => ?_, ih hns hn.2⟩
      rcases (mem_insertBefore _ _ _ _).1 hk with rfl | hk
      · omega
      · exact hm k hk

/-- A notice set with a kind of its link made pending is a notice set of the link (R171). -/
theorem NoticesSound.add {l : Link} {ns : List Notice} (h : NoticesSound l ns) {n : Notice} (hn : n ∈ kindsOfLink l) :
    NoticesSound l (addNotice ns n) := by
  refine ⟨?_, fun k hk => ?_⟩
  · rw [addNotice]
    split
    · exact h.1
    · rename_i hnot
      exact pairwise_insertNotice h.1 hnot
  · rcases (mem_addNotice ns n k).1 hk with rfl | hk
    · exact hn
    · exact h.2 k hk

theorem NoticesSound.sublist {l : Link} {ns ms : List Notice} (h : NoticesSound l ns) (hs : ms.Sublist ns) :
    NoticesSound l ms :=
  ⟨h.1.sublist hs, fun n hn => h.2 n (hs.subset hn)⟩

/-- One port changed in place. -/
theorem onPort_portsKept {l : Link} {f : Port → Port} (s : State) (h : PortKept l (s.port l) (f (s.port l))) :
    PortsKept s (s.onPort l f) where
  ports m := by
    by_cases hm : m = l
    · subst hm
      simpa [State.onPort, State.port] using h
    · simpa [State.onPort, State.port, hm] using PortKept.refl m _

theorem raise_portsKept {l : Link} {n : Notice} (h : n ∈ kindsOfLink l) (s : State) : PortsKept s (raise l n s) :=
  onPort_portsKept s ⟨rfl, rfl, rfl, le_rfl, fun hn => hn.add h⟩

theorem raiseIf_portsKept {l : Link} {n : Notice} (h : n ∈ kindsOfLink l) (b : Bool) (s : State) :
    PortsKept s (raiseIf b l n s) :=
  .ite (raise_portsKept h s) (.refl s)

theorem poolLow_mem (c : Cls) : .poolLow c ∈ kindsOfLink .duplication := by
  cases c <;> decide

theorem poolCritical_mem (c : Cls) : .poolCritical c ∈ kindsOfLink .order ∧ .poolCritical c ∈ kindsOfLink .duplication := by
  cases c <;> decide

theorem levelNotices_portsKept (s0 : State) (c : Cls) (s : State) : PortsKept s (levelNotices s0 c s) :=
  ((raiseIf_portsKept (poolLow_mem c) _ s).trans (raiseIf_portsKept (poolCritical_mem c).1 _ _)).trans
    (raiseIf_portsKept (poolCritical_mem c).2 _ _)

theorem conditionNotices_portsKept (s0 s : State) : PortsKept s (conditionNotices s0 s) :=
  have hwork := raiseIf_portsKept (l := .duplication) (n := .workWaiting) (by decide) (workWaitingDue s0 s) s
  have hpull := hwork.trans (raiseIf_portsKept (l := .mailroom) (n := .pullWaiting) (by decide) (pullWaitingDue s0 s) _)
  have hparcel := hpull.trans (raiseIf_portsKept (l := .mailroom) (n := .parcelWaiting) (by decide) (parcelWaitingDue s0 s) _)
  (hparcel.trans (levelNotices_portsKept s0 .c1 _)).trans
    ((levelNotices_portsKept s0 .c2 _).trans (levelNotices_portsKept s0 .c3 _))

/-! ### Patrons, wish lists and waiting lists -/

theorem appendPassOpen_portsKept (n : Nat) (s : State) : PortsKept s (appendPassOpen n s) := by
  rw [appendPassOpen_frame]
  exact {}

theorem lowerHeld_portsKept (n k : Nat) (s : State) : PortsKept s (lowerHeld n k s) := by
  rw [lowerHeld_frame]
  exact {}

theorem freeIfDone_portsKept (n : Nat) (s : State) : PortsKept s (freeIfDone n s) := by
  rw [freeIfDone_frame]
  exact {}

theorem suspensionCheck_portsKept (n : Nat) (s : State) : PortsKept s (suspensionCheck n s) := by
  unfold suspensionCheck
  split
  · split
    · exact .trans {} (raise_portsKept (by decide) _)
    · split
      · exact {}
      · exact .refl s
  · exact .refl s

theorem leaveWaitingAll_portsKept (n : Nat) (ws : List WishEntry) (s : State) : PortsKept s (leaveWaitingAll n ws s) := by
  rw [leaveWaitingAll_frame]
  exact {}

theorem returnEntries_portsKept (n : Nat) (entries : List WishEntry) (s : State) :
    PortsKept s (returnEntries n entries s) := by
  rw [returnEntries_frame]
  exact {}

/-! ### Write jobs, cartridges, pools and blocked lists -/

theorem needBlank_portsKept (n : Nat) (s : State) : PortsKept s (needBlank n s) := by
  rw [needBlank_frame]
  exact {}

theorem claimStarved_portsKept (c : Cls) (s : State) : PortsKept s (claimStarved c s) := by
  rw [claimStarved_frame]
  exact {}

theorem toUnwiped_portsKept (serial : Nat) (s : State) : PortsKept s (toUnwiped serial s) := by
  rw [toUnwiped_frame]
  exact {}

theorem faultCart_portsKept (serial : Nat) (s : State) : PortsKept s (faultCart serial s) := by
  rw [faultCart_frame]
  exact {}

theorem wipedCart_portsKept (serial : Nat) (s : State) : PortsKept s (wipedCart serial s) := by
  rw [wipedCart_frame]
  exact {}

theorem releaseLists_portsKept (s0 s : State) : PortsKept s (releaseLists s0 s) := by
  rw [releaseLists_frame]
  exact {}

/-! ### Copy sets, orders, parcels and loans -/

theorem makeAvailable_portsKept (n : Nat) (s : State) : PortsKept s (makeAvailable n s) := by
  rw [makeAvailable_frame]
  exact {}

theorem makeIncomplete_portsKept (n : Nat) (missing : List Nat) (s : State) : PortsKept s (makeIncomplete n missing s) := by
  rw [makeIncomplete_frame]
  exact {}

theorem completeOrder_portsKept (n : Nat) (s : State) : PortsKept s (completeOrder n s) := by
  rw [completeOrder_frame]
  exact {}

theorem itemReady_portsKept (order place : Nat) (s : State) : PortsKept s (itemReady order place s) :=
  .trans {} (serveBacklog_frame _).portsKept

theorem lendItem_portsKept (order : Nat) (o : Order) (i : Item) (acc : State × List Nat) :
    PortsKept acc.1 (lendItem order o i acc).1 := by
  unfold lendItem
  split
  · exact .refl acc.1
  · unfold lendObject
    split <;> exact {}

theorem createLoans_portsKept (g : Nat) (s : State) : PortsKept s (createLoans g s).1 := by
  unfold createLoans
  split
  · exact .refl s
  · split
    · exact .refl s
    · split
      · exact .refl s
      · split
        · exact {}
        · exact (PortsKept.foldl_fst (fun a i => lendItem_portsKept _ _ i a) _ (s, [])).trans
            (.trans {} (completeOrder_portsKept _ _))

/-! ### Drops and cancellation -/

theorem dropForPatron_portsKept (patron : Nat) (entries : List WishEntry) (s : State) :
    PortsKept s (dropForPatron patron entries s) := by
  unfold dropForPatron
  refine (lowerHeld_portsKept patron 1 s).trans
    (.trans ?_ ((raise_portsKept (l := .order) (n := .itemDropped) (by decide) _).trans (freeIfDone_portsKept _ _)))
  split
  · exact (returnEntries_portsKept _ _ _).trans {}
  · exact .refl _

theorem dropItem_portsKept (order place : Nat) (s : State) : PortsKept s (dropItem order place s) := by
  unfold dropItem
  split
  · exact .refl s
  · split
    · exact .refl s
    · have hdrop := fun patron entries =>
        (dropForPatron_portsKept patron entries (removeItem order place s)).trans (completeOrder_portsKept order _)
      exact .trans {} ((hdrop _ _).trans (releaseTogether_frame _ _).portsKept)

theorem removeParcel_portsKept (n : Nat) (s : State) : PortsKept s (removeParcel n s) := by
  unfold removeParcel
  split
  · exact .refl s
  · unfold leaveGroup
    split
    · split <;> exact {}
    · exact {}

theorem takeCartFromParcel_portsKept (serial n : Nat) (s : State) : PortsKept s (takeCartFromParcel serial n s) := by
  unfold takeCartFromParcel
  split
  · split
    · split
      · exact removeParcel_portsKept _ s
      · exact {}
    · exact .refl s
  · exact .refl s

theorem cancelJob_portsKept (n : Nat) (s : State) : PortsKept s (cancelJob n s) := by
  rw [cancelJob_frame]
  exact {}

theorem cancelObject_portsKept (order : Nat) (o : ItemObject) (s : State) : PortsKept s (cancelObject order o s) := by
  cases o with
  | job n => exact cancelJob_portsKept n s
  | cart serial =>
    exact (PortsKept.foldl (fun u n => takeCartFromParcel_portsKept serial n u) _ s).trans (toUnwiped_portsKept _ _)
  | copySet n =>
    have htask : ∀ u, PortsKept u (freeTaskOfSet n u) := fun u => by
      unfold freeTaskOfSet
      split <;> exact {}
    exact (PortsKept.foldl (fun u m => removeParcel_portsKept m u) _ s).trans ((htask _).trans (makeAvailable_portsKept _ _))

theorem cancelItem_portsKept (order patron : Nat) (i : Item) (s : State) : PortsKept s (cancelItem order patron i s) :=
  (cancelObject_portsKept _ _ s).trans (.trans {} (lowerHeld_portsKept _ _ _))

theorem restoreEntries_portsKept (patron : Nat) (entries : List WishEntry) (s : State) :
    PortsKept s (restoreEntries patron entries s) := by
  rw [restoreEntries_frame]
  exact {}

theorem settleOrder_portsKept (order patron : Nat) (s : State) : PortsKept s (settleOrder order patron s) :=
  ((releaseTogether_frame order s).portsKept.trans (PortsKept.foldl (fun u g => createLoans_portsKept g u) _ _)).trans
    ((completeOrder_portsKept _ _).trans (freeIfDone_portsKept _ _))

theorem cancelOrder_portsKept (restore : Bool) (order : Nat) (s : State) :
    PortsKept s (cancelOrder restore order s).1 := by
  unfold cancelOrder
  split
  · exact .refl s
  · have hitems := fun patron (gone : List Item) =>
      PortsKept.foldl (fun u (i : Item) => cancelItem_portsKept order patron i u) gone s
    exact .trans (.ite ((hitems _ _).trans (restoreEntries_portsKept _ _ _)) (hitems _ _)) (settleOrder_portsKept _ _ _)

theorem cancelOrders_portsKept (restore : Bool) (orders : List Nat) (s : State) :
    PortsKept s (cancelOrders restore orders s).1 := by
  induction orders generalizing s with
  | nil => exact .refl s
  | cons n rest ih => exact (cancelOrder_portsKept restore n s).trans (ih _)

theorem cancelAll_portsKept (restore : Bool) (orders : List Nat) (s : State) :
    PortsKept s (cancelAll restore orders s).1 :=
  (cancelOrders_portsKept restore orders s).trans (serveBacklog_frame _).portsKept

theorem closeRecord_portsKept (n : Nat) (s : State) : PortsKept s (closeRecord n s) := by
  unfold closeRecord
  split
  · exact .refl s
  · exact (leaveWaitingAll_portsKept n _ s).trans {}

/-! ### Bays -/

theorem haltCheck_portsKept (s : State) : PortsKept s (haltCheck s) := by
  unfold haltCheck
  split
  · exact .trans {} ((raise_portsKept (l := .order) (n := .dupHalted) (by decide) _).trans (raise_portsKept (by decide) _))
  · exact .refl s

theorem startRest_portsKept (n : Nat) (b : Bay) (s : State) : PortsKept s (startRest n b s) := by
  unfold startRest
  split
  · exact .trans {} (raise_portsKept (by decide) _)
  · exact .trans {} ((raise_portsKept (l := .duplication) (n := .bayFailed) (by decide) _).trans (haltCheck_portsKept _))

theorem countBadOutcome_portsKept (n : Nat) (s : State) : PortsKept s (countBadOutcome n s) := by
  unfold countBadOutcome
  split
  · split
    · exact startRest_portsKept _ _ s
    · split
      · exact startRest_portsKept _ _ s
      · exact {}
    · exact .refl s
  · exact .refl s

theorem countOutcome_portsKept (good : Bool) (n : Nat) (s : State) : PortsKept s (countOutcome good n s) := by
  cases good with
  | true => exact (by rw [countGood_frame]; exact {} : PortsKept s (countGood n s))
  | false => exact countBadOutcome_portsKept n s

theorem idleBay_portsKept (n : Nat) (k : WorkKind) (serial : Nat) (e : Ending) (s : State) :
    PortsKept s (idleBay n k serial e s) := by
  rw [idleBay_frame]
  exact {}

theorem freeJobIn_portsKept (s0 : State) (job : Nat) (s : State) : PortsKept s (freeJobIn s0 job s) :=
  .trans {} (releaseLists_portsKept s0 _)

theorem writeFails_portsKept (s0 : State) (job serial : Nat) (j : Job) (s : State) :
    PortsKept s (writeFails s0 job serial j s) :=
  (faultCart_portsKept serial s).trans
    (.ite ((freeJobIn_portsKept s0 job _).trans (dropItem_portsKept _ _ _)) (.trans {} (needBlank_portsKept _ _)))

theorem writeEffects_portsKept (s0 : State) (good : Bool) (job serial : Nat) (s : State) :
    PortsKept s (writeEffects s0 good job serial s) := by
  unfold writeEffects
  split
  · exact .refl s
  · split
    · exact .trans {} ((freeJobIn_portsKept s0 job _).trans (itemReady_portsKept _ _ _))
    · exact writeFails_portsKept _ _ _ _ s
    · exact (toUnwiped_portsKept _ s).trans (freeJobIn_portsKept _ _ _)
    · exact (faultCart_portsKept _ s).trans (freeJobIn_portsKept _ _ _)
    · exact .refl s

theorem wipeEffects_portsKept (s0 : State) (good : Bool) (serial : Nat) (s : State) :
    PortsKept s (wipeEffects s0 good serial s) :=
  .ite ((wipedCart_portsKept serial s).trans (releaseLists_portsKept s0 _)) (faultCart_portsKept serial s)

theorem finishWrite_portsKept (n job serial : Nat) (good : Bool) (e : Ending) (s : State) :
    PortsKept s (finishWrite n job serial good e s) :=
  (idleBay_portsKept _ _ _ _ s).trans ((writeEffects_portsKept _ _ _ _ _).trans (countOutcome_portsKept _ _ _))

theorem finishWipe_portsKept (n serial : Nat) (good : Bool) (e : Ending) (s : State) :
    PortsKept s (finishWipe n serial good e s) :=
  (idleBay_portsKept _ _ _ _ s).trans ((wipeEffects_portsKept _ _ _ _).trans (countOutcome_portsKept _ _ _))

theorem faultBay_portsKept (n : Nat) (b : Bay) (s : State) : PortsKept s (faultBay n b s) := by
  unfold faultBay
  split
  · exact finishWrite_portsKept _ _ _ _ _ s
  · exact finishWipe_portsKept _ _ _ _ s
  · exact countOutcome_portsKept _ _ s

theorem abandonActivity_portsKept (n : Nat) (b : Bay) (s : State) : PortsKept s (abandonActivity n b s) := by
  have hwrite : ∀ job serial u, PortsKept u (abandonWrite s job serial u) := fun job serial u => by
    refine (toUnwiped_portsKept serial u).trans ?_
    unfold abandonWrite
    dsimp only
    split
    · exact freeJobIn_portsKept _ _ _
    · exact needBlank_portsKept _ _
  unfold abandonActivity
  split
  · exact (idleBay_portsKept _ _ _ _ s).trans (hwrite _ _ _)
  · exact (idleBay_portsKept _ _ _ _ s).trans (toUnwiped_portsKept _ _)
  · exact .refl s

theorem setCondition_portsKept (n : Nat) (c : Condition) (s : State) : PortsKept s (setCondition n c s) := by
  unfold setCondition
  split <;> exact {}

theorem arbitrate_portsKept (n : Nat) (b : Bay) (s : State) : PortsKept s (arbitrate n b s).state := by
  have hwipe : ∀ serial, PortsKept s (assignWipe n b serial s) := fun serial => by
    unfold assignWipe
    split <;> exact {}
  have hwrite : ∀ job j serial, PortsKept s (assignWrite n b job j serial s) := fun job j serial => by
    unfold assignWrite
    split <;> exact {}
  unfold arbitrate
  split
  · exact hwipe _
  · exact hwrite _ _ _
  · exact hwipe _
  · exact .refl s

theorem expireDeadline_portsKept (n : Nat) (s : State) : PortsKept s (expireDeadline n s) := by
  unfold expireDeadline
  split
  · split
    · exact finishWrite_portsKept _ _ _ _ _ s
    · exact finishWipe_portsKept _ _ _ _ s
    · exact .refl s
  · exact .refl s

theorem expireRest_portsKept (n : Nat) (s : State) : PortsKept s (expireRest n s) := by
  unfold expireRest
  split
  · exact .ite {} (.refl s)
  · exact .refl s

/-! ### The calendar and check-in -/

theorem closeLoan_portsKept (n m : Nat) (s : State) : PortsKept s (closeLoan n m s) := by
  rw [closeLoan_frame]
  exact {}

theorem closeLost_portsKept (n : Nat) (s : State) : PortsKept s (closeLost n s) := by
  unfold closeLost loseObject
  split
  · refine .trans ?_ (closeLoan_portsKept _ _ _)
    split
    · exact {}
    · exact makeIncomplete_portsKept _ _ s
  · exact .refl s

theorem closeGrace_portsKept (n : Nat) (s : State) : PortsKept s (closeGrace n s) := by
  unfold closeGrace missObject
  split
  · refine .trans ?_ (closeLoan_portsKept _ _ _)
    split
    · exact makeIncomplete_portsKept _ _ s
    · exact .refl s
  · exact .refl s

theorem closeDue_portsKept (s : State) : PortsKept s (closeDue s) :=
  (PortsKept.foldl (fun u n => closeLost_portsKept n u) _ s).trans (PortsKept.foldl (fun u n => closeGrace_portsKept n u) _ _)

theorem endPause_portsKept (n : Nat) (p : Patron) (s : State) : PortsKept s (endPause n p s) :=
  .ite (.trans {} (raise_portsKept (by decide) _)) {}

theorem dayPatron_portsKept (day : Nat) (checked closers : List Nat) (n : Nat) (s : State) :
    PortsKept s (dayPatron day checked closers n s) := by
  unfold dayPatron
  split
  · exact .refl s
  · exact (PortsKept.ite (endPause_portsKept n _ s) (.refl s)).trans
      ((PortsKept.ite (suspensionCheck_portsKept n _) (.refl _)).trans (.ite (appendPassOpen_portsKept n _) (.refl _)))

theorem dayPatrons_portsKept (day : Nat) (checked closers : List Nat) (s : State) :
    PortsKept s (dayPatrons day checked closers s) :=
  PortsKept.foldl (fun u n => dayPatron_portsKept day checked closers n u) _ s

theorem advanceDay_portsKept (isOpen : Bool) (s : State) : PortsKept s (advanceDay isOpen s) := by
  unfold advanceDay
  dsimp only
  split
  · exact .trans {} ((closeDue_portsKept _).trans (dayPatrons_portsKept _ _ _ _))
  · exact .trans {} (dayPatrons_portsKept _ _ _ _)

theorem dayNotices_portsKept (lost graced : Nat) (s : State) : PortsKept s (dayNotices lost graced s) :=
  (raiseIf_portsKept (l := .order) (n := .loansLost) (by decide) _ s).trans
    ((raiseIf_portsKept (l := .returns) (n := .loansLost) (by decide) _ _).trans (raiseIf_portsKept (by decide) _ _))

theorem checkInLoan_portsKept (n : Nat) (l : Loan) (s : State) : PortsKept s (checkInLoan n l s) := by
  have hclosed := (closeLoan_portsKept n l.patron s).trans (appendPassOpen_portsKept l.patron _)
  exact .ite (hclosed.trans (suspensionCheck_portsKept l.patron _)) hclosed

/-! ### Requests of every link and of the Order link -/

theorem takeStatus_portsKept (l : Link) (s : State) : PortsKept s (takeStatus l s).state :=
  onPort_portsKept (f := fun q => { q with badFrames := 0, notices := q.notices.filter (fun n => !isEvent s n) }) s
    ⟨rfl, rfl, rfl, Nat.zero_le _, fun h => h.sublist List.filter_sublist⟩

theorem takeNoticeAck_portsKept (l : Link) (code cls : Nat) (s : State) : PortsKept s (takeNoticeAck l code cls s).state := by
  unfold takeNoticeAck
  split
  · exact .refl s
  · split
    · exact .refl s
    · split
      · exact .refl s
      · rename_i n _ _ _
        exact onPort_portsKept (f := fun q => { q with notices := q.notices.erase n }) s
          ⟨rfl, rfl, rfl, le_rfl, fun h => h.sublist List.erase_sublist⟩

theorem storePatron_portsKept (n : Nat) (p : Patron) (clamped : Bool) (s : State) :
    PortsKept s (storePatron n p clamped s).state :=
  .ite {} {}

theorem takePatronSet_portsKept (n a t k m : Nat) (s : State) : PortsKept s (takePatronSet n a t k m s).state := by
  unfold takePatronSet
  dsimp only
  split
  · exact .refl s
  · split
    · exact storePatron_portsKept _ _ _ s
    · split
      · exact .refl s
      · exact .trans {} (storePatron_portsKept n _ _ _)

theorem takePatronPause_portsKept (n untilDay : Nat) (s : State) : PortsKept s (takePatronPause n untilDay s).state := by
  unfold takePatronPause
  split
  · exact .refl s
  · dsimp only
    split <;> exact {}

theorem takePatronResume_portsKept (n : Nat) (s : State) : PortsKept s (takePatronResume n s).state := by
  unfold takePatronResume
  split
  · exact .refl s
  · split
    · exact .refl s
    · exact .refl s
    · exact .refl s
    · exact endPause_portsKept _ _ s

theorem takePatronClose_portsKept (n : Nat) (s : State) : PortsKept s (takePatronClose n s).state := by
  unfold takePatronClose
  split
  · exact .refl s
  · split
    · exact .refl s
    · exact (cancelAll_portsKept _ _ s).trans ((closeRecord_portsKept _ _).trans (freeIfDone_portsKept _ _))

theorem takePatronRead_portsKept (n : Nat) (s : State) : PortsKept s (takePatronRead n s).state := by
  unfold takePatronRead
  split <;> exact .refl s

theorem addWish_portsKept (n : Nat) (p : Patron) (w : WishEntry) (s : State) : PortsKept s (addWish n p w s) := by
  have hput : PortsKept s (s.putPatron n { p with wishes := addAtTail w p.wishes }) := {}
  exact (hput.trans (.ite {} (.refl _))).trans (.ite {} (.refl _))

theorem takeWishAdd_portsKept (n t f b : Nat) (s : State) : PortsKept s (takeWishAdd n t f b s).state := by
  unfold takeWishAdd
  split
  · exact .refl s
  · split
    · exact .refl s
    · split
      · split
        · exact .refl s
        · exact addWish_portsKept _ _ _ s
      · exact .refl s

theorem takeWishDrop_portsKept (n t f : Nat) (s : State) : PortsKept s (takeWishDrop n t f s).state := by
  unfold takeWishDrop
  split
  · exact .refl s
  · exact .ite {} {}

theorem takeWishMove_portsKept (n t f b pos : Nat) (s : State) : PortsKept s (takeWishMove n t f b pos s).state := by
  unfold takeWishMove
  split
  · exact .refl s
  · exact .ite {} {}

theorem takeWishRead_portsKept (n : Nat) (s : State) : PortsKept s (takeWishRead n s).state := by
  unfold takeWishRead
  split
  · exact .refl s
  · split <;> exact .refl s

theorem takeTitleSet_portsKept (t : Nat) (ia : ImageAction) (ba : BrailleAction) (s : State) :
    PortsKept s (takeTitleSet t ia ba s).state := by
  unfold takeTitleSet
  split <;> exact {}

theorem takeTitleWithdraw_portsKept (t : Nat) (s : State) : PortsKept s (takeTitleWithdraw t s).state := by
  unfold takeTitleWithdraw
  split
  · exact .refl s
  · split <;> exact {}

theorem takeCopysetAdd_portsKept (t : Nat) (s : State) : PortsKept s (takeCopysetAdd t s).state := by
  unfold takeCopysetAdd
  split
  · exact .refl s
  · split_ifs
    · exact .refl s
    · exact .refl s
    · exact .refl s
    · exact .refl s
    · exact .trans {} (makeAvailable_portsKept _ _)

theorem takeLoanRead_portsKept (sel : LoanSelector) (s : State) : PortsKept s (takeLoanRead sel s).state := by
  unfold takeLoanRead
  split <;> split <;> exact .refl s

theorem takeRenew_portsKept (n : Nat) (s : State) : PortsKept s (takeRenew n s).state := by
  unfold takeRenew
  split
  · exact .refl s
  · split <;> exact {}

theorem takeOrderCancel_portsKept (n order flag : Nat) (s : State) : PortsKept s (takeOrderCancel n order flag s).state := by
  unfold takeOrderCancel
  split
  · exact .refl s
  · split
    · exact .refl s
    · exact cancelAll_portsKept _ _ s

theorem takeNewDay_portsKept (code : Nat) (s : State) : PortsKept s (takeNewDay code s).state := by
  unfold takeNewDay
  split
  · exact .refl s
  · exact (advanceDay_portsKept _ s).trans (dayNotices_portsKept _ _ _)

theorem takeServiceSet_portsKept (ident v : Nat) (s : State) : PortsKept s (takeServiceSet ident v s).state := by
  unfold takeServiceSet
  split
  · exact .refl s
  · have hchecks : ∀ u, PortsKept u (suspendAfterChecks u) := fun u =>
      PortsKept.foldl (fun v n => suspensionCheck_portsKept n v) _ u
    exact .trans {} (.ite (hchecks _) (.refl _))

theorem raisePoolLevels_portsKept (c : Cls) (s : State) : PortsKept s (raisePoolLevels c s) :=
  (raise_portsKept (poolLow_mem c) s).trans
    ((raise_portsKept (poolCritical_mem c).1 _).trans (raise_portsKept (poolCritical_mem c).2 _))

/-- STORE-CLEAR empties the Selection Engine, so that the pass that ran is not kept. -/
theorem takeStoreClear_portKept (s : State) (l : Link) : PortKept l (s.port l) ((takeStoreClear s).state.port l) := by
  unfold takeStoreClear
  split
  · exact .refl l _
  · exact (PortsKept.foldl (fun u c => raisePoolLevels_portsKept c u) allClasses (clearStore s)).ports l

/-! ### Requests of the Duplication link -/

theorem takeCartEnrol_portsKept (serial c : Nat) (s : State) : PortsKept s (takeCartEnrol serial c s).state := by
  unfold takeCartEnrol
  split
  · exact .refl s
  · split
    · exact .refl s
    · split <;> exact {}

theorem takeCartForget_portsKept (serial : Nat) (s : State) : PortsKept s (takeCartForget serial s).state := by
  unfold takeCartForget
  split
  · exact .refl s
  · split <;> exact {}

theorem takePoolSet_portsKept (c warn critical : Nat) (s : State) : PortsKept s (takePoolSet c warn critical s).state := by
  unfold takePoolSet
  split
  · exact .refl s
  · exact .trans {} (releaseLists_portsKept s _)

theorem bayCheck_portsKept {n : Nat} {s : State} {take : Bay → Taken} (h : ∀ b, PortsKept s (take b).state) :
    PortsKept s (bayCheck n s take).state := by
  unfold bayCheck
  split
  · exact .refl s
  · split
    · exact .refl s
    · exact h _

theorem takeBayRead_portsKept (n : Nat) (s : State) : PortsKept s (takeBayRead n s).state := by
  unfold takeBayRead
  split <;> exact .refl s

theorem takeBayOnline_portsKept (n : Nat) (s : State) : PortsKept s (takeBayOnline n s).state := by
  unfold takeBayOnline
  split
  · exact .refl s
  · split <;> exact {}

theorem takeBayOffline_portsKept (n : Nat) (s : State) : PortsKept s (takeBayOffline n s).state :=
  bayCheck_portsKept fun b => (abandonActivity_portsKept n b s).trans (setCondition_portsKept n _ _)

theorem takeBayRestore_portsKept (n : Nat) (s : State) : PortsKept s (takeBayRestore n s).state :=
  bayCheck_portsKept fun b => by
    split <;> exact {}

theorem takeDupRestart_portsKept (s : State) : PortsKept s (takeDupRestart s).state := by
  unfold takeDupRestart
  split
  · have hrelease : ∀ c u, PortsKept u (releaseList c u) := fun c u => {}
    have hrun : PortsKept s { s with standing := .running } := {}
    exact (hrun.trans ((hrelease .c1 _).trans ((hrelease .c2 _).trans (hrelease .c3 _)))).trans {}
  · exact .refl s

theorem takeWork_portsKept (n : Nat) (s : State) : PortsKept s (takeWork n s).state :=
  bayCheck_portsKept fun b => by
    split
    · exact arbitrate_portsKept n b s
    · exact .refl s

theorem takeWriteDone_portsKept (n serial code : Nat) (s : State) : PortsKept s (takeWriteDone n serial code s).state :=
  bayCheck_portsKept fun b => by
    split
    · exact .refl s
    · split
      · split
        · exact finishWrite_portsKept _ _ _ _ _ s
        · exact .refl s
      · exact .refl s

theorem takeWipeDone_portsKept (n serial code : Nat) (s : State) : PortsKept s (takeWipeDone n serial code s).state :=
  bayCheck_portsKept fun b => by
    split
    · exact .refl s
    · split
      · split
        · exact finishWipe_portsKept _ _ _ _ s
        · exact .refl s
      · exact .refl s

theorem takeBayFault_portsKept (n : Nat) (s : State) : PortsKept s (takeBayFault n s).state :=
  bayCheck_portsKept fun b => by
    split
    · exact faultBay_portsKept n b s
    · exact .refl s

/-! ### Requests of the Mailroom link -/

theorem takeNextPull_portsKept (s : State) : PortsKept s (takeNextPull s).state := by
  unfold takeNextPull
  split
  · exact .refl s
  · split
    · exact .refl s
    · split <;> exact {}

theorem takePulled_portsKept (n : Nat) (s : State) : PortsKept s (takePulled n s).state := by
  unfold takePulled
  split
  · exact .refl s
  · split
    · exact .refl s
    · exact .trans {} (itemReady_portsKept _ _ _)

theorem takeNotFound_portsKept (n : Nat) (s : State) : PortsKept s (takeNotFound n s).state := by
  unfold takeNotFound
  split
  · exact .refl s
  · split
    · exact .refl s
    · exact .trans {} ((makeIncomplete_portsKept _ _ _).trans (dropItem_portsKept _ _ _))

theorem takeSetFound_portsKept (set : Nat) (s : State) : PortsKept s (takeSetFound set s).state := by
  unfold takeSetFound
  split
  · exact .refl s
  · split
    · exact makeAvailable_portsKept set s
    · exact .refl s

theorem takeNextParcel_portsKept (s : State) : PortsKept s (takeNextParcel s).state := by
  unfold takeNextParcel
  split
  · exact .refl s
  · split
    · exact .refl s
    · split
      · exact .refl s
      · split
        · exact .refl s
        · split <;> exact {}

theorem takePacked_portsKept (n : Nat) (s : State) : PortsKept s (takePacked n s).state := by
  unfold takePacked
  split
  · exact .refl s
  · split
    · exact .refl s
    · dsimp only
      split
      · exact .trans {} ((createLoans_portsKept _ _).trans (serveBacklog_frame _).portsKept)
      · exact {}

theorem takeUnpack_portsKept (n : Nat) (s : State) : PortsKept s (takeUnpack n s).state := by
  unfold takeUnpack
  split
  · exact .refl s
  · split <;> exact {}

/-! ### Requests of the Returns link -/

theorem takeCartIn_portsKept (serial : Nat) (s : State) : PortsKept s (takeCartIn serial s).state := by
  unfold takeCartIn
  split
  · exact .refl s
  · split
    · split
      · exact (toUnwiped_portsKept serial s).trans (checkInLoan_portsKept _ _ _)
      · exact .refl s
    · exact toUnwiped_portsKept serial s
    · exact .refl s
    · exact .refl s

theorem volInOnLoan_portsKept (set n : Nat) (l : Loan) (v count : Nat) (s : State) :
    PortsKept s (volInOnLoan set n l v count s).state := by
  have hclose : PortsKept s (closeSetLoan set n l s) :=
    (makeAvailable_portsKept set s).trans (checkInLoan_portsKept n l _)
  unfold volInOnLoan
  split
  · split
    · exact .refl s
    · split
      · exact hclose
      · exact {}
  · split
    · exact hclose
    · exact .ite (.trans {} (suspensionCheck_portsKept _ _)) {}

theorem takeVolIn_portsKept (set v : Nat) (s : State) : PortsKept s (takeVolIn set v s).state := by
  unfold takeVolIn
  split
  · exact .refl s
  · dsimp only
    split
    · exact .refl s
    · split
      · split
        · exact volInOnLoan_portsKept _ _ _ _ _ s
        · exact .refl s
      · unfold volInIncomplete
        split
        · exact .refl s
        · split
          · exact makeAvailable_portsKept set s
          · exact {}
      · exact .refl s

theorem takeCopysetRead_portsKept (n : Nat) (s : State) : PortsKept s (takeCopysetRead n s).state := by
  unfold takeCopysetRead
  split <;> exact .refl s

/-! ### Bodies and delivery -/

section
variable {s : State} {body : List Byte} {f : State → Taken}

theorem noBody_some {take : State → Taken} (hf : noBody take body = some f) : f = take := by
  unfold noBody at hf
  split at hf <;> cases hf
  rfl

theorem oneField_some {w : Nat} {take : Nat → State → Taken} (hf : oneField w take body = some f) :
    ∃ a, f = take a := by
  unfold oneField at hf
  split at hf <;> cases hf
  exact ⟨_, rfl⟩

theorem twoFields_some {w1 w2 : Nat} {take : Nat → Nat → State → Taken} (hf : twoFields w1 w2 take body = some f) :
    ∃ a b, f = take a b := by
  unfold twoFields at hf
  split at hf <;> cases hf
  exact ⟨_, _, rfl⟩

theorem threeFields_some {w1 w2 w3 : Nat} {take : Nat → Nat → Nat → State → Taken}
    (hf : threeFields w1 w2 w3 take body = some f) : ∃ a b c, f = take a b c := by
  unfold threeFields at hf
  split at hf <;> cases hf
  exact ⟨_, _, _, rfl⟩

theorem fourFields_some {w1 w2 w3 w4 : Nat} {take : Nat → Nat → Nat → Nat → State → Taken}
    (hf : fourFields w1 w2 w3 w4 take body = some f) : ∃ a b c d, f = take a b c d := by
  unfold fourFields at hf
  split at hf <;> cases hf
  exact ⟨_, _, _, _, rfl⟩

theorem fiveFields_some {w1 w2 w3 w4 w5 : Nat} {take : Nat → Nat → Nat → Nat → Nat → State → Taken}
    (hf : fiveFields w1 w2 w3 w4 w5 take body = some f) : ∃ a b c d e, f = take a b c d e := by
  unfold fiveFields at hf
  split at hf <;> cases hf
  exact ⟨_, _, _, _, _, rfl⟩

/-- Every request kind's block but STORE-CLEAR's, with the body read (R169). -/
theorem bodyOf_portsKept {l : Link} {k : Kind} (hk : k ≠ .storeClear) (hf : bodyOf l k body = some f) :
    PortsKept s (f s).state := by
  cases k with
  | status => rw [noBody_some hf]; exact takeStatus_portsKept l s
  | noticeAck => obtain ⟨a, b, rfl⟩ := twoFields_some hf; exact takeNoticeAck_portsKept l a b s
  | patronSet => obtain ⟨a, b, c, d, e, rfl⟩ := fiveFields_some hf; exact takePatronSet_portsKept a b c d e s
  | patronPause => obtain ⟨a, b, rfl⟩ := twoFields_some hf; exact takePatronPause_portsKept a b s
  | patronResume => obtain ⟨a, rfl⟩ := oneField_some hf; exact takePatronResume_portsKept a s
  | patronClose => obtain ⟨a, rfl⟩ := oneField_some hf; exact takePatronClose_portsKept a s
  | patronRead => obtain ⟨a, rfl⟩ := oneField_some hf; exact takePatronRead_portsKept a s
  | wishAdd => obtain ⟨a, b, c, d, rfl⟩ := fourFields_some hf; exact takeWishAdd_portsKept a b c d s
  | wishDrop => obtain ⟨a, b, c, rfl⟩ := threeFields_some hf; exact takeWishDrop_portsKept a b c s
  | wishMove => obtain ⟨a, b, c, d, e, rfl⟩ := fiveFields_some hf; exact takeWishMove_portsKept a b c d e s
  | wishRead => obtain ⟨a, rfl⟩ := oneField_some hf; exact takeWishRead_portsKept a s
  | titleSet => obtain ⟨r, -, rfl⟩ := Option.map_eq_some_iff.1 hf; exact takeTitleSet_portsKept _ _ _ s
  | titleWithdraw => obtain ⟨a, rfl⟩ := oneField_some hf; exact takeTitleWithdraw_portsKept a s
  | copysetAdd => obtain ⟨a, rfl⟩ := oneField_some hf; exact takeCopysetAdd_portsKept a s
  | loanRead => obtain ⟨sel, -, rfl⟩ := Option.map_eq_some_iff.1 hf; exact takeLoanRead_portsKept sel s
  | renew => obtain ⟨a, rfl⟩ := oneField_some hf; exact takeRenew_portsKept a s
  | orderCancel => obtain ⟨a, b, c, rfl⟩ := threeFields_some hf; exact takeOrderCancel_portsKept a b c s
  | newDay => obtain ⟨a, rfl⟩ := oneField_some hf; exact takeNewDay_portsKept a s
  | serviceSet => obtain ⟨a, b, rfl⟩ := twoFields_some hf; exact takeServiceSet_portsKept a b s
  | storeClear => exact absurd rfl hk
  | cartEnrol => obtain ⟨a, b, rfl⟩ := twoFields_some hf; exact takeCartEnrol_portsKept a b s
  | cartForget => obtain ⟨a, rfl⟩ := oneField_some hf; exact takeCartForget_portsKept a s
  | poolSet => obtain ⟨a, b, c, rfl⟩ := threeFields_some hf; exact takePoolSet_portsKept a b c s
  | bayOnline => obtain ⟨a, rfl⟩ := oneField_some hf; exact takeBayOnline_portsKept a s
  | bayOffline => obtain ⟨a, rfl⟩ := oneField_some hf; exact takeBayOffline_portsKept a s
  | bayRestore => obtain ⟨a, rfl⟩ := oneField_some hf; exact takeBayRestore_portsKept a s
  | dupRestart => rw [noBody_some hf]; exact takeDupRestart_portsKept s
  | work => obtain ⟨a, rfl⟩ := oneField_some hf; exact takeWork_portsKept a s
  | writeDone => obtain ⟨a, b, c, rfl⟩ := threeFields_some hf; exact takeWriteDone_portsKept a b c s
  | wipeDone => obtain ⟨a, b, c, rfl⟩ := threeFields_some hf; exact takeWipeDone_portsKept a b c s
  | bayFault => obtain ⟨a, rfl⟩ := oneField_some hf; exact takeBayFault_portsKept a s
  | bayRead => obtain ⟨a, rfl⟩ := oneField_some hf; exact takeBayRead_portsKept a s
  | nextPull => rw [noBody_some hf]; exact takeNextPull_portsKept s
  | pulled => obtain ⟨a, rfl⟩ := oneField_some hf; exact takePulled_portsKept a s
  | notFound => obtain ⟨a, rfl⟩ := oneField_some hf; exact takeNotFound_portsKept a s
  | setFound => obtain ⟨a, rfl⟩ := oneField_some hf; exact takeSetFound_portsKept a s
  | nextParcel => rw [noBody_some hf]; exact takeNextParcel_portsKept s
  | packed => obtain ⟨a, rfl⟩ := oneField_some hf; exact takePacked_portsKept a s
  | unpack => obtain ⟨a, rfl⟩ := oneField_some hf; exact takeUnpack_portsKept a s
  | cartIn => obtain ⟨a, rfl⟩ := oneField_some hf; exact takeCartIn_portsKept a s
  | volIn => obtain ⟨a, b, rfl⟩ := twoFields_some hf; exact takeVolIn_portsKept a b s
  | copysetRead => obtain ⟨a, rfl⟩ := oneField_some hf; exact takeCopysetRead_portsKept a s

end

/-- A delivered frame leaves the ports as its block does, and only an Order-link request can end the running pass (R19). -/
theorem deliver_portsKept (l : Link) (f : RxFrame) (s : State) :
    (∀ m, PortKept m (s.port m) ((deliver l f s).state.port m)) ∧ (l ≠ .order → (deliver l f s).state.running = s.running) := by
  have hrefl : ∀ {t}, t = s → (∀ m, PortKept m (s.port m) (t.port m)) ∧ (l ≠ .order → t.running = s.running) := by
    rintro t rfl
    exact ⟨fun m => .refl m _, fun _ => rfl⟩
  unfold deliver
  split
  · exact hrefl rfl
  · rename_i k _
    split
    · rename_i hrole
      split
      · exact hrefl rfl
      · rename_i take hf
        by_cases hk : k = .storeClear
        · subst hk
          rw [noBody_some hf]
          exact ⟨takeStoreClear_portKept s, fun hl => absurd (beq_iff_eq.1 (show (Link.order == l) = true from hrole)).symm hl⟩
        · have h := bodyOf_portsKept (s := s) hk hf
          exact ⟨h.ports, fun _ => h.running⟩
    · exact hrefl rfl

end Sys2Proof.Machine
end

section
/-! SUPPORT. The bookkeeping of the ports at every step (R22, R167 to R171): the Selection Engine leaves the ports alone, the end
of an event adds NOTICE frames while there is room, and a request in progress has one answer unless it waits. -/

namespace Sys2Proof.Machine

-- One declaration at a time: the check's memory does not hold many side by side.
set_option Elab.async false

/-! ### The Selection Engine -/

theorem foldl_fst_ports {α β : Type} {f : State × β → α → State × β} (h : ∀ a x, (f a x).1.ports = a.1.ports) (l : List α)
    (a : State × β) : (l.foldl f a).1.ports = a.1.ports := by
  induction l generalizing a with
  | nil => rfl
  | cons x l ih => exact (ih _).trans (h a x)

theorem walkOpen_ports (fr : WalkFrame) (t : JobTitle) (w : WishEntry) (p : Plan) (s : State) :
    (walkOpen fr t w p s).1.ports = s.ports := by
  have hnote : ∀ c, (noteBlocked c w p s).1.ports = s.ports := fun c => by
    unfold noteBlocked
    dsimp only
    split <;> rfl
  unfold walkOpen
  dsimp only
  split
  · split
    · rfl
    · exact hnote _
  · rfl

theorem walkEntry_ports (fr : WalkFrame) (acc : State × Plan) (w : WishEntry) :
    (walkEntry fr acc w).1.ports = acc.1.ports := by
  unfold walkEntry
  split
  · rfl
  · split
    · rfl
    · split
      · unfold walkCartridge
        dsimp only
        split
        · rfl
        · exact walkOpen_ports _ _ _ _ _
      · unfold walkBraille
        split
        · split <;> rfl
        · rfl
      · rfl

theorem createJob_ports (order patron : Nat) (o : Opened) (s : State) : (createJob order patron o s).1.ports = s.ports := by
  have hrestamp : (restampIfFull s).ports = s.ports := by
    unfold restampIfFull
    split <;> rfl
  exact hrestamp

theorem createOrder_ports (order n : Nat) (p : Patron) (plan : Plan) (s : State) :
    (createOrder order n p plan s).ports = s.ports := by
  have hitems : (plan.items.foldl (createItem order n) (s, [])).1.ports = s.ports :=
    foldl_fst_ports (fun a i => by
      cases i with
      | cart o => exact createJob_ports _ _ _ _
      | copySet k w => rfl) plan.items (s, [])
  unfold createOrder chargePatron
  dsimp only
  rw [leaveWaitingAll_frame]
  exact hitems

theorem runPass_ports (n : Nat) (offered : Option Nat) (s : State) : (runPass n offered s).ports = s.ports := by
  unfold runPass
  split
  · rfl
  · split
    · unfold walkPass settleAll
      dsimp only
      split
      · exact foldl_fst_ports (walkEntry_ports _) _ _
      · exact (createOrder_ports _ _ _ _ _).trans (foldl_fst_ports (walkEntry_ports _) _ _)
    · rfl

theorem advanceOffer_ports (s : State) : (advanceOffer s).ports = s.ports := by
  unfold advanceOffer
  split
  · rfl
  · dsimp only
    split <;> rfl

theorem beginNextOffer_ports (s : State) : (beginNextOffer s).ports = s.ports := by
  unfold beginNextOffer beginOffer
  split
  · split
    · rfl
    · exact advanceOffer_ports _
  · rfl

theorem settleOffers_ports (fuel : Nat) (s : State) : (settleOffers fuel s).ports = s.ports := by
  induction fuel generalizing s with
  | zero => rfl
  | succ fuel ih =>
    unfold settleOffers
    split
    · rfl
    · exact (ih _).trans (beginNextOffer_ports s)

theorem startNext_ports (s : State) : (startNext s).ports = s.ports := by
  have hoffers : (settleOffers s.pendingOffers.length (advanceOffer s)).ports = s.ports :=
    (settleOffers_ports _ _).trans (advanceOffer_ports s)
  have hqueue : ∀ u : State, (startQueuePass u).ports = u.ports := fun u => by
    unfold startQueuePass
    split <;> rfl
  unfold startNext
  dsimp only
  split
  · split
    · exact hoffers
    · exact (hqueue _).trans hoffers
  · exact (hqueue _).trans hoffers

theorem startPass_ports (s : State) : (startPass s).ports = s.ports := by
  unfold startPass
  split
  · rfl
  · exact startNext_ports s

theorem finishPass_ports (s : State) : (finishPass s).ports = s.ports := by
  unfold finishPass
  split
  · rfl
  · rename_i r _
    have hrun : (runPass r.patron r.offered { s with running := none }).ports = s.ports := runPass_ports _ _ _
    dsimp only
    split
    · unfold endOfferPass
      split <;> exact hrun
    · exact hrun

theorem takePass_ports (s : State) : (takePass s).ports = s.ports :=
  (finishPass_ports _).trans (startPass_ports s)

theorem workOffer_ports (s : State) : (workOffer s).ports = s.ports := by
  unfold workOffer
  split
  · rfl
  · split
    · exact advanceOffer_ports s
    · exact beginNextOffer_ports s

/-! ### One port -/

/-- The answers a port holds while its request, if one is in progress, is waiting or not (R168, R170). -/
def Port.due (p : Port) : Nat :=
  if p.inProgress.isSome && p.waiting.isNone then 1 else 0

/-- The limits and the order of a port's lists (R167, R170, R171). -/
structure PortLimits (l : Link) (p : Port) : Prop where
  places : countOf (fun f => !f.isAnswer) p.sendList ≤ Config.sendPlaces
  badFrames : p.badFrames ≤ Config.maxBadFrames
  notices : NoticesSound l p.notices

theorem Port.sound_iff (l : Link) (p : Port) :
    Port.sound l p ↔ p.answers = p.due ∧ (p.waiting.isSome → p.inProgress.isSome) ∧ PortLimits l p :=
  ⟨fun ⟨ha, hw, hp, hb, hn, hk⟩ => ⟨ha, hw, hp, hb, hn, hk⟩, fun ⟨ha, hw, hp, hb, hn, hk⟩ => ⟨ha, hw, hp, hb, hn, hk⟩⟩

theorem PortKept.limits {l : Link} {p q : Port} (h : PortKept l p q) (hp : PortLimits l p) : PortLimits l q :=
  ⟨by rw [h.sendList]; exact hp.places, h.badFrames.trans hp.badFrames, h.notices hp.notices⟩

theorem PortKept.answers {l : Link} {p q : Port} (h : PortKept l p q) : q.answers = p.answers := by
  rw [Port.answers, h.sendList]
  rfl

theorem PortKept.due {l : Link} {p q : Port} (h : PortKept l p q) : q.due = p.due := by
  rw [Port.due, h.inProgress, h.waiting]
  rfl

theorem PortKept.sound {l : Link} {p q : Port} (h : PortKept l p q) (hp : Port.sound l p) : Port.sound l q := by
  rw [Port.sound_iff] at hp ⊢
  obtain ⟨ha, hw, hl⟩ := hp
  exact ⟨by rw [h.answers, h.due, ha], by rw [h.waiting, h.inProgress]; exact hw, h.limits hl⟩

/-- A port with a frame more at its tail: an answer, or another one where the 128 places are not full (R170). -/
theorem PortLimits.push {l : Link} {p : Port} (h : PortLimits l p) {f : OutFrame} (hf : f.isAnswer = true ∨ p.full = false) :
    PortLimits l { p with sendList := p.sendList ++ [f] } := by
  refine ⟨?_, h.badFrames, h.notices⟩
  simp only [countOf, List.filter_append, List.length_append]
  rcases hf with hf | hf
  · simpa [hf, countOf] using h.places
  · have hroom : countOf (fun f => !f.isAnswer) p.sendList < Config.sendPlaces := by simpa [Port.full] using hf
    have hone : (List.filter (fun f => !f.isAnswer) [f]).length ≤ 1 := List.length_filter_le _ _
    exact (Nat.add_le_add_left hone _).trans hroom

theorem answers_push (p : Port) (f : OutFrame) :
    ({ p with sendList := p.sendList ++ [f] } : Port).answers = p.answers + if f.isAnswer then 1 else 0 := by
  cases hf : f.isAnswer <;> simp [Port.answers, countOf, hf]

theorem sound_pushNotice {l : Link} {p : Port} (h : Port.sound l p) (n : Notice) : Port.sound l (p.pushNotice n) := by
  unfold Port.pushNotice
  split
  · exact h
  · rename_i hfull
    rw [Port.sound_iff] at h ⊢
    obtain ⟨ha, hw, hl⟩ := h
    exact ⟨by rw [answers_push]; exact ha, hw, hl.push (.inr (by simpa using hfull))⟩

theorem sound_noticeFrames {l : Link} (old : Port) {p : Port} (h : Port.sound l p) : Port.sound l (Port.noticeFrames old p) := by
  unfold Port.noticeFrames
  generalize p.notices.filter _ = ns
  induction ns generalizing p with
  | nil => exact h
  | cons n ns ih => exact ih (sound_pushNotice h n)

theorem PortLimits.countBad {l : Link} {p : Port} (h : PortLimits l p) : PortLimits l p.countBad := by
  refine ⟨h.places, ?_, h.notices⟩
  unfold Port.countBad
  dsimp only
  split
  · assumption
  · exact le_rfl

theorem sound_countBad {l : Link} {p : Port} (h : Port.sound l p) : Port.sound l p.countBad := by
  rw [Port.sound_iff] at h ⊢
  exact ⟨h.1, h.2.1, h.2.2.countBad⟩

/-- The receive state is no part of a port's bookkeeping. -/
theorem sound_withRx {l : Link} {p : Port} (h : Port.sound l p) (rx : RxState) : Port.sound l { p with rx := rx } := by
  rw [Port.sound_iff] at h ⊢
  exact ⟨h.1, h.2.1, ⟨h.2.2.places, h.2.2.badFrames, h.2.2.notices⟩⟩

theorem sound_answerBusy {l : Link} {p : Port} (h : Port.sound l p) (f : RxFrame) : Port.sound l (answerBusy f p) := by
  unfold answerBusy
  split
  · exact sound_countBad h
  · rename_i hfull
    rw [Port.sound_iff] at h ⊢
    obtain ⟨ha, hw, hl⟩ := h
    exact ⟨by rw [answers_push]; exact ha, hw, hl.push (.inr (by simpa using hfull))⟩

/-- A port without a request in progress holds no answer, and nothing waits on it (R168). -/
theorem sound_free {l : Link} {p : Port} (h : Port.sound l p) (hp : p.inProgress = none) :
    p.answers = 0 ∧ p.waiting = none := by
  rw [Port.sound_iff] at h
  obtain ⟨ha, hw, -⟩ := h
  refine ⟨by simpa [Port.due, hp] using ha, ?_⟩
  simpa [hp] using hw

/-- The head of a send list sent: an answer ends its request, which is then the one in progress and not waiting (R168). -/
theorem sound_sent {l : Link} {p : Port} (h : Port.sound l p) : Port.sound l p.sent ∧ p.sent.waiting = p.waiting
    ∧ (p.waiting.isSome → p.sent.inProgress = p.inProgress) := by
  unfold Port.sent
  split
  · exact ⟨h, rfl, fun _ => rfl⟩
  · rename_i f rest hs
    rw [Port.sound_iff] at h ⊢
    obtain ⟨ha, hw, hl⟩ := h
    have hplaces : countOf (fun f => !f.isAnswer) rest ≤ Config.sendPlaces := by
      refine le_trans ?_ hl.places
      rw [hs]
      exact ((List.sublist_cons_self f rest).filter _).length_le
    have hlimits : ∀ q, PortLimits l { p with sendList := rest, inProgress := q } := fun q =>
      ⟨hplaces, hl.badFrames, hl.notices⟩
    cases hf : f.isAnswer
    · refine ⟨⟨?_, hw, hlimits _⟩, rfl, fun _ => rfl⟩
      rw [Port.answers, hs] at ha
      simpa [Port.answers, Port.due, countOf, hf] using ha
    · have hone : p.due = countOf OutFrame.isAnswer rest + 1 := by
        rw [← ha, Port.answers, hs]
        simp [countOf, hf]
      have hdue : p.due = 1 ∧ p.waiting = none := by
        unfold Port.due at hone ⊢
        split at hone
        · rename_i hif
          simpa [hif] using (Bool.and_eq_true_iff.1 hif).2
        · omega
      obtain ⟨hdue, hwaiting⟩ := hdue
      have hrest : countOf OutFrame.isAnswer rest = 0 := by omega
      exact ⟨⟨hrest, by simp [hwaiting], hlimits _⟩, rfl, by simp [hwaiting]⟩

/-! ### All ports -/

/-- Every port's bookkeeping. -/
def State.soundPorts (s : State) : Prop :=
  ∀ l, Port.sound l (s.port l)

/-- No request waits on any port. -/
def State.noneWaits (s : State) : Prop :=
  ∀ l, (s.port l).waiting = none

theorem waitSound_of_noneWaits {s : State} (h : s.noneWaits) : s.waitSound := fun l body hb => by
  rw [h l] at hb
  cases hb

/-- Only a request of the Order link waits (R22). -/
theorem waiting_none_of_ne {s : State} (h : s.waitSound) {l : Link} (hl : l ≠ .order) : (s.port l).waiting = none := by
  cases hw : (s.port l).waiting with
  | none => rfl
  | some body => exact absurd (h l body hw).1 hl

/-- With no pass running no request waits (R22). -/
theorem noneWaits_of_idle {s : State} (h : s.waitSound) (hr : s.running = none) : s.noneWaits := fun l => by
  cases hw : (s.port l).waiting with
  | none => rfl
  | some body =>
    obtain ⟨-, q, k, r, -, -, hrun, -⟩ := h l body hw
    rw [hr] at hrun
    cases hrun

/-- What waits depends on the requests in progress, the bodies that wait and the running pass only. -/
theorem waitSound_congr {s t : State} (h : s.waitSound) (hw : ∀ l, (t.port l).waiting = (s.port l).waiting)
    (hp : ∀ l, (s.port l).waiting.isSome → (t.port l).inProgress = (s.port l).inProgress)
    (hr : (∃ l, (s.port l).waiting.isSome) → t.running = s.running) : t.waitSound := fun l body hb => by
  rw [hw l] at hb
  have hsome : (s.port l).waiting.isSome := by rw [hb]; rfl
  rw [hp l hsome, hr ⟨l, hsome⟩]
  exact h l body hb

@[simp] theorem onPort_port_same (l : Link) (f : Port → Port) (s : State) : (s.onPort l f).port l = f (s.port l) := by
  simp [State.onPort, State.port]

@[simp] theorem onPort_port_other {l m : Link} (h : m ≠ l) (f : Port → Port) (s : State) :
    (s.onPort l f).port m = s.port m := by
  simp [State.onPort, State.port, h]

theorem soundPorts_onPort {s : State} {l : Link} {f : Port → Port} (h : s.soundPorts)
    (hf : Port.sound l (s.port l) → Port.sound l (f (s.port l))) : (s.onPort l f).soundPorts := fun m => by
  by_cases hm : m = l
  · subst hm
    rw [onPort_port_same]
    exact hf (h m)
  · rw [onPort_port_other hm]
    exact h m

/-- A port changed in its receiver, its counts or its send list only. -/
theorem portsSound_onPort {s : State} {l : Link} {f : Port → Port} (h : s.portsSound)
    (hf : Port.sound l (s.port l) → Port.sound l (f (s.port l))) (hw : (f (s.port l)).waiting = (s.port l).waiting)
    (hp : (s.port l).waiting.isSome → (f (s.port l)).inProgress = (s.port l).inProgress) : (s.onPort l f).portsSound := by
  refine ⟨soundPorts_onPort h.1 hf, waitSound_congr h.2 (fun m => ?_) (fun m => ?_) (fun _ => rfl)⟩
  · by_cases hm : m = l
    · subst hm
      rwa [onPort_port_same]
    · rw [onPort_port_other hm]
  · by_cases hm : m = l
    · subst hm
      rwa [onPort_port_same]
    · rw [onPort_port_other hm]
      exact fun _ => rfl

theorem noticeFrames_port (s0 s : State) (l : Link) :
    (noticeFrames s0 s).port l = Port.noticeFrames (s0.port l) (s.port l) := by
  cases l <;> rfl

/-- The frames a port sends leave its request in progress and what waits alone. -/
theorem noticeFrames_waiting (old p : Port) : (Port.noticeFrames old p).waiting = p.waiting := by
  unfold Port.noticeFrames
  generalize p.notices.filter _ = ns
  induction ns generalizing p with
  | nil => rfl
  | cons n ns ih =>
    rw [List.foldl_cons, ih]
    unfold Port.pushNotice
    split <;> rfl

theorem endEvent_waiting (s0 s : State) (l : Link) : ((endEvent s0 s).port l).waiting = (s.port l).waiting := by
  rw [endEvent, noticeFrames_port, noticeFrames_waiting, ((conditionNotices_portsKept s0 s).ports l).waiting]

theorem endEvent_running (s0 s : State) : (endEvent s0 s).running = s.running := by
  rw [(endEvent_frame s0 s).same]

theorem soundPorts_endEvent {s : State} (s0 : State) (h : s.soundPorts) : (endEvent s0 s).soundPorts := fun l => by
  rw [endEvent, noticeFrames_port]
  exact sound_noticeFrames _ (((conditionNotices_portsKept s0 s).ports l).sound (h l))

theorem portsSound_endEvent {s : State} (s0 : State) (h : s.portsSound) : (endEvent s0 s).portsSound :=
  ⟨soundPorts_endEvent s0 h.1, waitSound_congr h.2 (endEvent_waiting s0 s)
    (fun l _ => ((endEvent_frame s0 s).noticed l).inProgress) (fun _ => endEvent_running s0 s)⟩

theorem PortsKept.portsSound {s t : State} (h : PortsKept s t) (hs : s.portsSound) : t.portsSound :=
  ⟨fun l => (h.ports l).sound (hs.1 l), waitSound_congr hs.2 (fun l => (h.ports l).waiting)
    (fun l _ => (h.ports l).inProgress) (fun _ => h.running)⟩

/-- Ports left as they were are sound where no request waits, whatever became of the running pass. -/
theorem portsSound_of_ports {s t : State} (hs : s.portsSound) (hp : t.ports = s.ports) (hr : s.running = none) :
    t.portsSound := by
  have hport : ∀ l, t.port l = s.port l := fun l => by rw [State.port, hp]; rfl
  refine ⟨fun l => by rw [hport]; exact hs.1 l, waitSound_of_noneWaits fun l => ?_⟩
  rw [hport]
  exact noneWaits_of_idle hs.2 hr l

/-! ### A request taken -/

/-- A request in progress on a port that holds no answer is taken and answered: its port then holds one, and what waits
elsewhere is as it was (R168, R170). -/
theorem answerRequest_sound {s : State} {l : Link} (f : RxFrame) (s0 : State) (hothers : ∀ m, m ≠ l → Port.sound m (s.port m))
    (hlimits : PortLimits l (s.port l)) (hanswers : (s.port l).answers = 0) (hp : (s.port l).inProgress.isSome = true)
    (hw : (s.port l).waiting = none) :
    (answerRequest l f s0 s).soundPorts ∧ (∀ m, ((answerRequest l f s0 s).port m).waiting = (s.port m).waiting)
      ∧ (∀ m, ((answerRequest l f s0 s).port m).inProgress = (s.port m).inProgress)
      ∧ (l ≠ .order → (answerRequest l f s0 s).running = s.running) := by
  obtain ⟨hk, hrun⟩ := deliver_portsKept l f s
  have hsent : (sendFrame l (.answer f.tag f.kind (deliver l f s).answer) (deliver l f s).state).soundPorts := fun m => by
    by_cases hm : m = l
    · subst hm
      rw [sendFrame, onPort_port_same, Port.sound_iff, answers_push, (hk m).answers, hanswers]
      refine ⟨?_, ?_, ((hk m).limits hlimits).push (.inl rfl)⟩
      · have := (hk m).due
        simp only [Port.due, hp, hw] at this ⊢
        simpa [OutFrame.isAnswer] using this.symm
      · simp [(hk m).waiting, hw]
    · rw [sendFrame, onPort_port_other hm]
      exact (hk m).sound (hothers m hm)
  have hwaiting : ∀ m, ((sendFrame l (.answer f.tag f.kind (deliver l f s).answer) (deliver l f s).state).port m).waiting =
      (s.port m).waiting := fun m => by
    by_cases hm : m = l
    · subst hm
      rw [sendFrame, onPort_port_same, (hk m).waiting]
    · rw [sendFrame, onPort_port_other hm, (hk m).waiting]
  have hprogress : ∀ m, ((sendFrame l (.answer f.tag f.kind (deliver l f s).answer) (deliver l f s).state).port m).inProgress =
      (s.port m).inProgress := fun m => by
    by_cases hm : m = l
    · subst hm
      rw [sendFrame, onPort_port_same, (hk m).inProgress]
    · rw [sendFrame, onPort_port_other hm, (hk m).inProgress]
  refine ⟨soundPorts_endEvent s0 hsent, fun m => ?_, fun m => ?_, fun hl => ?_⟩
  · exact (endEvent_waiting s0 _ m).trans (hwaiting m)
  · exact ((endEvent_frame s0 _).noticed m).inProgress.trans (hprogress m)
  · exact (endEvent_running s0 _).trans (hrun hl)

/-- A request that must wait is one of the Order link, for the patron of the running pass (R22). -/
theorem mustWait_true {l : Link} {f : RxFrame} {s : State} (h : mustWait l f s = true) :
    l = .order ∧ ∃ k r, kindOfCode f.kind = some k ∧ s.running = some r ∧ patronNamed k f.body = some r.patron := by
  unfold mustWait at h
  split at h
  · rename_i r k hr hk
    simp only [Bool.and_eq_true, beq_iff_eq] at h
    obtain ⟨⟨hrole, -⟩, hn⟩ := h
    refine ⟨?_, k, r, hk, hr, hn⟩
    cases k <;> first
      | exact (beq_iff_eq.1 (show (Link.order == l) = true from hrole)).symm
      | cases hn
  · cases h

theorem takeRequest_portsSound {l : Link} {f : RxFrame} {s : State} (h : s.portsSound) (hp : (s.port l).inProgress = none) :
    (takeRequest l f s).portsSound := by
  obtain ⟨hanswers, hw⟩ := sound_free (h.1 l) hp
  have hlimits := ((Port.sound_iff l _).1 (h.1 l)).2.2
  unfold takeRequest
  split
  · rename_i hmust
    obtain ⟨rfl, k, r, hk, hr, hn⟩ := mustWait_true hmust
    refine ⟨fun m => ?_, fun m body hb => ?_⟩
    · by_cases hm : m = .order
      · subst hm
        simp only [startRequest, onPort_port_same, Port.wait]
        exact (Port.sound_iff _ _).2 ⟨hanswers, fun _ => Option.isSome_some, hlimits.places, hlimits.badFrames, hlimits.notices⟩
      · simp only [startRequest, onPort_port_other hm]
        exact h.1 m
    · by_cases hm : m = .order
      · subst hm
        simp only [startRequest, onPort_port_same, Port.wait, Option.some.injEq] at hb ⊢
        subst hb
        exact ⟨trivial, _, k, r, rfl, hk, hr, hn⟩
      · simp only [startRequest, onPort_port_other hm] at hb
        rw [waiting_none_of_ne h.2 hm] at hb
        cases hb
  · have hstart : ∀ m, ((startRequest l f s).port m).waiting = (s.port m).waiting := fun m => by
      by_cases hm : m = l
      · subst hm
        simp [startRequest]
      · simp [startRequest, hm]
    obtain ⟨hsound, hwaiting, hprogress, hrun⟩ := answerRequest_sound (s := startRequest l f s) (l := l) f s
      (fun m hm => by simpa [startRequest, hm] using h.1 m)
      (by simpa [startRequest] using ⟨hlimits.places, hlimits.badFrames, hlimits.notices⟩)
      (by simpa [startRequest, Port.answers] using hanswers) (by simp [startRequest]) (by simpa [startRequest] using hw)
    refine ⟨hsound, waitSound_congr h.2 (fun m => (hwaiting m).trans (hstart m)) (fun m hm => ?_) (fun hm => ?_)⟩
    · have hne : m ≠ l := fun he => by
        rw [he, hw] at hm
        cases hm
      rw [hprogress m]
      simp [startRequest, hne]
    · refine hrun fun hl => ?_
      obtain ⟨m, hm⟩ := hm
      by_cases hmo : m = .order
      · rw [hmo, ← hl, hw] at hm
        cases hm
      · rw [waiting_none_of_ne h.2 hmo] at hm
        cases hm

theorem goodFrame_portsSound {l : Link} {f : RxFrame} {s : State} (h : s.portsSound) : (goodFrame l f s).portsSound := by
  unfold goodFrame
  split
  · refine portsSound_onPort h (fun hp => sound_answerBusy hp f) ?_ fun _ => ?_ <;>
    · unfold answerBusy
      split <;> rfl
  · rename_i hp
    exact takeRequest_portsSound h (by simpa using hp)

/-- The request that waited for the pass is taken and answered, and then none waits (R22). -/
theorem takeWaiting_portsSound {s : State} (h : s.soundPorts) (hw : ∀ l, l ≠ .order → (s.port l).waiting = none) :
    (takeWaiting .order s).portsSound := by
  have hsound := (Port.sound_iff _ _).1 (h .order)
  obtain ⟨ha, hprogress, hlimits⟩ := hsound
  unfold takeWaiting
  split
  · rename_i r body hr hb
    obtain ⟨hall, hwaiting, -, -⟩ := answerRequest_sound (l := .order) ⟨r.kind, r.tag, body⟩ s
      (s := s.onPort .order (fun p => { p with waiting := none })) (fun m hm => by simpa [hm] using h m)
      (by simpa using ⟨hlimits.places, hlimits.badFrames, hlimits.notices⟩)
      (by simpa [Port.due, hb, Port.answers] using ha) (by simp [hr]) (by simp)
    refine ⟨hall, waitSound_of_noneWaits fun l => ?_⟩
    rw [hwaiting]
    by_cases hl : l = .order
    · subst hl
      simp
    · simpa [hl] using hw l hl
  · rename_i hnone
    refine ⟨h, waitSound_of_noneWaits fun l => ?_⟩
    by_cases hl : l = .order
    · subst hl
      cases hb : (s.port .order).waiting with
      | none => rfl
      | some body =>
        rw [hb] at hprogress
        obtain ⟨r, hr⟩ := Option.isSome_iff_exists.1 (hprogress rfl)
        exact absurd hb (hnone r body hr)
    · exact hw l hl

/-! ### The receiver -/

theorem setRx_portsSound {l : Link} {s : State} (h : s.portsSound) (rx : RxState) : (setRx l rx s).portsSound :=
  portsSound_onPort h (fun hp => sound_withRx hp rx) rfl fun _ => rfl

theorem rxError_portsSound {l : Link} {s : State} (h : s.portsSound) (rx : RxState) : (rxError l rx s).portsSound :=
  portsSound_onPort h (fun hp => sound_withRx (sound_countBad hp) rx) rfl fun _ => rfl

theorem rxChar_portsSound {l : Link} {s : State} (h : s.portsSound) (c : RxChar) : (rxChar l c s).portsSound := by
  unfold rxChar
  split
  · exact rxError_portsSound h _
  · exact h
  · split
    · exact setRx_portsSound h _
    · exact rxError_portsSound h _
  · exact rxError_portsSound h _
  · unfold collect
    split_ifs
    · exact setRx_portsSound h _
    · exact rxError_portsSound h _
    · unfold judge
      split
      · exact goodFrame_portsSound (setRx_portsSound h _)
      · exact rxError_portsSound h _
    · exact setRx_portsSound h _
  · exact rxError_portsSound h _

theorem receiveRun_portsSound {l : Link} (cs : List RxChar) {s : State} (h : s.portsSound) : (receiveRun l cs s).portsSound := by
  unfold receiveRun
  induction cs generalizing s with
  | nil => exact h
  | cons c cs ih => exact ih (rxChar_portsSound h c)

theorem rxIdle_portsSound {l : Link} {s : State} (h : s.portsSound) : (rxIdle l s).portsSound := by
  unfold rxIdle
  split
  · exact setRx_portsSound h _
  · exact h
  · exact rxError_portsSound h _

theorem request_portsSound {l : Link} {f : RxFrame} {s : State} (h : s.portsSound) : (request l f s).portsSound := by
  unfold request
  split_ifs
  · exact h
  · exact goodFrame_portsSound (setRx_portsSound h _)
  · exact rxError_portsSound h _
  · exact receiveRun_portsSound _ h

/-! ### Commands and steps -/

theorem ownEvent_portsSound {f : State → State} {s : State} (h : s.portsSound) (hf : (f s).portsSound) :
    (ownEvent f s).portsSound := by
  unfold ownEvent
  split
  · exact h
  · exact portsSound_endEvent s hf

theorem sound_levelsHolding (s : State) (l : Link) : Port.sound l (Port.started (levelsHolding s l)) := by
  refine Port.sound_started ?_ (levelsHolding_pairwise s l) fun n hn => (List.mem_filter.1 hn).1
  exact (List.length_filter_le _ _).trans (by cases l <;> decide)

/-- Ports as they start, each with the level kinds that hold, are sound (R175). -/
theorem started_portsSound {s : State} (h : ∀ l, ∃ u, s.port l = Port.started (levelsHolding u l)) : s.portsSound := by
  refine ⟨fun l => ?_, waitSound_of_noneWaits fun l => ?_⟩
  · obtain ⟨u, hu⟩ := h l
    rw [hu]
    exact sound_levelsHolding u l
  · obtain ⟨u, hu⟩ := h l
    rw [hu]
    rfl

theorem stopPorts_portsSound (s : State) : (stopPorts s).portsSound := by
  have hport : ∀ l, (stopPorts s).port l = Port.started [] := fun l => by cases l <;> rfl
  refine ⟨fun l => ?_, waitSound_of_noneWaits fun l => ?_⟩
  · rw [hport]
    exact Port.sound_started (Nat.zero_le _) .nil (by simp)
  · rw [hport]
    rfl

theorem restartLink_portsSound {l : Link} {s : State} (h : s.portsSound) : (restartLink l s).portsSound := by
  refine ⟨soundPorts_onPort h.1 fun _ => sound_levelsHolding s l, fun m body hb => ?_⟩
  by_cases hm : m = l
  · subst hm
    simp [restartLink, Port.started] at hb
  · simp only [restartLink, onPort_port_other hm] at hb ⊢
    exact h.2 m body hb

/-- The engine begins a pass only where none is running, so that no request waits (R22, R44). -/
theorem startPass_portsSound {s : State} (h : s.portsSound) : (startPass s).portsSound := by
  cases hr : s.running with
  | none => exact portsSound_of_ports h (startPass_ports s) hr
  | some r =>
    rw [startPass, if_pos (by rw [hr]; rfl)]
    exact h

theorem workOffer_portsSound {s : State} (h : s.portsSound) : (workOffer s).portsSound := by
  cases hr : s.running with
  | none => exact portsSound_of_ports h (workOffer_ports s) hr
  | some r =>
    rw [workOffer, if_pos (by rw [hr]; rfl)]
    exact h

/-- A pass is taken, its event ends, and then the request that waited for it is taken (R22, R44). -/
theorem selectionPass_portsSound {s : State} (h : s.portsSound) :
    (takeWaiting .order (endEvent s (takePass s))).portsSound := by
  have hport : ∀ l, (takePass s).port l = s.port l := fun l => by rw [State.port, takePass_ports]; rfl
  refine takeWaiting_portsSound (soundPorts_endEvent s fun l => by rw [hport]; exact h.1 l) fun l hl => ?_
  rw [endEvent_waiting, hport]
  exact waiting_none_of_ne h.2 hl

/-- Every command keeps the ports' bookkeeping. -/
theorem exec_portsSound {c : Instr} {s t : State} (h : s.portsSound) (ht : exec c s = .next t) : t.portsSound := by
  have guarded : ∀ {u v : State}, u.portsSound → v.portsSound → (if s.restartAsserted then u else v).portsSound :=
    fun {u v} hu hv => by split <;> assumption
  cases hf : c.frame with
  | some lf =>
    rw [exec_request hf] at ht
    cases ht
    exact request_portsSound h
  | none =>
    cases c with
    | busy l kind tag body => cases ht; exact request_portsSound h
    | receiveError l chars => cases ht; exact guarded h (receiveRun_portsSound chars h)
    | frameSent l =>
      cases ht
      obtain ⟨-, hw, hp⟩ := sound_sent (h.1 l)
      exact guarded h (portsSound_onPort h (fun hs => (sound_sent hs).1) hw hp)
    | linkRestart l => cases ht; exact guarded h (restartLink_portsSound h)
    | restartLine => cases ht; exact stopPorts_portsSound _
    | startUpScan => cases ht; exact guarded (started_portsSound fun l => ⟨_, startPorts_port _ l⟩) h
    | minuteEvent => cases ht; exact ownEvent_portsSound h (PortsKept.portsSound {} h)
    | deadlineExpiry n => cases ht; exact ownEvent_portsSound h ((expireDeadline_portsKept n s).portsSound h)
    | restExpiry n => cases ht; exact ownEvent_portsSound h ((expireRest_portsKept n s).portsSound h)
    | selectionPass => cases ht; exact guarded h (selectionPass_portsSound h)
    | copySetOffer => cases ht; exact ownEvent_portsSound h (workOffer_portsSound h)
    | starvedClaim k =>
      cases ht
      exact ownEvent_portsSound h (((claimStarved_portsKept k s).trans (releaseLists_portsKept s _)).portsSound h)
    | parcelBacklogServe => cases ht; exact ownEvent_portsSound h ((serveBacklog_frame s).portsKept.portsSound h)
    | frameSeparatingIdle l => cases ht; exact guarded h (rxIdle_portsSound h)
    | _ => cases hf

/-- Settles O60: the front command, taken from a queue that is no part of the ports, keeps the bookkeeping; so does the idle
step, in which a pass may begin. -/
theorem portsSoundKept : Obligations.PortsSoundKept := by
  intro s t hs h
  unfold step at h
  split at h
  · cases h
    exact ownEvent_portsSound hs (startPass_portsSound hs)
  · rename_i c rest _
    exact exec_portsSound (s := { s with pending := rest }) hs h

end Sys2Proof.Machine
end

section
/-! SUPPORT. The requests of the Wish List Unit (chapter 2): bodies that name a patron, and the patron requests' checks and
effects (R22 to R27, R31, R39). -/

namespace Sys2Proof.Machine

-- One declaration at a time: the check's memory does not hold many side by side.
set_option Elab.async false

/-! ### A request that names a patron -/

/-- A body of a kind the link delivers, which reads as a request that names patron `n` at most (R22, R169). -/
structure ReadsFor (n : Nat) (l : Link) (k : Kind) (body : List Byte) (take : State → Taken) : Prop where
  length : body.length ≤ Config.maxBody
  role : roleOk l k = true
  reads : bodyOf l k body = some take
  named : ∀ m, patronNamed k body = some m → m = n

section
variable {n : Nat} {l : Link} {k : Kind} {body : List Byte} {take : State → Taken} {s s' : State} {tag : Half} {a : Answer}

/-- A request of a patron without a running pass that changes no condition and raises nothing is answered with its block's
state. -/
theorem ReadsFor.reply (h : ReadsFor n l k body take) (hs : Ready l s) (hn : NoPassFor n s)
    (he : take (admitted l tag k.code s) = ⟨{ s' with ports := (admitted l tag k.code s).ports }, a⟩)
    (hq : SameConditions s s') : request l ⟨k.code, tag, body⟩ s = s.reply l tag k a s' :=
  request_quiet hs h.length (fun m hm => by rw [h.named m hm]; exact hn) h.role h.reads he hq

theorem ReadsFor.answers (h : ReadsFor n l k body take) (hs : Ready l s) (hn : NoPassFor n s)
    (he : take (admitted l tag k.code s) = ⟨admitted l tag k.code s, a⟩) :
    request l ⟨k.code, tag, body⟩ s = s.reply l tag k a s :=
  h.reply hs hn he (.refl s)

theorem ReadsFor.after (h : ReadsFor n l k body take) (hs : Ready l s) (hn : NoPassFor n s)
    (raised : List (Link × Notice))
    (he : take (admitted l tag k.code s) = ⟨raiseAll raised { s' with ports := (admitted l tag k.code s).ports }, a⟩) :
    request l ⟨k.code, tag, body⟩ s = s.after l tag k a raised s' :=
  request_after raised hs h.length (fun m hm => by rw [h.named m hm]; exact hn) h.role h.reads he

end

theorem threeFields_writeFields {w1 w2 w3 v1 v2 v3 : Nat} (take : Nat → Nat → Nat → State → Taken)
    (h : Fits [w1, w2, w3] [v1, v2, v3]) :
    threeFields w1 w2 w3 take (writeFields [w1, w2, w3] [v1, v2, v3]) = some (take v1 v2 v3) := by
  rw [threeFields, readFields_writeFields _ _ h]

theorem fourFields_writeFields {w1 w2 w3 w4 v1 v2 v3 v4 : Nat} (take : Nat → Nat → Nat → Nat → State → Taken)
    (h : Fits [w1, w2, w3, w4] [v1, v2, v3, v4]) :
    fourFields w1 w2 w3 w4 take (writeFields [w1, w2, w3, w4] [v1, v2, v3, v4]) = some (take v1 v2 v3 v4) := by
  rw [fourFields, readFields_writeFields _ _ h]

theorem fiveFields_writeFields {w1 w2 w3 w4 w5 v1 v2 v3 v4 v5 : Nat} (take : Nat → Nat → Nat → Nat → Nat → State → Taken)
    (h : Fits [w1, w2, w3, w4, w5] [v1, v2, v3, v4, v5]) :
    fiveFields w1 w2 w3 w4 w5 take (writeFields [w1, w2, w3, w4, w5] [v1, v2, v3, v4, v5]) = some (take v1 v2 v3 v4 v5) := by
  rw [fiveFields, readFields_writeFields _ _ h]

/-- The first field of a body, where it is two bytes wide. -/
theorem leValue_take_writeFields {n : Nat} (h : n < 256 ^ 2) (ws vs : List Nat) :
    leValue ((writeFields (2 :: ws) (n :: vs)).take 2) = n := by
  rw [writeFields, List.take_left' (leBytes_length 2 n), leValue_leBytes 2 n h]

theorem Fits.head {w v : Nat} {ws vs : List Nat} (h : Fits (w :: ws) (v :: vs)) : v < 256 ^ w :=
  (List.forall₂_cons.1 h).1

/-- A body of fields, the first of them the patron's number, of a kind whose requests name a patron. -/
theorem readsFor_fields {k : Kind} {n : Nat} {ws vs : List Nat} {take : State → Taken} (h : Fits (2 :: ws) (n :: vs))
    (hsum : (2 :: ws).sum ≤ Config.maxBody) (hrole : roleOk .order k = true)
    (hreads : bodyOf .order k (writeFields (2 :: ws) (n :: vs)) = some take)
    (hnamed : ∀ body, patronNamed k body = some (leValue (body.take 2))) :
    ReadsFor n .order k (writeFields (2 :: ws) (n :: vs)) take :=
  ⟨writeFields_short (List.Forall₂.length_eq h) hsum, hrole, hreads, fun m hm => by
    rw [hnamed, leValue_take_writeFields h.head] at hm
    exact (Option.some.inj hm).symm⟩

theorem reads_patronSet {n a t k m : Nat} (h : Fits [2, 1, 1, 1, 1] [n, a, t, k, m]) :
    ReadsFor n .order .patronSet (writeFields [2, 1, 1, 1, 1] [n, a, t, k, m]) (takePatronSet n a t k m) :=
  readsFor_fields h (by decide) rfl (fiveFields_writeFields _ h) fun _ => rfl

theorem reads_patronPause {n d : Nat} (h : Fits [2, 2] [n, d]) :
    ReadsFor n .order .patronPause (writeFields [2, 2] [n, d]) (takePatronPause n d) :=
  readsFor_fields h (by decide) rfl (twoFields_writeFields _ h) fun _ => rfl

theorem fits_one {n : Nat} (h : n < 65536) : Fits [2] [n] :=
  .cons h .nil

theorem reads_patronResume {n : Nat} (h : n < 65536) :
    ReadsFor n .order .patronResume (writeFields [2] [n]) (takePatronResume n) :=
  readsFor_fields (fits_one h) (by decide) rfl (oneField_writeFields (w := 2) _ h) fun _ => rfl

theorem reads_patronRead {n : Nat} (h : n < 65536) :
    ReadsFor n .order .patronRead (writeFields [2] [n]) (takePatronRead n) :=
  readsFor_fields (fits_one h) (by decide) rfl (oneField_writeFields (w := 2) _ h) fun _ => rfl

theorem reads_wishRead {n : Nat} (h : n < 65536) : ReadsFor n .order .wishRead (writeFields [2] [n]) (takeWishRead n) :=
  readsFor_fields (fits_one h) (by decide) rfl (oneField_writeFields (w := 2) _ h) fun _ => rfl

/-! ### The patron a request names -/

theorem findPatron_some {s : State} {n : Nat} {p : Patron} (h1 : 1 ≤ n) (h2 : n ≤ 16384) (h : s.patrons.get n = some p) :
    findPatron s n = some p :=
  (if_pos ⟨h1, h2⟩).trans h

theorem findPatron_none {s : State} {n : Nat} (h : n = 0 ∨ 16384 < n ∨ s.patrons.get n = none) : findPatron s n = none := by
  unfold findPatron
  split
  · rename_i hn
    have hmax : Config.maxPatron = 16384 := rfl
    rcases h with h | h | h
    · omega
    · omega
    · exact h
  · rfl

theorem patronAnswer_some {s : State} {n : Nat} {p : Patron} (o : OutcomeCode) (h : s.patrons.get n = some p) :
    patronAnswer s n o = ⟨o, patronFields s n p⟩ := by
  simp [patronAnswer, h]

theorem Patron.wants_iff (p : Patron) : p.wants = true ↔ p.state = .active ∧ p.held < p.allowance := by
  simp [Patron.wants]

/-! ### PATRON-SET -/

theorem clampCls_eq (k : Nat) : clampCls k = if k ≤ 1 then Cls.c1 else if k = 2 then .c2 else .c3 := rfl

theorem clsCode_clampCls (k : Nat) : clsCode (clampCls k) = k ↔ 1 ≤ k ∧ k ≤ 3 := by
  rw [clampCls_eq]
  split_ifs <;> simp only [clsCode] <;> omega

theorem modeOfCode_none (m : Nat) : modeOfCode m = none ↔ ¬ (m = 1 ∨ m = 2) := by
  unfold modeOfCode
  split <;> simp_all

theorem modeOfCode_getD (m : Nat) : (modeOfCode m).getD .together = if m = 2 then .asReady else .together := by
  unfold modeOfCode
  split <;> simp_all

/-- PATRON-SET's values as the rule gives them (R23). -/
theorem patronValues_eq (a t k m : Nat) :
    patronValues a t k m = (max 1 (min 12 a), max 1 (min 8 t), clampCls k, if m = 2 then .asReady else .together,
      !decide (max 1 (min 12 a) = a ∧ max 1 (min 8 t) = t ∧ 1 ≤ k ∧ k ≤ 3 ∧ (m = 1 ∨ m = 2))) := by
  simp only [patronValues, clampTo_eq (show 1 ≤ 12 by decide), clampTo_eq (show 1 ≤ 8 by decide), modeOfCode_getD]
  refine congrArg _ (congrArg _ (congrArg _ (congrArg _ ?_)))
  rw [Bool.eq_iff_iff]
  simp only [Bool.or_eq_true, bne_iff_ne, ne_eq, clsCode_clampCls, Option.isNone_iff_eq_none, modeOfCode_none, Bool.not_eq_true',
    decide_eq_false_iff_not]
  tauto

theorem doneOr_bnot (b : Bool) : doneOr (!b) = if b then .done else .clamped := by
  cases b <;> rfl

theorem doneOr_not (c : Prop) [Decidable c] : doneOr (!decide c) = if c then .done else .clamped := by
  rw [doneOr_bnot]
  simp only [decide_eq_true_eq]

/-- Who stays on a list after a PATRON-SET: those before, and the patron where it stands on the list (R24). -/
theorem staysAfterSet_eq (n : Nat) (s : State) (c : Cls) :
    staysAfterSet n s c = if n ∈ s.blocked.get c ∧ n ∉ s.stays.get c then s.stays.get c ++ [n] else s.stays.get c := by
  by_cases hb : n ∈ s.blocked.get c <;> by_cases hs : n ∈ s.stays.get c <;> simp [staysAfterSet, appendNew, hb, hs]

/-- A patron record stored, and the patron on the pass queue where it may be given more (R23, R43). -/
theorem storePatron_eq (n : Nat) (p : Patron) (clamped : Bool) (s : State) :
    storePatron n p clamped s =
      let s' : State := { s with
        patrons := s.patrons.put n p
        passQueue := if p.state = .active ∧ p.held < p.allowance ∧ p.wishes ≠ [] ∧ n ∉ s.passQueue then s.passQueue ++ [n]
                     else s.passQueue }
      ⟨s', doneOr clamped, patronFields s' n p⟩ := by
  have hstate : (if p.wants ∧ p.wishes ≠ [] then appendPass n (s.putPatron n p) else s.putPatron n p) =
      { s with
        patrons := s.patrons.put n p
        passQueue := if p.state = .active ∧ p.held < p.allowance ∧ p.wishes ≠ [] ∧ n ∉ s.passQueue then s.passQueue ++ [n]
                     else s.passQueue } := by
    simp only [Patron.wants_iff, and_assoc]
    by_cases h : p.state = .active ∧ p.held < p.allowance ∧ p.wishes ≠ []
    · obtain ⟨h1, h2, h3⟩ := h
      by_cases hq : n ∈ s.passQueue <;> simp [h1, h2, h3, hq, appendPass, appendNew, State.putPatron]
    · have h' : ¬ (p.state = .active ∧ p.held < p.allowance ∧ p.wishes ≠ [] ∧ n ∉ s.passQueue) :=
        fun ⟨h1, h2, h3, _⟩ => h ⟨h1, h2, h3⟩
      rw [if_neg h, if_neg h']
      rfl
  rw [storePatron]
  dsimp only
  rw [hstate, patronAnswer_some _ (by simp : Table.get (s.patrons.put n p) n = some p)]

theorem takePatronSet_noSuch {s : State} {n : Nat} (a t k m : Nat) (h : n = 0 ∨ 16384 < n) :
    takePatronSet n a t k m s = refused s .noSuch := by
  have hmax : Config.maxPatron = 16384 := rfl
  rw [takePatronSet, if_pos (by omega)]

theorem takePatronSet_new {s : State} {n : Nat} (a t k m : Nat) (h1 : 1 ≤ n) (h2 : n ≤ 16384) (h : s.patrons.get n = none) :
    takePatronSet n a t k m s =
      storePatron n { state := .active, allowance := (patronValues a t k m).1, limit := (patronValues a t k m).2.1
                      cls := (patronValues a t k m).2.2.1, mode := (patronValues a t k m).2.2.2.1, held := 0, wishes := [] }
        (patronValues a t k m).2.2.2.2 s := by
  rw [takePatronSet, if_neg (not_not_intro ⟨h1, h2⟩), h]

theorem takePatronSet_closing {s : State} {n : Nat} {q : Patron} (a t k m : Nat) (h1 : 1 ≤ n) (h2 : n ≤ 16384)
    (h : s.patrons.get n = some q) (hq : q.state = .closing) : takePatronSet n a t k m s = refused s .state := by
  rw [takePatronSet, if_neg (not_not_intro ⟨h1, h2⟩), h]
  exact if_pos hq

theorem takePatronSet_open {s : State} {n : Nat} {q : Patron} (a t k m : Nat) (h1 : 1 ≤ n) (h2 : n ≤ 16384)
    (h : s.patrons.get n = some q) (hq : q.state ≠ .closing) :
    takePatronSet n a t k m s =
      storePatron n { q with allowance := (patronValues a t k m).1, limit := (patronValues a t k m).2.1
                             cls := (patronValues a t k m).2.2.1, mode := (patronValues a t k m).2.2.2.1 }
        (patronValues a t k m).2.2.2.2 (keepBlocked n s) := by
  rw [takePatronSet, if_neg (not_not_intro ⟨h1, h2⟩), h]
  exact if_neg hq

/-- Settles O15, by the record the number finds: none in range, none yet, one that is not CLOSING, one that is. -/
theorem patronSet : Obligations.PatronSet := by
  intro tag s n a t k m hr hf hn
  have hreads := reads_patronSet hf
  refine ⟨fun h => ?_, fun h1 h2 h => ?_, fun q h1 h2 h hq => ?_, fun q h1 h2 h hq => ?_⟩
  · exact congrArg Host.Outcome.next (hreads.answers hr hn (takePatronSet_noSuch a t k m h))
  · refine congrArg Host.Outcome.next (hreads.reply hr hn ((takePatronSet_new
      (s := admitted .order tag Kind.patronSet.code s) a t k m h1 h2 h).trans ?_)
      ⟨rfl, rfl, rfl, rfl, rfl, rfl, rfl, rfl, rfl⟩)
    rw [storePatron_eq, patronValues_eq, doneOr_not]
    simp only [ne_eq, not_true_eq_false, false_and, and_false, if_false]
    rfl
  · refine congrArg Host.Outcome.next (hreads.reply hr hn ((takePatronSet_open
      (s := admitted .order tag Kind.patronSet.code s) a t k m h1 h2 h hq).trans ?_)
      ⟨rfl, rfl, rfl, rfl, rfl, rfl, rfl, rfl, rfl⟩)
    rw [storePatron_eq, patronValues_eq, doneOr_not]
    simp only [keepBlocked, staysAfterSet_eq]
    rfl
  · exact congrArg Host.Outcome.next (hreads.answers hr hn (takePatronSet_closing a t k m h1 h2 h hq))

/-! ### PATRON-PAUSE and PATRON-RESUME -/

/-- The pause-until day stored: as sent for a length of 1 to 32,767, otherwise the next day (R25). -/
theorem pauseDay_eq {day d : Nat} (hday : day < 65536) (hd : d < 65536) :
    let given : Bool := decide (d ≠ day ∧ (d + 65536 - day) % 65536 ≤ 32767)
    pauseDay day d = (if given then d else (day + 1) % 65536, !given) := by
  have hlen : pauseLength day d = (d + 65536 - day) % 65536 := rfl
  have hmax : Config.maxPause = 32767 := rfl
  by_cases hg : d ≠ day ∧ (d + 65536 - day) % 65536 ≤ 32767
  · have hpos : 1 ≤ (d + 65536 - day) % 65536 := by omega
    simp [pauseDay, hlen, hmax, hg, hpos]
  · have hpos : ¬ (1 ≤ (d + 65536 - day) % 65536 ∧ (d + 65536 - day) % 65536 ≤ 32767) := by omega
    simp only [pauseDay, hlen, hmax, if_neg hpos, decide_eq_false hg]
    rfl

theorem takePatronPause_taken {s : State} {n d : Nat} {p : Patron} (hp : findPatron s n = some p)
    (hs : p.state = .active ∨ ∃ u, p.state = .paused u) :
    takePatronPause n d s =
      let s' := s.putPatron n { p with state := .paused (pauseDay s.day d).1 }
      ⟨s', doneOr (pauseDay s.day d).2, patronFields s' n { p with state := .paused (pauseDay s.day d).1 }⟩ := by
  have hget : ∀ q, (s.putPatron n q).patrons.get n = some q := fun q => by simp
  rcases hs with hs | ⟨u, hs⟩ <;> simp only [takePatronPause, hp, hs] <;> rw [patronAnswer_some _ (hget _)]

theorem takePatronPause_state {s : State} {n d : Nat} {p : Patron} (hp : findPatron s n = some p)
    (hs : p.state = .suspended ∨ p.state = .closing) : takePatronPause n d s = refused s .state := by
  rcases hs with hs | hs <;> simp only [takePatronPause, hp, hs]

theorem takePatronPause_noSuch {s : State} {n : Nat} (d : Nat) (hp : findPatron s n = none) :
    takePatronPause n d s = refused s .noSuch := by
  simp [takePatronPause, hp]

theorem suspensionHolds_iff (s : State) (n : Nat) :
    suspensionHolds s n = true ↔ ∃ l loan e, (l, loan) ∈ s.loans ∧ loan.patron = n ∧ loan.state = .overdue e
      ∧ s.settings.suspendAfter ≤ e := by
  simp only [suspensionHolds, List.any_eq_true, Bool.and_eq_true, beq_iff_eq, Prod.exists]
  refine exists_congr fun l => exists_congr fun loan => ⟨fun ⟨hm, hp, hs⟩ => ?_, fun ⟨e, hm, hp, hl, he⟩ => ⟨hm, hp, ?_⟩⟩
  · unfold Loan.suspends at hs
    split at hs
    · rename_i e he
      exact ⟨e, hm, hp, he, of_decide_eq_true hs⟩
    · cases hs
  · simpa [Loan.suspends, hl] using he

theorem takePatronResume_active {s : State} {n : Nat} {p : Patron} (hp : findPatron s n = some p)
    (hs : ∃ u, p.state = .paused u) (hl : suspensionHolds s n = false) :
    takePatronResume n s =
      let s' := appendPass n (s.putPatron n { p with state := .active })
      ⟨s', .done, patronFields s' n { p with state := .active }⟩ := by
  obtain ⟨u, hs⟩ := hs
  simp only [takePatronResume, hp, hs, endPause, hl]
  exact congrArg _ (patronAnswer_some _ (by simp [appendPass]))

theorem takePatronResume_late {s : State} {n : Nat} {p : Patron} (hp : findPatron s n = some p)
    (hs : ∃ u, p.state = .paused u) (hl : suspensionHolds s n = true) :
    takePatronResume n s =
      let s' := raise .order .patronSuspended (s.putPatron n { p with state := .suspended })
      ⟨s', .done, patronFields s' n { p with state := .suspended }⟩ := by
  obtain ⟨u, hs⟩ := hs
  simp only [takePatronResume, hp, hs, endPause, hl]
  exact congrArg _ (patronAnswer_some _ (by simp [raise, State.onPort]))

theorem takePatronResume_already {s : State} {n : Nat} {p : Patron} (hp : findPatron s n = some p) (hs : p.state = .active) :
    takePatronResume n s = refused s .already := by
  simp only [takePatronResume, hp, hs]

theorem takePatronResume_state {s : State} {n : Nat} {p : Patron} (hp : findPatron s n = some p)
    (hs : p.state = .suspended ∨ p.state = .closing) : takePatronResume n s = refused s .state := by
  rcases hs with hs | hs <;> simp only [takePatronResume, hp, hs]

theorem takePatronResume_noSuch {s : State} {n : Nat} (hp : findPatron s n = none) :
    takePatronResume n s = refused s .noSuch := by
  simp [takePatronResume, hp]

/-- Settles O16, by the patron's state and, for the end of a pause, its loans. -/
theorem patronPauseAndResume : Obligations.PatronPauseAndResume := by
  refine ⟨fun tag s n d p hr hf hn h1 h2 h hday => ?_, fun tag s n p hr hn h1 h2 h => ?_, fun tag s n d hr hf hn h => ?_⟩
  · have hreads := reads_patronPause hf
    have hd : d < 65536 := (List.forall₂_cons.1 (List.forall₂_cons.1 hf).2).1
    refine ⟨fun hs => ?_, fun hs => ?_⟩
    · refine congrArg Host.Outcome.next (hreads.reply hr hn ((takePatronPause_taken
        (s := admitted .order tag Kind.patronPause.code s) (findPatron_some h1 h2 h) hs).trans ?_)
        ⟨rfl, rfl, rfl, rfl, rfl, rfl, rfl, rfl, rfl⟩)
      have hdays : pauseDay (admitted .order tag Kind.patronPause.code s).day d = _ := pauseDay_eq hday hd
      rw [hdays, doneOr_bnot]
      rfl
    · exact congrArg Host.Outcome.next (hreads.answers hr hn (takePatronPause_state (findPatron_some h1 h2 h) hs))
  · have hreads := reads_patronResume (n := n) (by omega)
    refine ⟨fun hs hl => ?_, fun hs hl => ?_, fun hs => ?_, fun hs => ?_⟩
    · have hl' : suspensionHolds (admitted .order tag Kind.patronResume.code s) n = false :=
        (Bool.not_eq_true (suspensionHolds s n)).mp fun h => hl ((suspensionHolds_iff s n).1 h)
      exact congrArg Host.Outcome.next (hreads.reply hr hn (takePatronResume_active (findPatron_some h1 h2 h) hs hl')
        ⟨rfl, rfl, rfl, rfl, rfl, rfl, rfl, rfl, rfl⟩)
    · have hl' : suspensionHolds (admitted .order tag Kind.patronResume.code s) n = true := (suspensionHolds_iff s n).2 hl
      exact congrArg Host.Outcome.next (hreads.after hr hn _ (takePatronResume_late (findPatron_some h1 h2 h) hs hl'))
    · exact congrArg Host.Outcome.next (hreads.answers hr hn (takePatronResume_already (findPatron_some h1 h2 h) hs))
    · exact congrArg Host.Outcome.next (hreads.answers hr hn (takePatronResume_state (findPatron_some h1 h2 h) hs))
  · exact ⟨congrArg Host.Outcome.next
        ((reads_patronPause hf).answers hr hn (takePatronPause_noSuch d (findPatron_none h))),
      congrArg Host.Outcome.next
        ((reads_patronResume hf.head).answers hr hn (takePatronResume_noSuch (findPatron_none h)))⟩

/-! ### PATRON-READ and WISH-READ -/

theorem takePatronRead_some {s : State} {n : Nat} {p : Patron} (hp : findPatron s n = some p)
    (h : s.patrons.get n = some p) : takePatronRead n s = ⟨s, .done, patronFields s n p⟩ := by
  simp only [takePatronRead, hp, patronAnswer_some _ h]

theorem takePatronRead_noSuch {s : State} {n : Nat} (hp : findPatron s n = none) :
    takePatronRead n s = refused s .noSuch := by
  simp [takePatronRead, hp]

theorem takeWishRead_some {s : State} {n : Nat} {p : Patron} (hp : findPatron s n = some p) :
    takeWishRead n s = ⟨s, .done, if p.state = .closing then [] else p.wishes.flatMap (wishFields s n)⟩ := by
  by_cases hs : p.state = .closing <;> simp [takeWishRead, hp, hs]

theorem takeWishRead_noSuch {s : State} {n : Nat} (hp : findPatron s n = none) : takeWishRead n s = refused s .noSuch := by
  simp [takeWishRead, hp]

/-- Settles O18, by whether the patron has a record; the fields are those of R31 and R39. -/
theorem patronReadAndWishRead : Obligations.PatronReadAndWishRead := by
  refine ⟨fun tag s n hr hn hlt => ⟨fun p h1 h2 h => ?_, fun h => ⟨?_, ?_⟩⟩, fun tag s n p hr hn h1 h2 h => ?_⟩
  · exact congrArg Host.Outcome.next ((reads_patronRead hlt).answers hr hn
      (takePatronRead_some (findPatron_some h1 h2 h) h))
  · exact congrArg Host.Outcome.next ((reads_patronRead hlt).answers hr hn (takePatronRead_noSuch (findPatron_none h)))
  · exact congrArg Host.Outcome.next ((reads_wishRead hlt).answers hr hn (takeWishRead_noSuch (findPatron_none h)))
  · exact congrArg Host.Outcome.next ((reads_wishRead (by omega)).answers hr hn
      (takeWishRead_some (findPatron_some h1 h2 h)))

end Sys2Proof.Machine
end

section
/-! SUPPORT. Changes of a wish list: WISH-ADD, WISH-DROP and WISH-MOVE by their checks and effects (R35 to R38, R41). -/

namespace Sys2Proof.Machine

-- One declaration at a time: the check's memory does not hold many side by side.
set_option Elab.async false

/-! ### Bodies -/

theorem reads_wishAdd {n t f b : Nat} (h : Fits [2, 2, 1, 1] [n, t, f, b]) :
    ReadsFor n .order .wishAdd (writeFields [2, 2, 1, 1] [n, t, f, b]) (takeWishAdd n t f b) :=
  readsFor_fields h (by decide) rfl (fourFields_writeFields _ h) fun _ => rfl

theorem reads_wishDrop {n t f : Nat} (h : Fits [2, 2, 1] [n, t, f]) :
    ReadsFor n .order .wishDrop (writeFields [2, 2, 1] [n, t, f]) (takeWishDrop n t f) :=
  readsFor_fields h (by decide) rfl (threeFields_writeFields _ h) fun _ => rfl

theorem reads_wishMove {n t f b pos : Nat} (h : Fits [2, 2, 1, 1, 1] [n, t, f, b, pos]) :
    ReadsFor n .order .wishMove (writeFields [2, 2, 1, 1, 1] [n, t, f, b, pos]) (takeWishMove n t f b pos) :=
  readsFor_fields h (by decide) rfl (fiveFields_writeFields _ h) fun _ => rfl

/-! ### Codes, entries and positions -/

theorem formatOfCode_none {f : Nat} (h : f = 0 ∨ 2 < f) : formatOfCode f = none := by
  unfold formatOfCode
  split
  · omega
  · omega
  · rfl

theorem bandOrNormal_eq (b : Nat) : bandOrNormal b = if b = 1 then .urgent else .normal := by
  unfold bandOrNormal bandOfCode
  split <;> simp_all

theorem bandOrNormal_urgent (b : Nat) : bandOrNormal b = .urgent ↔ b = 1 := by
  rw [bandOrNormal_eq]
  split <;> simp_all

theorem bandOfCode_isNone (b : Nat) : (bandOfCode b).isNone = !decide (b = 1 ∨ b = 2) := by
  unfold bandOfCode
  split <;> simp_all

theorem isFor_iff (t : Nat) (f : Format) (w : WishEntry) : w.isFor t f = true ↔ w.title = t ∧ w.format = f := by
  simp [WishEntry.isFor]

theorem isFor_false {t : Nat} {f : Format} {w : WishEntry} (h : ¬ (w.title = t ∧ w.format = f)) : w.isFor t f = false := by
  simpa [← isFor_iff] using h

/-- A wish list read by its bands takes a new entry at the tail of its band (R36). -/
theorem addAtTail_eq {us ns : List WishEntry} (hu : ∀ w ∈ us, w.band = .urgent) (hn : ∀ w ∈ ns, w.band = .normal)
    (w : WishEntry) : addAtTail w (us ++ ns) = if w.band = .urgent then us ++ w :: ns else us ++ ns ++ [w] := by
  unfold addAtTail
  induction us with
  | nil =>
    cases hb : w.band with
    | urgent => cases ns <;> simp_all [insertBefore]
    | normal =>
      simp only [List.nil_append, reduceCtorEq, if_false]
      clear hn
      induction ns with
      | nil => rfl
      | cons y ys ih => simp [insertBefore, hb, ih]
  | cons y ys ih =>
    have hy := hu y (by simp)
    have ih := ih fun w hw => hu w (List.mem_cons_of_mem y hw)
    rw [List.cons_append, insertBefore, if_neg (by simp [hy]), ih]
    split <;> rfl

theorem wishPosition_append {t : Nat} {f : Format} {before after : List WishEntry} {w : WishEntry}
    (hw : w.title = t ∧ w.format = f) (h : ∀ x ∈ before, ¬ (x.title = t ∧ x.format = f)) :
    wishPosition t f (before ++ w :: after) = before.length + 1 := by
  rw [wishPosition, List.findIdx_append, List.findIdx_cons, (isFor_iff t f w).2 hw,
    List.findIdx_eq_length.2 fun x hx => isFor_false (h x hx)]
  simp

/-- The position a new entry takes (R34, R36). -/
theorem wishPosition_addAtTail {t : Nat} {f : Format} {us ns : List WishEntry} {w : WishEntry}
    (hu : ∀ x ∈ us, x.band = .urgent) (hn : ∀ x ∈ ns, x.band = .normal) (hw : w.title = t ∧ w.format = f)
    (h : ∀ x ∈ us ++ ns, ¬ (x.title = t ∧ x.format = f)) :
    wishPosition t f (addAtTail w (us ++ ns)) = if w.band = .urgent then us.length + 1 else us.length + ns.length + 1 := by
  rw [addAtTail_eq hu hn]
  split
  · exact wishPosition_append hw fun x hx => h x (List.mem_append_left _ hx)
  · rw [wishPosition_append hw h, List.length_append]

theorem addAtTail_length (w : WishEntry) (l : List WishEntry) : (addAtTail w l).length = l.length + 1 := by
  unfold addAtTail
  induction l with
  | nil => rfl
  | cons y ys ih =>
    rw [insertBefore]
    split
    · rfl
    · rw [List.length_cons, ih, List.length_cons]

theorem find_isFor_append {t : Nat} {f : Format} {before after : List WishEntry} {w : WishEntry}
    (hw : w.title = t ∧ w.format = f) (h : ∀ x ∈ before, ¬ (x.title = t ∧ x.format = f)) :
    (before ++ w :: after).find? (WishEntry.isFor t f) = some w := by
  have hb : before.find? (WishEntry.isFor t f) = none :=
    List.find?_eq_none.2 fun x hx hf => h x hx ((isFor_iff t f x).1 hf)
  rw [List.find?_append, hb, Option.none_or, List.find?_cons_of_pos ((isFor_iff t f w).2 hw)]

theorem erase_append_entry {t : Nat} {f : Format} {before after : List WishEntry} {w : WishEntry}
    (hw : w.title = t ∧ w.format = f) (h : ∀ x ∈ before, ¬ (x.title = t ∧ x.format = f)) :
    (before ++ w :: after).erase w = before ++ after := by
  rw [List.erase_append_right _ fun hm => h w hm hw, List.erase_cons_head]

theorem urgentOf_append {us ns : List WishEntry} (hu : ∀ w ∈ us, w.band = .urgent) (hn : ∀ w ∈ ns, w.band = .normal) :
    urgentOf (us ++ ns) = us := by
  rw [urgentOf, List.filter_append, List.filter_eq_self.2 fun w hw => by simp [hu w hw],
    List.filter_eq_nil_iff.2 fun w hw => by simp [hn w hw], List.append_nil]

theorem movePosition_eq {len : Nat} (b u pos : Nat) (h : 1 ≤ len) :
    movePosition (bandOrNormal b) u len pos =
      if b = 1 then min (max 1 (min len pos)) (u + 1) else max (max 1 (min len pos)) (u + 1) := by
  rw [bandOrNormal_eq]
  by_cases hb : b = 1 <;> simp only [hb, if_true, if_false, movePosition, clampTo_eq h] <;> split_ifs <;> omega

/-- A patron who wants more joins the pass queue, where not on it already (R43). -/
theorem appendPass_wants (n : Nat) (p : Patron) (s : State) :
    (if p.wants = true then appendPass n s else s) =
      { s with passQueue := if p.state = .active ∧ p.held < p.allowance ∧ n ∉ s.passQueue then s.passQueue ++ [n]
                            else s.passQueue } := by
  by_cases hw : p.wants = true
  · obtain ⟨h1, h2⟩ := p.wants_iff.1 hw
    by_cases hq : n ∈ s.passQueue <;> simp [hw, h1, h2, hq, appendPass_eq]
  · have hno : ¬ (p.state = .active ∧ p.held < p.allowance ∧ n ∉ s.passQueue) := fun ⟨h1, h2, _⟩ => hw (p.wants_iff.2 ⟨h1, h2⟩)
    rw [if_neg hw, if_neg hno]

/-! ### WISH-ADD -/

theorem takeWishAdd_noSuch {s : State} {n : Nat} (t f b : Nat) (hp : findPatron s n = none) :
    takeWishAdd n t f b s = refused s .noSuch := by
  simp [takeWishAdd, hp]

theorem takeWishAdd_closing {s : State} {n : Nat} {p : Patron} (t f b : Nat) (hp : findPatron s n = some p)
    (hs : p.state = .closing) : takeWishAdd n t f b s = refused s .state := by
  simp [takeWishAdd, hp, hs]

theorem takeWishAdd_noTitle {s : State} {n t f : Nat} {p : Patron} (b : Nat) (hp : findPatron s n = some p)
    (hs : p.state ≠ .closing) (h : t = 0 ∨ 60000 < t ∨ s.titles.get t = none ∨ f = 0 ∨ 2 < f) :
    takeWishAdd n t f b s = refused s .noSuch := by
  have hmax : Config.maxTitle = 60000 := rfl
  have hfind : (if 1 ≤ t ∧ t ≤ Config.maxTitle then s.titles.get t else none) = none ∨ formatOfCode f = none := by
    rcases h with h | h | h | h
    · exact .inl (if_neg (by omega))
    · exact .inl (if_neg (by omega))
    · exact .inl (by rw [h, ite_self])
    · exact .inr (formatOfCode_none h)
  simp only [takeWishAdd, hp, if_neg hs]
  rcases hfind with hfind | hfind <;> rw [hfind]
  split <;> simp_all

section
variable {s : State} {n t f : Nat} {p : Patron} {r : Title} {fmt : Format}
  (hp : findPatron s n = some p) (hs : p.state ≠ .closing) (h1 : 1 ≤ t) (h2 : t ≤ 60000) (hr : s.titles.get t = some r)
  (hf : formatOfCode f = some fmt)
include hp hs h1 h2 hr hf

theorem takeWishAdd_refused {o : OutcomeCode} (b : Nat) (hc : wishAddCheck s n p t r fmt = some o) :
    takeWishAdd n t f b s = refused s o := by
  have hfind : (if 1 ≤ t ∧ t ≤ Config.maxTitle then s.titles.get t else none) = some r := (if_pos ⟨h1, h2⟩).trans hr
  simp only [takeWishAdd, hp, if_neg hs, hfind, hf, hc]

theorem takeWishAdd_taken (b : Nat) (hc : wishAddCheck s n p t r fmt = none) :
    takeWishAdd n t f b s =
      let w : WishEntry := { title := t, format := fmt, band := bandOrNormal b, addedDay := s.day }
      ⟨addWish n p w s, doneOr (bandOfCode b).isNone,
        [f1 (wishPosition t fmt (addAtTail w p.wishes)), f2 (addAtTail w p.wishes).length]⟩ := by
  have hfind : (if 1 ≤ t ∧ t ≤ Config.maxTitle then s.titles.get t else none) = some r := (if_pos ⟨h1, h2⟩).trans hr
  simp only [takeWishAdd, hp, if_neg hs, hfind, hf, hc]

end

theorem listed_iff (p : Patron) (t : Nat) (f : Format) :
    p.wishes.any (WishEntry.isFor t f) = true ↔ ∃ w ∈ p.wishes, w.title = t ∧ w.format = f := by
  simp [List.any_eq_true, isFor_iff]

theorem unlisted {p : Patron} {t : Nat} {f : Format} (h : ¬ ∃ w ∈ p.wishes, w.title = t ∧ w.format = f) :
    p.wishes.any (WishEntry.isFor t f) = false :=
  Bool.eq_false_of_not_eq_true (mt (listed_iff p t f).1 h)

/-- WISH-ADD's effect on a list whose bands are known (R36, R41). -/
theorem addWish_eq {s : State} {n t : Nat} {p : Patron} {r : Title} {w : WishEntry} (hr : s.titles.get t = some r)
    (hw : w.title = t) :
    addWish n p w s = { s with
      patrons := s.patrons.put n { p with wishes := addAtTail w p.wishes }
      titles := if w.format = .braille then
          s.titles.put t { r with waiting := if n ∈ r.waiting then r.waiting else r.waiting ++ [n] }
        else s.titles
      passQueue := if p.state = .active ∧ p.held < p.allowance ∧ n ∉ s.passQueue then s.passQueue ++ [n]
                   else s.passQueue } := by
  unfold addWish
  simp only [appendPass_wants]
  by_cases hb : w.format = .braille
  · simp only [hb, if_true, onWaiting, State.putPatron, hw, Table.modify_some _ hr]
    rfl
  · simp only [hb, if_false]
    rfl

/-- Settles O20, check by check in their order. -/
theorem wishAddRefusals : Obligations.WishAddRefusals := by
  intro tag s n t f b hr hf hn
  have hreads := reads_wishAdd hf
  have gives : ∀ o, takeWishAdd n t f b (admitted .order tag Kind.wishAdd.code s) = refused _ o →
      exec (.wishAdd .order tag (writeFields [2, 2, 1, 1] [n, t, f, b])) s =
        .next (s.reply .order tag .wishAdd ⟨o, []⟩ s) :=
    fun o he => congrArg Host.Outcome.next (hreads.answers hr hn he)
  refine ⟨fun h => gives _ (takeWishAdd_noSuch t f b (findPatron_none h)), fun p h1 h2 h => ?_⟩
  have hp := findPatron_some (s := admitted .order tag Kind.wishAdd.code s) h1 h2 h
  refine ⟨fun hs => gives _ (takeWishAdd_closing t f b hp hs), fun hs hno => gives _ (takeWishAdd_noTitle b hp hs hno),
    fun r fmt hs ht1 ht2 ht hfmt => ?_⟩
  have refuses : ∀ o, wishAddCheck s n p t r fmt = some o →
      exec (.wishAdd .order tag (writeFields [2, 2, 1, 1] [n, t, f, b])) s =
        .next (s.reply .order tag .wishAdd ⟨o, []⟩ s) :=
    fun o hc => gives o (takeWishAdd_refused hp hs ht1 ht2 ht hfmt b hc)
  have hmax : Config.maxWishes = 64 := rfl
  have hstore : Config.maxWishEntries = 262144 := rfl
  refine ⟨fun hl => refuses _ ?_, fun hl hh => refuses _ ?_, fun hl hh hw => refuses _ ?_,
    fun hl hh hw (hform : r.hasForm fmt = false) => refuses _ ?_,
    fun hl hh hw (hform : r.hasForm fmt = true) hlen => refuses _ ?_,
    fun hl hh hw (hform : r.hasForm fmt = true) hlen hc => refuses _ ?_⟩
  · rw [wishAddCheck, if_pos ((listed_iff p t fmt).2 hl)]
  · rw [wishAddCheck, if_neg (by simp [unlisted hl]), if_pos hh]
  · simp [wishAddCheck, unlisted hl, hh, hw]
  · simp [wishAddCheck, unlisted hl, hh, hw, hform]
  · simp [wishAddCheck, unlisted hl, hh, hw, hform, hmax, hlen]
  · simp [wishAddCheck, unlisted hl, hh, hw, hform, hmax, hstore, Nat.not_le.2 hlen, hc]

/-- Settles O19: every check passes, and the entry stands behind the entries of its band. -/
theorem wishAdd : Obligations.WishAdd := by
  intro tag s n t f b p r fmt us ns hr hf hn h1 h2 ht1 ht2 h hs ht hfmt hwishes hus hns hno hheld hwd himage hbraille hlen hcount
  have hmax : Config.maxWishes = 64 := rfl
  have hstore : Config.maxWishEntries = 262144 := rfl
  have hlisted : p.wishes.any (WishEntry.isFor t fmt) = false := unlisted fun ⟨w, hw, hfor⟩ => hno w hw hfor
  have hform : r.hasForm fmt = true := by
    cases fmt
    · exact Option.isSome_iff_ne_none.2 (himage rfl)
    · exact Option.isSome_iff_ne_none.2 (hbraille rfl)
  have hcheck : wishAddCheck s n p t r fmt = none := by
    simp [wishAddCheck, hlisted, hheld, hwd, hform, hmax, hstore, Nat.not_le.2 hlen, Nat.not_le.2 hcount]
  have hp := findPatron_some (s := admitted .order tag Kind.wishAdd.code s) h1 h2 h
  refine congrArg Host.Outcome.next ((reads_wishAdd hf).reply hr hn ((takeWishAdd_taken
    (s := admitted .order tag Kind.wishAdd.code s) hp hs ht1 ht2 ht hfmt b hcheck).trans ?_)
    ⟨rfl, rfl, rfl, rfl, rfl, rfl, rfl, rfl, rfl⟩)
  have htitle : (admitted .order tag Kind.wishAdd.code s).titles.get t = some r := ht
  have hday : (admitted .order tag Kind.wishAdd.code s).day = s.day := rfl
  have hnot : ∀ x ∈ us ++ ns, ¬ (x.title = t ∧ x.format = fmt) := hwishes ▸ hno
  let w : WishEntry := { title := t, format := fmt, band := bandOrNormal b, addedDay := s.day }
  have htail : addAtTail w p.wishes = if b = 1 then us ++ w :: ns else us ++ ns ++ [w] := by
    rw [hwishes, addAtTail_eq hus hns]
    simp only [w, bandOrNormal_urgent]
  have hpos : wishPosition t fmt (addAtTail w p.wishes) = if b = 1 then us.length + 1 else us.length + ns.length + 1 := by
    rw [hwishes, wishPosition_addAtTail (w := w) hus hns ⟨rfl, rfl⟩ hnot]
    simp only [w, bandOrNormal_urgent]
  dsimp only
  rw [addWish_eq htitle rfl, bandOfCode_isNone, doneOr_not, hday, hpos, addAtTail_length, htail]
  simp only [w, bandOrNormal_eq]
  rfl

/-! ### The entry a request names -/

theorem findWish_noPatron {s : State} {n : Nat} (t f : Nat) (hp : findPatron s n = none) :
    findWish s n t f = .error .noSuch := by
  simp [findWish, hp]

theorem findWish_closing {s : State} {n : Nat} {p : Patron} (t f : Nat) (hp : findPatron s n = some p)
    (hs : p.state = .closing) : findWish s n t f = .error .state := by
  simp [findWish, hp, hs]

theorem findWish_noFormat {s : State} {n f : Nat} {p : Patron} (t : Nat) (hp : findPatron s n = some p)
    (hs : p.state ≠ .closing) (hf : f = 0 ∨ 2 < f) : findWish s n t f = .error .noSuch := by
  simp [findWish, hp, hs, formatOfCode_none hf]

theorem findWish_unlisted {s : State} {n t f : Nat} {p : Patron} {fmt : Format} (hp : findPatron s n = some p)
    (hs : p.state ≠ .closing) (hf : formatOfCode f = some fmt) (h : ∀ x ∈ p.wishes, ¬ (x.title = t ∧ x.format = fmt)) :
    findWish s n t f = .error .noSuch := by
  have hnone : p.wishes.find? (WishEntry.isFor t fmt) = none :=
    List.find?_eq_none.2 fun x hx hfor => h x hx ((isFor_iff t fmt x).1 hfor)
  simp [findWish, hp, hs, hf, hnone]

theorem findWish_listed {s : State} {n t f : Nat} {p : Patron} {fmt : Format} {before after : List WishEntry}
    {w : WishEntry} (hp : findPatron s n = some p) (hs : p.state ≠ .closing) (hf : formatOfCode f = some fmt)
    (hl : p.wishes = before ++ w :: after) (hw : w.title = t ∧ w.format = fmt)
    (hb : ∀ x ∈ before, ¬ (x.title = t ∧ x.format = fmt)) : findWish s n t f = .ok (p, w) := by
  simp [findWish, hp, hs, hf, hl, find_isFor_append hw hb]

/-! ### WISH-DROP -/

theorem takeWishDrop_refused {s : State} {n t f : Nat} {o : OutcomeCode} (h : findWish s n t f = .error o) :
    takeWishDrop n t f s = refused s o := by
  simp [takeWishDrop, h]

theorem takeWishDrop_taken {s : State} {n t f : Nat} {p : Patron} {w : WishEntry} {rest : List WishEntry}
    (h : findWish s n t f = .ok (p, w)) (hrest : p.wishes.erase w = rest) :
    takeWishDrop n t f s = ⟨{ s with
        patrons := s.patrons.put n { p with wishes := rest }
        titles := if w.format = .braille then s.titles.modify w.title (fun r => { r with waiting := r.waiting.erase n })
                  else s.titles }, .done, [f2 rest.length]⟩ := by
  subst hrest
  by_cases hb : w.format = .braille <;> simp [takeWishDrop, h, hb, leaveWaiting, onWaiting, State.putPatron]

/-- Settles O21, by what the request's numbers find. -/
theorem wishDrop : Obligations.WishDrop := by
  intro tag s n t f hr hf hn
  have hreads := reads_wishDrop hf
  have refuses : ∀ o, findWish (admitted .order tag Kind.wishDrop.code s) n t f = .error o →
      exec (.wishDrop .order tag (writeFields [2, 2, 1] [n, t, f])) s =
        .next (s.reply .order tag .wishDrop ⟨o, []⟩ s) :=
    fun o he => congrArg Host.Outcome.next (hreads.answers hr hn (takeWishDrop_refused he))
  refine ⟨fun h => refuses _ (findWish_noPatron t f (findPatron_none h)), fun p h1 h2 h => ?_⟩
  have hp := findPatron_some (s := admitted .order tag Kind.wishDrop.code s) h1 h2 h
  refine ⟨fun hs => refuses _ (findWish_closing t f hp hs), fun hs hno => refuses _ (findWish_noFormat t hp hs hno),
    fun fmt hs hfmt => ⟨fun before after w hl ht hw hb => ?_, fun hno => refuses _ (findWish_unlisted hp hs hfmt hno)⟩⟩
  subst ht hw
  refine congrArg Host.Outcome.next (hreads.reply hr hn ((takeWishDrop_taken
    (findWish_listed hp hs hfmt hl ⟨rfl, rfl⟩ hb) (hl ▸ erase_append_entry ⟨rfl, rfl⟩ hb)).trans ?_)
    ⟨rfl, rfl, rfl, rfl, rfl, rfl, rfl, rfl, rfl⟩)
  rw [List.length_append]
  rfl

/-! ### WISH-MOVE -/

theorem takeWishMove_refused {s : State} {n t f : Nat} {o : OutcomeCode} (b pos : Nat) (h : findWish s n t f = .error o) :
    takeWishMove n t f b pos s = refused s o := by
  simp [takeWishMove, h]

/-- WISH-MOVE's effect with the position it comes to (R38). -/
theorem takeWishMove_taken {s : State} {n t f b pos at' : Nat} {p : Patron} {w : WishEntry} {rest : List WishEntry}
    (h : findWish s n t f = .ok (p, w)) (hrest : p.wishes.erase w = rest)
    (hat : movePosition (bandOrNormal b) (urgentOf rest).length p.wishes.length pos = at') :
    takeWishMove n t f b pos s =
      let moved := rest.take (at' - 1) ++ { w with band := bandOrNormal b } :: rest.drop (at' - 1)
      ⟨{ s with
        patrons := s.patrons.put n { p with wishes := moved }
        passQueue := if p.state = .active ∧ p.held < p.allowance ∧ n ∉ s.passQueue then s.passQueue ++ [n]
                     else s.passQueue },
        if (b = 1 ∨ b = 2) ∧ at' = pos then .done else .clamped, [f1 at', f2 moved.length]⟩ := by
  subst hrest hat
  have hclamped : ∀ k : Nat, ((bandOfCode b).isNone || k != pos) = !decide ((b = 1 ∨ b = 2) ∧ k = pos) := fun k => by
    rw [bandOfCode_isNone, Bool.decide_and, Bool.not_and]
    rfl
  simp only [takeWishMove, h, hclamped, doneOr_not, appendPass_wants]
  rfl

theorem length_take_cons_drop {α : Type} (l : List α) (k : Nat) (x : α) : (l.take k ++ x :: l.drop k).length = l.length + 1 := by
  simp only [List.length_append, List.length_take, List.length_cons, List.length_drop]
  omega

/-- Settles O22, by what the request's numbers find. -/
theorem wishMove : Obligations.WishMove := by
  intro tag s n t f b pos hr hf hn
  have hreads := reads_wishMove hf
  have refuses : ∀ o, findWish (admitted .order tag Kind.wishMove.code s) n t f = .error o →
      exec (.wishMove .order tag (writeFields [2, 2, 1, 1, 1] [n, t, f, b, pos])) s =
        .next (s.reply .order tag .wishMove ⟨o, []⟩ s) :=
    fun o he => congrArg Host.Outcome.next (hreads.answers hr hn (takeWishMove_refused b pos he))
  refine ⟨fun h => refuses _ (findWish_noPatron t f (findPatron_none h)), fun p h1 h2 h => ?_⟩
  have hp := findPatron_some (s := admitted .order tag Kind.wishMove.code s) h1 h2 h
  refine ⟨fun hs => refuses _ (findWish_closing t f hp hs), fun hs hno => refuses _ (findWish_noFormat t hp hs hno),
    fun fmt hs hfmt => ⟨fun hno => refuses _ (findWish_unlisted hp hs hfmt hno),
      fun before after us ns w hl ht hw hb hparts hus hns => ?_⟩⟩
  subst ht hw
  have hlen : p.wishes.length = (before ++ after).length + 1 := by
    rw [hl, List.length_append, List.length_append, List.length_cons, Nat.add_assoc]
  have hat := movePosition_eq (len := p.wishes.length) b us.length pos (by omega)
  rw [← urgentOf_append hus hns, ← hparts] at hat
  refine congrArg Host.Outcome.next (hreads.reply hr hn ((takeWishMove_taken
    (findWish_listed hp hs hfmt hl ⟨rfl, rfl⟩ hb) (hl ▸ erase_append_entry ⟨rfl, rfl⟩ hb) hat).trans ?_)
    ⟨rfl, rfl, rfl, rfl, rfl, rfl, rfl, rfl, rfl⟩)
  dsimp only
  rw [length_take_cons_drop, ← hlen, bandOrNormal_eq, hparts, urgentOf_append hus hns]
  rfl

end Sys2Proof.Machine
end

section
/-! SUPPORT. The Check-in Unit (chapter 9): CART-IN by the cartridge's state and VOL-IN of a set on loan, over the loan's closing
and the suspension check (R142, R151 to R158). -/

namespace Sys2Proof.Machine

-- One declaration at a time: the check's memory does not hold many side by side.
set_option Elab.async false

/-! ### The suspension check of one patron -/

/-- A suspension check of a patron with a record: its state follows its loans, PATRON-SUSPENDED where it is suspended, and the
pass queue where it is ACTIVE again (R27, R28, R142). -/
theorem suspensionCheck_get {s : State} {n : Nat} {p : Patron} (h : s.patrons.get n = some p) :
    let now := p.state.checked (suspensionHolds s n)
    suspensionCheck n s = raiseIf (p.state != .suspended && now == .suspended) .order .patronSuspended
      { s with
        patrons := if now = p.state then s.patrons else s.patrons.put n { p with state := now }
        passQueue := if now = .active ∧ p.state = .suspended ∧ n ∉ s.passQueue then s.passQueue ++ [n]
                     else s.passQueue } := by
  cases hp : p.state with
  | active =>
    cases hl : suspensionHolds s n <;> simp [suspensionCheck, h, hp, hl, PatronState.checked, raiseIf, State.putPatron]
  | suspended =>
    cases hl : suspensionHolds s n
    · by_cases hq : n ∈ s.passQueue <;>
        simp [suspensionCheck, h, hp, hl, hq, PatronState.checked, raiseIf, State.putPatron, appendPass_eq]
    · simp [suspensionCheck, h, hp, hl, PatronState.checked, raiseIf]
  | paused d => simp [suspensionCheck, h, hp, PatronState.checked, raiseIf]
  | closing => simp [suspensionCheck, h, hp, PatronState.checked, raiseIf]

/-- The suspension condition, where loan `n` was put into a state that does not suspend, is another loan overdue by suspend-after
(R142, R156). -/
theorem suspensionHolds_put {s t : State} {n : Nat} {l : Loan} (m : Nat) (hwf : s.loans.wf = true)
    (hl : t.loans = s.loans.put n l) (hs : t.settings = s.settings) (hnot : l.suspends s.settings.suspendAfter = false) :
    suspensionHolds t m = lateBesides s n m := by
  have hother : ∀ e : Nat × Loan, e.1 ≠ n → (e ∈ s.loans.put n l ↔ e ∈ s.loans) := fun e he => by
    refine ⟨fun hm => ?_, fun hm => ?_⟩
    · refine (Table.mem_put hm).resolve_left fun heq => he (by rw [heq])
    · have hget : (s.loans.put n l).get e.1 = some e.2 := by
        rw [Table.get_put_other _ _ he, Table.get_of_mem hwf hm]
      exact Table.mem_of_get hget
  rw [Bool.eq_iff_iff]
  simp only [suspensionHolds, lateBesides, hl, hs, List.any_eq_true, Bool.and_eq_true, bne_iff_ne]
  refine ⟨fun ⟨e, he, hp, hsus⟩ => ?_, fun ⟨e, he, ⟨hn, hp⟩, hsus⟩ => ⟨e, (hother e hn).2 he, hp, hsus⟩⟩
  have hn : e.1 ≠ n := fun hn => by
    have hv := Table.get_of_mem (Table.wf_put hwf n l) he
    rw [hn, Table.get_put_same] at hv
    rw [← Option.some.inj hv, hnot] at hsus
    cases hsus
  exact ⟨e, (hother e hn).1 he, ⟨hn, hp⟩, hsus⟩

theorem raiseAll_suspendedKinds (was now : PatronState) (s : State) :
    raiseAll (suspendedKinds was now) s = raiseIf (was != .suspended && now == .suspended) .order .patronSuspended s :=
  raiseAll_dueIf _ _ _ s

/-! ### CART-IN -/

theorem reads_cartIn {serial : Nat} (h : serial < 256 ^ 4) :
    Reads .returns .cartIn (writeFields [4] [serial]) (takeCartIn serial) :=
  ⟨writeFields_short rfl (by decide), rfl, oneField_writeFields (w := 4) _ h, rfl⟩

/-- H and the state of a patron after its loan closed (R153; log entry 31). -/
theorem afterClosing_checkedIn (s : State) (n : Nat) (l : Loan) (p : Patron) :
    afterClosing (s.checkedIn n l p) l.patron = [f1 (p.held - 1), f1 (s.rechecked n l p).code] := by
  by_cases hp : p.state = .closing ∧ p.held ≤ 1
  · obtain ⟨hclosing, hheld⟩ := hp
    have hnow : s.rechecked n l p = .closing := by
      unfold State.rechecked
      split <;> simp [hclosing, PatronState.checked]
    simp [afterClosing, State.checkedIn, hclosing, hheld, hnow, Nat.sub_eq_zero_of_le hheld]
  · simp [afterClosing, State.checkedIn, hp]

theorem takeCartIn_noSuch {s : State} {serial : Nat} (h : s.carts.get serial = none) :
    takeCartIn serial s = refused s .noSuch := by
  simp [takeCartIn, h]

theorem takeCartIn_retired {s : State} {serial : Nat} {c : Cart} (h : s.carts.get serial = some c) (hc : c.state = .retired) :
    takeCartIn serial s = ⟨s, .retired, wearFields c⟩ := by
  simp [takeCartIn, h, hc]

theorem takeCartIn_lost {s : State} {serial : Nat} {c : Cart} (h : s.carts.get serial = some c) (hc : c.state = .lost) :
    takeCartIn serial s = ⟨{ s with
      carts := s.carts.put serial { c with state := .unwiped }
      unwiped := s.unwiped ++ [serial] }, .found, wearFields c⟩ := by
  simp [takeCartIn, h, hc, toUnwiped_eq h]

theorem takeCartIn_notOnLoan {s : State} {serial : Nat} {c : Cart} (h : s.carts.get serial = some c)
    (hr : c.state ≠ .retired) (hl : c.state ≠ .lost) (ho : ∀ n, c.state ≠ .onLoan n) :
    takeCartIn serial s = ⟨s, .notOnLoan, [f1 c.state.code, f1 (clsCode c.cls)]⟩ := by
  cases hc : c.state with
  | retired => exact absurd hc hr
  | lost => exact absurd hc hl
  | onLoan n => exact absurd hc (ho n)
  | unwiped => simp [takeCartIn, h, hc]
  | blank => simp [takeCartIn, h, hc]
  | loaded j => simp [takeCartIn, h, hc]
  | wiping => simp [takeCartIn, h, hc]
  | written o p => simp [takeCartIn, h, hc]

/-- CART-IN of an ON-LOAN cartridge: UNWIPED, and its loan closed (R153). -/
theorem takeCartIn_onLoan {s : State} {serial n : Nat} {c : Cart} {l : Loan} {p : Patron}
    (h : s.carts.get serial = some c) (hc : c.state = .onLoan n) (hl : s.loans.get n = some l)
    (hp : s.patrons.get l.patron = some p) :
    takeCartIn serial s =
      let unwiped : State := { s with
        carts := s.carts.put serial { c with state := .unwiped }
        unwiped := s.unwiped ++ [serial] }
      let now := s.rechecked n l p
      ⟨raiseAll (suspendedKinds p.state now) (unwiped.checkedIn n l p), .done,
        [f3 n, f2 l.patron, f1 l.state.code] ++ overdueFields l.state ++ [f1 l.renewals] ++ l.object.titles.map f2
          ++ [f1 (clsCode c.cls)] ++ [f1 (p.held - 1), f1 now.code]⟩ := by
  have hpatron : ∀ (cs : Table Cart) (us : List Nat),
      ({ s with carts := cs, unwiped := us } : State).patrons.get l.patron = some p :=
    fun _ _ => hp
  have hafter : ∀ (b : Bool) (u : State), afterClosing (raiseIf b .order .patronSuspended u) l.patron = afterClosing u l.patron :=
    fun b u => by simp [afterClosing]
  simp only [takeCartIn, h, hc, hl, cartInOnLoan, toUnwiped_eq h, checkInLoan_eq n (hpatron _ _), raiseAll_suspendedKinds,
    hafter, afterClosing_checkedIn]
  rfl

/-- Settles O47, by the cartridge's state. -/
theorem cartIn : Obligations.CartIn := by
  intro tag s serial hr hlt
  have hreads := reads_cartIn hlt
  refine ⟨fun h => congrArg Host.Outcome.next (hreads.answers hr (takeCartIn_noSuch h)), fun c h =>
    ⟨fun hc => congrArg Host.Outcome.next (hreads.answers hr (takeCartIn_retired h hc)),
      fun h1 h2 h3 => congrArg Host.Outcome.next (hreads.answers hr (takeCartIn_notOnLoan h h1 h2 h3)),
      fun hc => congrArg Host.Outcome.next (hreads.after hr [] (takeCartIn_lost h hc)), fun n l p hc hl _ hp => ?_⟩⟩
  exact congrArg Host.Outcome.next (hreads.after hr _ (takeCartIn_onLoan h hc hl hp))

/-! ### VOL-IN of a set on loan -/

theorem reads_volIn {k v : Nat} (h : Fits [2, 1] [k, v]) :
    Reads .returns .volIn (writeFields [2, 1] [k, v]) (takeVolIn k v) :=
  ⟨writeFields_short rfl (by decide), rfl, twoFields_writeFields _ h, rfl⟩

theorem volumeCount_eq {s : State} {t : Nat} {ti : Title} {weights : List Nat} (h : s.titles.get t = some ti)
    (hb : ti.braille = some weights) : volumeCount s t = weights.length := by
  simp [volumeCount, h, hb]

/-- The answer of a VOL-IN that leaves the loan PARTIAL (R155, R156, R157). -/
def partAnswer (o : OutcomeCode) (k title count n : Nat) (vols : List Nat) (grace : Nat) : Answer :=
  ⟨o, [f2 k, f2 title, f2 count, f1 5] ++ [f3 n, f1 3] ++ vols.map f1 ++ [f1 grace, f1 0, f1 0]⟩

theorem volTaken_part {t : State} {k n grace : Nat} {c : CopySet} {l : Loan} {vols : List Nat} {ti : Title}
    {weights : List Nat} (o : OutcomeCode) (hc : t.copySets.get k = some c) (ht : t.titles.get c.title = some ti)
    (hb : ti.braille = some weights) (hn : c.state = .onLoan n) (hl : t.loans.get n = some l)
    (hst : l.state = .part vols grace) :
    volTaken t k o false false = ⟨t, partAnswer o k c.title weights.length n vols grace⟩ := by
  simp only [volTaken, volAnswer, hc, volumeCount_eq ht hb, hn, volStateFields, hl, hst, Loan.returned]
  simp [partAnswer, SetState.code, LoanState.code, fFlag, f1]

/-- The answer of a VOL-IN that makes the set AVAILABLE as its loan closes (R155, R158). -/
theorem volTaken_closed {t : State} {k : Nat} {c : CopySet} {ti : Title} {weights : List Nat} (o : OutcomeCode)
    (hc : t.copySets.get k = some c) (ht : t.titles.get c.title = some ti) (hb : ti.braille = some weights)
    (hn : c.state = .available) :
    volTaken t k o true true = ⟨t, ⟨o, [f2 k, f2 c.title, f2 weights.length, f1 1] ++ [f1 1, f1 1]⟩⟩ := by
  simp only [volTaken, volAnswer, hc, volumeCount_eq ht hb, hn, volStateFields]
  simp [SetState.code, fFlag, f1]

section
variable {s : State} {k v n : Nat} {c : CopySet} {l : Loan} {p : Patron} {ti : Title} {weights : List Nat}
  (hc : s.copySets.get k = some c) (ht : s.titles.get c.title = some ti) (hb : ti.braille = some weights)
include hc ht hb

theorem takeVolIn_noVolume (h : v = 0 ∨ weights.length < v) : takeVolIn k v s = refused s .noSuch := by
  simp [takeVolIn, hc, volumeCount_eq ht hb, h]

theorem takeVolIn_notOnLoan (h1 : 1 ≤ v) (h2 : v ≤ weights.length) (ho : ∀ n, c.state ≠ .onLoan n)
    (hi : ∀ vs, c.state ≠ .incomplete vs) : takeVolIn k v s = ⟨s, .notOnLoan, [f1 c.state.code]⟩ := by
  have hv : ¬ (v = 0 ∨ weights.length < v) := by omega
  simp only [takeVolIn, hc, volumeCount_eq ht hb, if_neg hv]

theorem takeVolIn_onLoan (h1 : 1 ≤ v) (h2 : v ≤ weights.length) (hn : c.state = .onLoan n) (hl : s.loans.get n = some l) :
    takeVolIn k v s = volInOnLoan k n l v weights.length s := by
  have hv : ¬ (v = 0 ∨ weights.length < v) := by omega
  simp only [takeVolIn, hc, volumeCount_eq ht hb, if_neg hv, hn, hl]

section
variable (hn : c.state = .onLoan n)
include hn

/-- The first volume of an OUT loan (R156). -/
theorem volInOnLoan_first (hst : l.state = .out) (hcount : 2 ≤ weights.length) :
    volInOnLoan k n l v weights.length s =
      ⟨{ s with loans := s.loans.put n { l with state := .part [v] s.settings.partialGrace } },
        partAnswer .done k c.title weights.length n [v] s.settings.partialGrace⟩ := by
  have hne : weights.length ≠ 1 := by omega
  simp only [volInOnLoan, hst, if_neg hne, firstVolume, Loan.isOverdue, Bool.false_eq_true, if_false]
  exact volTaken_part .done hc ht hb hn (Table.get_put_same _ _ _) rfl

/-- The first volume of an OVERDUE loan: the suspension check follows (R142, R156). -/
theorem volInOnLoan_firstLate {e : Nat} (hst : l.state = .overdue e) (hcount : 2 ≤ weights.length)
    (hwf : s.loans.wf = true) (hp : s.patrons.get l.patron = some p) :
    let now := s.rechecked n l p
    volInOnLoan k n l v weights.length s =
      ⟨raiseAll (suspendedKinds p.state now) { s with
        loans := s.loans.put n { l with state := .part [v] s.settings.partialGrace }
        patrons := if now = p.state then s.patrons else s.patrons.put l.patron { p with state := now }
        passQueue := if now = .active ∧ p.state = .suspended ∧ l.patron ∉ s.passQueue then s.passQueue ++ [l.patron]
                     else s.passQueue },
        partAnswer .done k c.title weights.length n [v] s.settings.partialGrace⟩ := by
  have hne : weights.length ≠ 1 := by omega
  have hlate : suspensionHolds { s with loans := s.loans.put n { l with state := .part [v] s.settings.partialGrace } } l.patron
      = lateBesides s n l.patron := suspensionHolds_put l.patron hwf rfl rfl rfl
  have hnow : s.rechecked n l p = p.state.checked (lateBesides s n l.patron) := by
    simp only [State.rechecked, hst]
  have hcheck := suspensionCheck_get
    (s := { s with loans := s.loans.put n { l with state := .part [v] s.settings.partialGrace } }) hp
  rw [hlate, ← hnow] at hcheck
  simp only [volInOnLoan, hst, if_neg hne, firstVolume, Loan.isOverdue, if_true, raiseAll_suspendedKinds]
  rw [hcheck]
  cases (p.state != .suspended && s.rechecked n l p == .suspended) <;>
    exact volTaken_part .done hc ht hb hn (Table.get_put_same _ _ _) rfl

/-- A volume already returned (R157). -/
theorem volInOnLoan_again {vols : List Nat} {grace : Nat} (hl : s.loans.get n = some l) (hst : l.state = .part vols grace)
    (hv : v ∈ vols) :
    volInOnLoan k n l v weights.length s = ⟨s, partAnswer .already k c.title weights.length n vols grace⟩ := by
  simp only [volInOnLoan, hst, if_pos hv]
  exact volTaken_part .already hc ht hb hn hl hst

/-- A further volume, not the last (R157). -/
theorem volInOnLoan_further {vols : List Nat} {grace : Nat} (hst : l.state = .part vols grace) (hv : v ∉ vols)
    (hcount : vols.length + 1 < weights.length) :
    let vols' := insertBefore (fun a b => decide (a < b)) v vols
    volInOnLoan k n l v weights.length s =
      ⟨{ s with loans := s.loans.put n { l with state := .part vols' grace } },
        partAnswer .done k c.title weights.length n vols' grace⟩ := by
  have hlt : ¬ vols.length + 1 ≥ weights.length := by omega
  simp only [volInOnLoan, hst, if_neg hv, if_neg hlt]
  exact volTaken_part .done hc ht hb hn (Table.get_put_same _ _ _) rfl

end

/-- The last volume closes the loan (R158). -/
theorem volInOnLoan_last
    (hlast : (weights.length = 1 ∧ (l.state = .out ∨ ∃ e, l.state = .overdue e))
      ∨ ∃ vols grace, l.state = .part vols grace ∧ v ∉ vols ∧ vols.length + 1 = weights.length)
    (hp : s.patrons.get l.patron = some p) :
    let back : State := { s with
      copySets := s.copySets.put k { c with state := .available }
      pendingOffers := if ti.waiting = [] ∨ k ∈ s.pendingOffers then s.pendingOffers else s.pendingOffers ++ [k] }
    volInOnLoan k n l v weights.length s =
      ⟨raiseAll (suspendedKinds p.state (s.rechecked n l p)) (back.checkedIn n l p),
        ⟨.done, [f2 k, f2 c.title, f2 weights.length, f1 1] ++ [f1 1, f1 1]⟩⟩ := by
  intro back
  have hclose : volInOnLoan k n l v weights.length s = volTaken (closeSetLoan k n l s) k .done true true := by
    rcases hlast with ⟨hone, hst | ⟨e, hst⟩⟩ | ⟨vols, grace, hst, hv, hcount⟩
    · simp only [volInOnLoan, hst, if_pos hone]
    · simp only [volInOnLoan, hst, if_pos hone]
    · simp only [volInOnLoan, hst, if_neg hv, if_pos (Nat.le_of_eq hcount.symm)]
  have hback : makeAvailable k s = back := makeAvailable_eq hc ht
  have hpatron : back.patrons.get l.patron = some p := hp
  rw [hclose, closeSetLoan, hback, checkInLoan_eq n hpatron, raiseAll_suspendedKinds]
  have hstate : back.rechecked n l p = s.rechecked n l p := rfl
  rw [hstate]
  cases (p.state != .suspended && s.rechecked n l p == .suspended) <;>
    exact volTaken_closed (c := { c with state := .available }) .done (Table.get_put_same s.copySets k _) ht hb rfl

end

theorem takeVolIn_noSet {s : State} {k : Nat} (v : Nat) (h : s.copySets.get k = none) :
    takeVolIn k v s = refused s .noSuch := by
  simp [takeVolIn, h]

/-- Settles O48, by the set's state and the standing of its loan. -/
theorem VolIn.volInOnLoan : Obligations.VolInOnLoan := by
  intro tag s k v hr hf
  have hreads := reads_volIn hf
  refine ⟨fun h => congrArg Host.Outcome.next (hreads.answers hr (takeVolIn_noSet v h)), fun c ti weights hc ht hb =>
    ⟨fun h => congrArg Host.Outcome.next (hreads.answers hr (takeVolIn_noVolume hc ht hb h)),
      fun h1 h2 ho hi => congrArg Host.Outcome.next (hreads.answers hr (takeVolIn_notOnLoan hc ht hb h1 h2 ho hi)),
      fun n l p h1 h2 hn hl hp => ?_⟩⟩
  have hloan : takeVolIn k v (admitted .returns tag Kind.volIn.code s) = _ := takeVolIn_onLoan hc ht hb h1 h2 hn hl
  refine ⟨fun hst hcount => ?_, fun e hst hcount hwf => ?_, fun vols grace hst hv => ?_, fun vols grace hst hv hcount => ?_,
    fun hlast => ?_⟩
  · exact congrArg Host.Outcome.next (hreads.reply hr
      (hloan.trans (volInOnLoan_first (s := admitted .returns tag Kind.volIn.code s) hc ht hb hn hst hcount))
      ⟨rfl, rfl, rfl, rfl, rfl, rfl, rfl, rfl, rfl⟩)
  · exact congrArg Host.Outcome.next (hreads.after hr _
      (hloan.trans (volInOnLoan_firstLate (s := admitted .returns tag Kind.volIn.code s) hc ht hb hn hst hcount hwf hp)))
  · exact congrArg Host.Outcome.next (hreads.answers hr
      (hloan.trans (volInOnLoan_again (s := admitted .returns tag Kind.volIn.code s) hc ht hb hn hl hst hv)))
  · exact congrArg Host.Outcome.next (hreads.reply hr
      (hloan.trans (volInOnLoan_further (s := admitted .returns tag Kind.volIn.code s) hc ht hb hn hst hv hcount))
      ⟨rfl, rfl, rfl, rfl, rfl, rfl, rfl, rfl, rfl⟩)
  · exact congrArg Host.Outcome.next (hreads.after hr _
      (hloan.trans (volInOnLoan_last (s := admitted .returns tag Kind.volIn.code s) hc ht hb hlast hp)))

end Sys2Proof.Machine
end

section
/-! SUPPORT. NEW-DAY's part for the patrons (R26, R27, R141, R143): what the turn of the day makes of each record, the pass queue
and PATRON-SUSPENDED, patron by patron and for all of them at once; and the CLOSED day (R134, R137). -/

namespace Sys2Proof.Machine

-- One declaration at a time: the check's memory does not hold many side by side.
set_option Elab.async false

/-! ### One patron -/

/-- A patron's record moved to `p`: PATRON-SUSPENDED raised where `b`, and the pass queue joined where `j`. -/
def State.moved (n : Nat) (p : Patron) (b j : Bool) (s : State) : State :=
  raiseIf b .order .patronSuspended
    { s with patrons := s.patrons.put n p, passQueue := if j then appendNew s.passQueue n else s.passQueue }

theorem appendNew_appendNew (l : List Nat) (n : Nat) : appendNew (appendNew l n) n = appendNew l n :=
  if_pos ((mem_appendNew l n n).2 (.inr rfl))

@[simp] theorem moved_get (n : Nat) (p : Patron) (b j : Bool) (s : State) : (s.moved n p b j).patrons.get n = some p := by
  simp [State.moved]

@[simp] theorem moved_suspensionHolds (n m : Nat) (p : Patron) (b j : Bool) (s : State) :
    suspensionHolds (s.moved n p b j) m = suspensionHolds s m := by
  rw [State.moved, suspensionHolds_raiseIf]
  rfl

theorem moved_patrons_wf {s : State} (h : s.patrons.wf = true) (n : Nat) (p : Patron) (b j : Bool) :
    (s.moved n p b j).patrons.wf = true := by
  rw [State.moved, raiseIf_patrons]
  exact Table.wf_put h n p

theorem moved_moved (n : Nat) (p q : Patron) (b c j k : Bool) (s : State) :
    (s.moved n p b j).moved n q c k = s.moved n q (b || c) (j || k) := by
  have hqueue : (if k then appendNew (if j then appendNew s.passQueue n else s.passQueue) n
      else if j then appendNew s.passQueue n else s.passQueue) =
      if j || k then appendNew s.passQueue n else s.passQueue := by
    cases j <;> cases k <;> simp [appendNew_appendNew]
  rw [State.moved, State.moved, raiseIf_with, raiseIf_raiseIf, raiseIf_patrons, raiseIf_passQueue, Table.put_put, hqueue]
  rfl

theorem moved_self {s : State} {n : Nat} {p : Patron} (h : s.patrons.wf = true) (hp : s.patrons.get n = some p) :
    s.moved n p false false = s := by
  rw [State.moved, Table.put_self h hp]
  rfl

/-- The state of a patron whose pause of that day ends (R26). -/
def PatronState.unpaused (day : Nat) (late : Bool) (st : PatronState) : PatronState :=
  if st = .paused day then if late then .suspended else .active else st

theorem endPause_moved {s : State} {n day : Nat} {p : Patron} (hp : p.state = .paused day) :
    endPause n p s = s.moved n { p with state := p.state.unpaused day (suspensionHolds s n) } (suspensionHolds s n)
      (!suspensionHolds s n) := by
  cases hl : suspensionHolds s n <;> simp [endPause, hl, State.moved, PatronState.unpaused, hp, raiseIf, appendPass,
    State.putPatron]

theorem suspensionCheck_moved {s : State} {n : Nat} {p : Patron} (h : s.patrons.wf = true) (hp : s.patrons.get n = some p) :
    suspensionCheck n s = s.moved n (p.checked (suspensionHolds s n)) (p.state == .active && suspensionHolds s n)
      (p.state == .suspended && !suspensionHolds s n) := by
  rw [suspensionCheck_eq h, checkedAll]
  have hmap : s.patrons.mapAll (fun m x => if m ∈ [n] then x.checked (suspensionHolds s m) else x) =
      s.patrons.put n (p.checked (suspensionHolds s n)) := by
    rw [← Table.mapAll_one h hp]
    exact Table.mapAll_congr fun e _ => by simp only [List.mem_singleton]; split <;> simp_all
  have hjoin : ([n].filter (checkRestores s)).foldl appendNew s.passQueue =
      if p.state == .suspended && !suspensionHolds s n then appendNew s.passQueue n else s.passQueue := by
    have : checkRestores s n = (p.state == .suspended && !suspensionHolds s n) := by simp [checkRestores, hp]
    rw [List.filter_singleton, this]
    cases (p.state == .suspended && !suspensionHolds s n) <;> rfl
  have hraise : [n].any (checkSuspends s) = (p.state == .active && suspensionHolds s n) := by simp [checkSuspends, hp]
  rw [hmap, hjoin, hraise, State.moved]

theorem appendPassOpen_moved {s : State} {n : Nat} {p : Patron} (h : s.patrons.wf = true) (hp : s.patrons.get n = some p) :
    appendPassOpen n s = s.moved n p false (p.state != .closing) := by
  rw [State.moved, Table.put_self h hp, raiseIf_false]
  cases hc : (p.state != .closing) <;> simp [appendPassOpen, notClosing, hp, hc, appendPass]

/-- A patron's state at the turn of the day: a pause of that day ends, and then the suspension check of one that had a loan
(R26, R143). -/
def PatronState.turned (day : Nat) (late checked : Bool) (st : PatronState) : PatronState :=
  if checked then (st.unpaused day late).checked late else st.unpaused day late

/-- Whether the turn of the day suspends a patron (R26, R27). -/
def PatronState.turnSuspends (day : Nat) (late checked : Bool) (st : PatronState) : Bool :=
  late && (st == .paused day || st == .active && checked)

/-- Whether a patron joins the pass queue at the turn of the day: it returns to ACTIVE, or had a loan closed (R26, R28, R43). -/
def PatronState.turnJoins (day : Nat) (late checked closed : Bool) (st : PatronState) : Bool :=
  !late && (st == .paused day || st == .suspended && checked) || closed && st != .closing

theorem turnSuspends_checked (day : Nat) (late : Bool) (st : PatronState) :
    st.turnSuspends day late true = (st == .paused day && late || st.unpaused day late == .active && late) := by
  by_cases hd : st = .paused day <;> cases late <;> simp [PatronState.turnSuspends, PatronState.unpaused, hd]

theorem turnSuspends_unchecked (day : Nat) (late : Bool) (st : PatronState) :
    st.turnSuspends day late false = (st == .paused day && late) := by
  simp [PatronState.turnSuspends, Bool.and_comm]

theorem turnJoins_checked (day : Nat) (late : Bool) (st : PatronState) :
    st.turnJoins day late true false = (st == .paused day && !late || st.unpaused day late == .suspended && !late) := by
  by_cases hd : st = .paused day <;> cases late <;> simp [PatronState.turnJoins, PatronState.unpaused, hd]

theorem turnJoins_unchecked (day : Nat) (late : Bool) (st : PatronState) :
    st.turnJoins day late false false = (st == .paused day && !late) := by
  simp [PatronState.turnJoins, Bool.and_comm]

theorem checked_closing (late : Bool) (st : PatronState) : st.checked late = .closing ↔ st = .closing := by
  cases st <;> cases late <;> simp [PatronState.checked]

theorem unpaused_closing (day : Nat) (late : Bool) (st : PatronState) : st.unpaused day late = .closing ↔ st = .closing := by
  unfold PatronState.unpaused
  split
  · rename_i hd
    cases late <;> simp [hd]
  · rfl

/-- The turn of the day leaves a CLOSING patron CLOSING, and makes no other so. -/
theorem turned_closing (day : Nat) (late checked : Bool) (st : PatronState) :
    st.turned day late checked = .closing ↔ st = .closing := by
  unfold PatronState.turned
  split
  · rw [checked_closing, unpaused_closing]
  · exact unpaused_closing day late st

theorem dayPatron_moved {s : State} {n : Nat} {p : Patron} (day : Nat) (checked closers : List Nat)
    (h : s.patrons.wf = true) (hp : s.patrons.get n = some p) :
    let late := suspensionHolds s n
    dayPatron day checked closers n s =
      s.moved n { p with state := p.state.turned day late (n ∈ checked) } (p.state.turnSuspends day late (n ∈ checked))
        (p.state.turnJoins day late (n ∈ checked) (n ∈ closers)) := by
  intro late
  have hpause : (if p.state = .paused day then endPause n p s else s) =
      s.moved n { p with state := p.state.unpaused day late } (p.state == .paused day && late)
        (p.state == .paused day && !late) := by
    by_cases hd : p.state = .paused day
    · rw [if_pos hd, endPause_moved hd, hd]
      simp [late]
    · have hb : (p.state == .paused day) = false := by simpa using hd
      rw [if_neg hd, PatronState.unpaused, if_neg hd, hb, Bool.false_and, Bool.false_and, moved_self h hp]
  have hcheck : (if n ∈ checked then suspensionCheck n (s.moved n { p with state := p.state.unpaused day late }
        (p.state == .paused day && late) (p.state == .paused day && !late))
      else s.moved n { p with state := p.state.unpaused day late } (p.state == .paused day && late)
        (p.state == .paused day && !late)) =
      s.moved n { p with state := p.state.turned day late (n ∈ checked) } (p.state.turnSuspends day late (n ∈ checked))
        (p.state.turnJoins day late (n ∈ checked) false) := by
    by_cases hc : n ∈ checked
    · rw [if_pos hc, suspensionCheck_moved (moved_patrons_wf h ..) (moved_get ..), moved_moved, moved_suspensionHolds,
        decide_eq_true hc, turnSuspends_checked, turnJoins_checked]
      rfl
    · rw [if_neg hc, decide_eq_false hc, turnSuspends_unchecked, turnJoins_unchecked]
      rfl
  have hjoin : ∀ st : PatronState, (st.turned day late (n ∈ checked) != .closing) = (st != .closing) :=
    fun st => by rw [Bool.eq_iff_iff, bne_iff_ne, bne_iff_ne, ne_eq, turned_closing]
  simp only [dayPatron, hp]
  rw [hpause, hcheck]
  by_cases hc : n ∈ closers
  · rw [if_pos hc, appendPassOpen_moved (moved_patrons_wf h ..) (moved_get ..), moved_moved, hjoin, Bool.or_false,
      decide_eq_true hc]
    simp only [PatronState.turnJoins, Bool.false_and, Bool.or_false, Bool.true_and]
  · rw [if_neg hc, decide_eq_false hc]

/-! ### All the patrons -/

/-- Whether the turn of the day suspends the patron with a number. -/
def daySuspends (day : Nat) (checked : List Nat) (s : State) (n : Nat) : Bool :=
  match s.patrons.get n with
  | some p => p.state.turnSuspends day (suspensionHolds s n) (n ∈ checked)
  | none => false

/-- Whether the patron with a number joins the pass queue at the turn of the day. -/
def dayJoins (day : Nat) (checked closers : List Nat) (s : State) (n : Nat) : Bool :=
  match s.patrons.get n with
  | some p => p.state.turnJoins day (suspensionHolds s n) (n ∈ checked) (n ∈ closers)
  | none => false

/-- A patron record after the turn of the day. -/
def Patron.turned (day : Nat) (late checked : Bool) (p : Patron) : Patron :=
  { p with state := p.state.turned day late checked }

/-- The turn of the day for some patrons at once. -/
def turnedAll (day : Nat) (checked closers ns : List Nat) (s : State) : State :=
  raiseIf (ns.any (daySuspends day checked s)) .order .patronSuspended
    { s with
      patrons := s.patrons.mapAll (fun m p => if m ∈ ns then p.turned day (suspensionHolds s m) (m ∈ checked) else p)
      passQueue := (ns.filter (dayJoins day checked closers s)).foldl appendNew s.passQueue }

theorem dayPatron_eq {s : State} (h : s.patrons.wf = true) (day : Nat) (checked closers : List Nat) (n : Nat) :
    dayPatron day checked closers n s = turnedAll day checked closers [n] s := by
  cases hp : s.patrons.get n with
  | none =>
    have hid : s.patrons.mapAll (fun m p => if m ∈ [n] then p.turned day (suspensionHolds s m) (m ∈ checked) else p) =
        s.patrons := Table.mapAll_id fun e he => if_neg fun hn => by
      have hget := Table.get_of_mem h he
      rw [List.mem_singleton.1 hn, hp] at hget
      cases hget
    rw [turnedAll, hid]
    simp [dayPatron, hp, daySuspends, dayJoins]
  | some p =>
    have hmap : s.patrons.mapAll (fun m x => if m ∈ [n] then x.turned day (suspensionHolds s m) (m ∈ checked) else x) =
        s.patrons.put n (p.turned day (suspensionHolds s n) (n ∈ checked)) := by
      rw [← Table.mapAll_one h hp]
      exact Table.mapAll_congr fun e _ => by simp only [List.mem_singleton]; split <;> simp_all
    have hqueue : ([n].filter (dayJoins day checked closers s)).foldl appendNew s.passQueue =
        if p.state.turnJoins day (suspensionHolds s n) (n ∈ checked) (n ∈ closers) then appendNew s.passQueue n
        else s.passQueue := by
      have hjoins : dayJoins day checked closers s n =
          p.state.turnJoins day (suspensionHolds s n) (n ∈ checked) (n ∈ closers) := by simp only [dayJoins, hp]
      rw [List.filter_singleton, hjoins]
      cases p.state.turnJoins day (suspensionHolds s n) (n ∈ checked) (n ∈ closers) <;> rfl
    have hraise : [n].any (daySuspends day checked s) = p.state.turnSuspends day (suspensionHolds s n) (n ∈ checked) := by
      simp [daySuspends, hp]
    rw [dayPatron_moved day checked closers h hp, turnedAll, hmap, hqueue, hraise]
    rfl

theorem turnedAll_wf {s : State} (h : s.patrons.wf = true) (day : Nat) (checked closers ns : List Nat) :
    (turnedAll day checked closers ns s).patrons.wf = true := by
  rw [turnedAll, raiseIf_patrons]
  exact Table.wf_mapAll h (fun m p => if m ∈ ns then p.turned day (suspensionHolds s m) (m ∈ checked) else p)

theorem turnedAll_suspensionHolds (day : Nat) (checked closers ns : List Nat) (s : State) (m : Nat) :
    suspensionHolds (turnedAll day checked closers ns s) m = suspensionHolds s m := by
  rw [turnedAll, suspensionHolds_raiseIf]
  rfl

/-- The turns of several patrons, one after another, are one change of their records (R18, R43). -/
theorem foldl_dayPatron (day : Nat) (checked closers : List Nat) {ns : List Nat} (hn : ns.Nodup) {s : State}
    (h : s.patrons.wf = true) :
    ns.foldl (fun acc n => dayPatron day checked closers n acc) s = turnedAll day checked closers ns s := by
  induction ns generalizing s with
  | nil =>
    have hid : s.patrons.mapAll (fun _ p => p) = s.patrons := Table.mapAll_id fun _ _ => rfl
    simp [turnedAll, hid]
  | cons n ns ih =>
    obtain ⟨hnot, hn⟩ := List.nodup_cons.1 hn
    have hget : ∀ m ∈ ns, (turnedAll day checked closers [n] s).patrons.get m = s.patrons.get m := fun m hm => by
      have hne : m ≠ n := fun he => hnot (he ▸ hm)
      simp [turnedAll, hne]
    have hlate := turnedAll_suspensionHolds day checked closers [n] s
    have hany : ns.any (daySuspends day checked (turnedAll day checked closers [n] s)) = ns.any (daySuspends day checked s) := by
      rw [Bool.eq_iff_iff, List.any_eq_true, List.any_eq_true]
      exact exists_congr fun m => and_congr_right fun hm => by simp only [daySuspends, hget m hm, hlate]
    have hfilter : ns.filter (dayJoins day checked closers (turnedAll day checked closers [n] s)) =
        ns.filter (dayJoins day checked closers s) :=
      List.filter_congr fun m hm => by simp only [dayJoins, hget m hm, hlate]
    have hrecords : (turnedAll day checked closers [n] s).patrons.mapAll
          (fun m p => if m ∈ ns then p.turned day (suspensionHolds s m) (m ∈ checked) else p) =
        s.patrons.mapAll (fun m p => if m ∈ n :: ns then p.turned day (suspensionHolds s m) (m ∈ checked) else p) := by
      rw [turnedAll, raiseIf_patrons, Table.mapAll_mapAll]
      refine Table.mapAll_congr fun e _ => ?_
      by_cases he : e.1 = n
      · simp [he, hnot]
      · simp [he]
    have hqueue : (ns.filter (dayJoins day checked closers s)).foldl appendNew
          (turnedAll day checked closers [n] s).passQueue =
        ((n :: ns).filter (dayJoins day checked closers s)).foldl appendNew s.passQueue := by
      rw [turnedAll, raiseIf_passQueue, ← List.foldl_append, ← List.filter_append]
      rfl
    rw [List.foldl_cons, dayPatron_eq h, ih hn (turnedAll_wf h ..), turnedAll, hany, hfilter, hqueue]
    simp only [hlate, hrecords]
    rw [turnedAll, raiseIf_with, raiseIf_raiseIf, turnedAll]
    simp

/-- The patrons' part of a NEW-DAY (R26, R43, R143). -/
theorem dayPatrons_eq {s : State} (h : s.patrons.wf = true) (day : Nat) (checked closers : List Nat) :
    dayPatrons day checked closers s =
      raiseIf (s.patrons.any (fun e => e.2.state.turnSuspends day (suspensionHolds s e.1) (e.1 ∈ checked)))
        .order .patronSuspended
        { s with
          patrons := s.patrons.mapAll (fun m p => p.turned day (suspensionHolds s m) (m ∈ checked))
          passQueue := (s.patrons.select (fun m p =>
            p.state.turnJoins day (suspensionHolds s m) (m ∈ checked) (m ∈ closers))).foldl appendNew s.passQueue } := by
  have hnum : s.patrons.numbers.Nodup := by
    have := Table.select_nodup h (fun _ _ => true)
    simpa [Table.select, Table.numbers] using this
  have hmem : ∀ e ∈ s.patrons, e.1 ∈ s.patrons.numbers := fun e he => List.mem_map_of_mem he
  have hrecords : s.patrons.mapAll (fun m p =>
      if m ∈ s.patrons.numbers then p.turned day (suspensionHolds s m) (m ∈ checked) else p) =
      s.patrons.mapAll (fun m p => p.turned day (suspensionHolds s m) (m ∈ checked)) :=
    Table.mapAll_congr fun e he => if_pos (hmem e he)
  have hraise : s.patrons.numbers.any (daySuspends day checked s) =
      s.patrons.any (fun e => e.2.state.turnSuspends day (suspensionHolds s e.1) (e.1 ∈ checked)) := by
    rw [Table.numbers, List.any_map, Bool.eq_iff_iff, List.any_eq_true, List.any_eq_true]
    exact exists_congr fun e => and_congr_right fun he => by simp [daySuspends, Table.get_of_mem h he]
  have hjoin : s.patrons.numbers.filter (dayJoins day checked closers s) =
      s.patrons.select (fun m p => p.state.turnJoins day (suspensionHolds s m) (m ∈ checked) (m ∈ closers)) := by
    rw [Table.numbers, List.filter_map, Table.select]
    exact congrArg (List.map Prod.fst) (List.filter_congr fun e he => by
      simp [dayJoins, Table.get_of_mem h he])
  rw [dayPatrons, foldl_dayPatron day checked closers hnum h, turnedAll, hrecords, hraise, hjoin]

/-! ### NEW-DAY while dispatch is open, and a CLOSED day -/

theorem reads_newDay {code : Nat} (h : code < 256) : Reads .order .newDay (writeFields [1] [code]) (takeNewDay code) :=
  ⟨writeFields_short rfl (by decide), rfl, oneField_writeFields (w := 1) _ h, rfl⟩

theorem dispatchOpen_iff (s : State) :
    dispatchOpen s = true ↔ (∃ e ∈ s.parcels, e.2.state = .packing) ∨ ∃ e ∈ s.groups, e.2.begun = true := by
  simp only [dispatchOpen, Bool.or_eq_true, List.any_eq_true, beq_iff_eq]

theorem takeNewDay_open {s : State} (code : Nat) (h : dispatchOpen s = true) :
    takeNewDay code s = ⟨s, .dispatchOpen, [f2 (packingCount s), f2 (begunCount s)]⟩ := by
  rw [takeNewDay, if_pos h]

theorem turnSuspends_pause (day : Nat) (late : Bool) (st : PatronState) :
    st.turnSuspends day late false = (decide (st = .paused day) && late) := by
  rw [turnSuspends_unchecked]
  rfl

theorem turnJoins_pause (day : Nat) (late : Bool) (st : PatronState) :
    st.turnJoins day late false false = (decide (st = .paused day) && !late) := by
  rw [turnJoins_unchecked]
  rfl

/-- The patrons' records once the pauses of a day have ended (R26). -/
def pausesEnded (day : Nat) (s : State) : Table Patron :=
  s.patrons.mapAll (fun n p =>
    if p.state = .paused day then { p with state := if suspensionHolds s n then .suspended else .active } else p)

theorem turned_pause (day : Nat) (late : Bool) (p : Patron) :
    p.turned day late false = if p.state = .paused day then { p with state := if late then .suspended else .active } else p := by
  unfold Patron.turned PatronState.turned PatronState.unpaused
  split
  · contradiction
  · split <;> rfl

/-- A day without loans to check ends the pauses of that day, in patron order (R26, R43). -/
theorem dayPatrons_pauses {s : State} (h : s.patrons.wf = true) (day : Nat) :
    dayPatrons day [] [] s =
      raiseIf (s.patrons.any (fun e => decide (e.2.state = .paused day) && suspensionHolds s e.1)) .order .patronSuspended
        { s with
          patrons := pausesEnded day s
          passQueue := (s.patrons.select (fun n p => decide (p.state = .paused day) && !suspensionHolds s n)).foldl appendNew
            s.passQueue } := by
  rw [dayPatrons_eq h]
  simp only [List.not_mem_nil, decide_false, turnSuspends_pause, turnJoins_pause, turned_pause]
  rfl

theorem any_eq_countOf_ne_zero {α : Type} (p : α → Bool) (l : List α) : l.any p = decide (countOf p l ≠ 0) := by
  rw [Bool.eq_iff_iff, List.any_eq_true, decide_eq_true_eq, countOf, ne_eq, List.length_eq_zero_iff, List.filter_eq_nil_iff]
  push Not
  rfl

/-- The patrons that the end of their pause suspends, counted as moves between states (R148). -/
theorem movedTo_suspended_pauses {s t : State} {day : Nat} (h : s.patrons.wf = true) (ht : t.patrons = pausesEnded day s) :
    movedTo s t (· != .suspended) (· == .suspended) =
      countOf (fun e => decide (e.2.state = .paused day) && suspensionHolds s e.1) s.patrons := by
  rw [movedTo, ht, pausesEnded, countOf_mapAll]
  refine countOf_congr fun e he => ?_
  rw [Table.get_of_mem h he]
  by_cases hd : e.2.state = .paused day
  · cases hl : suspensionHolds s e.1 <;> simp [hd]
  · cases hs : e.2.state <;> simp_all

theorem movedTo_active_pauses {s t : State} {day : Nat} (h : s.patrons.wf = true) (ht : t.patrons = pausesEnded day s) :
    movedTo s t (· == .suspended) (· == .active) = 0 := by
  rw [movedTo, ht, pausesEnded, countOf_mapAll, countOf, List.length_eq_zero_iff, List.filter_eq_nil_iff]
  intro e he
  rw [Table.get_of_mem h he]
  by_cases hd : e.2.state = .paused day
  · simp [hd]
  · cases hs : e.2.state <;> simp_all

theorem newDayFields_raiseAll (isOpen : Bool) (s0 s : State) (ns : List (Link × Notice)) :
    newDayFields isOpen s0 (raiseAll ns s) = newDayFields isOpen s0 s := by
  rw [raiseAll_eq]
  rfl

/-- A CLOSED day: the day record, the pauses that end, and no loan (R26, R137, R148). -/
theorem takeNewDay_closed {s : State} {code : Nat} (ho : dispatchOpen s = false) (hc : code ≠ 1) (h : s.patrons.wf = true) :
    let day := (s.day + 1) % 65536
    let suspended := countOf (fun e => decide (e.2.state = .paused day) && suspensionHolds s e.1) s.patrons
    takeNewDay code s =
      ⟨raiseAll (if suspended = 0 then [] else [(.order, .patronSuspended)]) { s with
        day := day
        dayOpen := false
        bays := s.bays.map (fun b => { b with restsToday := 0 })
        todayCount := 0
        tally := 0
        settings := { s.settings with limitInForce := s.settings.limitNext }
        patrons := pausesEnded day s
        passQueue := (s.patrons.select (fun n p => decide (p.state = .paused day) && !suspensionHolds s n)).foldl appendNew
          s.passQueue },
        ⟨if code = 2 then .done else .clamped,
          [f2 day, f1 0, f2 s.settings.limitNext, f2 0, f2 0, f2 0, f2 suspended, f2 0,
            f2 (countOf (fun e => decide (e.2.state = .paused day)) s.patrons)]⟩⟩ := by
  intro day suspended
  have hkind : dayKind code = (false, if code = 2 then OutcomeCode.done else .clamped) := by
    have hb : (code != 2) = !decide (code = 2) := rfl
    rw [dayKind, if_neg hc, hb, doneOr_not]
  have hday : advanceDay false s =
      raiseAll (if suspended = 0 then [] else [(.order, .patronSuspended)]) { turnDay false s with
        patrons := pausesEnded day s
        passQueue := (s.patrons.select (fun n p => decide (p.state = .paused day) && !suspensionHolds s n)).foldl appendNew
          s.passQueue } := by
    have hp := dayPatrons_pauses (s := turnDay false s) h day
    have hany : (turnDay false s).patrons.any (fun e => decide (e.2.state = .paused day) && suspensionHolds (turnDay false s) e.1)
        = decide (suspended ≠ 0) := any_eq_countOf_ne_zero _ _
    rw [hany] at hp
    by_cases hz : suspended = 0
    · rw [decide_eq_false (not_not_intro hz)] at hp
      rw [if_pos hz]
      exact hp
    · rw [decide_eq_true hz] at hp
      rw [if_neg hz]
      exact hp
  rw [takeNewDay, if_neg (by simp [ho]), hkind]
  dsimp only
  rw [hday, newDayFields_raiseAll, newDayFields, movedTo_suspended_pauses (t := { turnDay false s with
    patrons := pausesEnded day s
    passQueue := _ }) h rfl, movedTo_active_pauses (t := { turnDay false s with
    patrons := pausesEnded day s
    passQueue := _ }) h rfl]
  rfl

/-- Settles O52, by whether dispatch is open. -/
theorem newDayClosed : Obligations.NewDayClosed := by
  intro tag s code hr hlt
  have hreads := reads_newDay hlt
  refine ⟨fun hopen => ?_, fun hopen hc hwf => ?_⟩
  · exact congrArg Host.Outcome.next (hreads.answers hr (takeNewDay_open code ((dispatchOpen_iff _).2 hopen)))
  · have ho : dispatchOpen s = false := Bool.eq_false_of_not_eq_true fun hd => hopen ((dispatchOpen_iff s).1 hd)
    exact congrArg Host.Outcome.next (hreads.after hr _
      (takeNewDay_closed (s := admitted .order tag Kind.newDay.code s) ho hc hwf))

end Sys2Proof.Machine
end

section
/-! SUPPORT. The loans an open day closes (R138, R140, R141, R159): the loans and records that the closures leave, loan by loan
and for all of them. -/

namespace Sys2Proof.Machine

-- One declaration at a time: the check's memory does not hold many side by side.
set_option Elab.async false

/-! ### One closure -/

/-- What the closing of a loan by NEW-DAY does to its object: missing volumes at the end of a grace, and otherwise the loss. -/
def endObject (l : Loan) (s : State) : State :=
  if l.graceEnded then missObject l s else loseObject l.object s

/-- The closing of a loan by NEW-DAY, its record at hand (R141, R159). -/
def closeEntry (s : State) (e : Nat × Loan) : State :=
  closeLoan e.1 e.2.patron (endObject e.2 s)

/-- A patron record after one of its loans closed: H down by 1, and a CLOSING patron freed with its last unit (R30, R141). -/
def Patron.charged (p : Patron) : Option Patron :=
  if p.state = .closing ∧ p.held ≤ 1 then none else some { p with held := p.held - 1 }

/-- A cartridge whose loan closed as LOST. -/
def Cart.lost (c : Cart) : Cart :=
  { c with state := .lost }

/-- Whether the closing of a loan makes a cartridge LOST. -/
def Loan.loses (serial : Nat) (l : Loan) : Bool :=
  !l.graceEnded && match l.object with
    | .cartridge k _ => k == serial
    | .copySet _ => false

/-- The volumes missing from a set of `count` volumes whose loan NEW-DAY closes (R141, R159). -/
def Loan.missing (l : Loan) (count : Nat) : List Nat :=
  if l.graceEnded then (volumesTo count).filter (fun v => v ∉ l.returned) else volumesTo count

theorem endObject_frame (l : Loan) (s : State) :
    endObject l s = { s with carts := (endObject l s).carts, copySets := (endObject l s).copySets } := by
  unfold endObject missObject loseObject
  split
  · split
    · rw [makeIncomplete_frame]
    · rfl
  · split
    · rfl
    · rw [makeIncomplete_frame]

theorem closeLoan_patrons_get (n m k : Nat) (s : State) :
    (closeLoan n m s).patrons.get k = if k = m then (s.patrons.get m).bind Patron.charged else s.patrons.get k := by
  cases hp : s.patrons.get m with
  | none =>
    have h : (closeLoan n m s).patrons = s.patrons := by simp [closeLoan, lowerHeld, freeIfDone, hp]
    rw [h]
    split
    · rename_i hk
      rw [hk, hp]
      rfl
    · rfl
  | some p =>
    by_cases hd : p.state = .closing ∧ p.held ≤ 1
    · have hz : p.held - 1 = 0 := by omega
      have h : (closeLoan n m s).patrons = s.patrons.del m := by
        simp [closeLoan, lowerHeld, freeIfDone, hp, State.putPatron, hd.1, hz]
      rw [h, Table.get_del, Option.bind_some, Patron.charged, if_pos hd]
    · have hz : ¬ (p.state = .closing ∧ p.held - 1 = 0) := fun ⟨hc, h0⟩ => hd ⟨hc, by omega⟩
      have h : (closeLoan n m s).patrons = s.patrons.put m { p with held := p.held - 1 } := by
        simp [closeLoan, lowerHeld, freeIfDone, hp, State.putPatron, hz]
      rw [h, Table.get_put, Option.bind_some, Patron.charged, if_neg hd]

theorem closeLoan_heldTotal {n m : Nat} {p : Patron} {s : State} (h : s.patrons.get m = some p) :
    (closeLoan n m s).heldTotal = s.heldTotal - 1 := by
  have h' : ({ s with loans := s.loans.del n } : State).patrons.get m = some p := h
  rw [closeLoan, freeIfDone_frame, lowerHeld_eq 1 h']

theorem closeEntry_frame (s : State) (e : Nat × Loan) :
    closeEntry s e = { s with
      loans := s.loans.del e.1, patrons := (closeEntry s e).patrons, heldTotal := (closeEntry s e).heldTotal
      carts := (closeEntry s e).carts, copySets := (closeEntry s e).copySets } := by
  unfold closeEntry
  rw [closeLoan_frame, endObject_frame]

theorem closeEntry_loans (s : State) (e : Nat × Loan) : (closeEntry s e).loans = s.loans.del e.1 := by
  rw [closeEntry_frame]

theorem closeEntry_patrons_get (s : State) (e : Nat × Loan) (m : Nat) :
    (closeEntry s e).patrons.get m =
      if m = e.2.patron then (s.patrons.get e.2.patron).bind Patron.charged else s.patrons.get m := by
  rw [closeEntry, closeLoan_patrons_get, endObject_frame]

theorem closeEntry_heldTotal {s : State} {e : Nat × Loan} {p : Patron} (h : s.patrons.get e.2.patron = some p) :
    (closeEntry s e).heldTotal = s.heldTotal - 1 := by
  have h' : (endObject e.2 s).patrons.get e.2.patron = some p := by rw [endObject_frame]; exact h
  rw [closeEntry, closeLoan_heldTotal h', endObject_frame]

theorem closeEntry_carts_get (s : State) (e : Nat × Loan) (serial : Nat) :
    (closeEntry s e).carts.get serial =
      if e.2.loses serial then (s.carts.get serial).map Cart.lost else s.carts.get serial := by
  have h : (closeEntry s e).carts = (endObject e.2 s).carts := by rw [closeEntry, closeLoan_frame]
  rw [h, endObject, Loan.loses]
  cases e.2.graceEnded with
  | true =>
    have hm : (missObject e.2 s).carts = s.carts := by
      unfold missObject
      split
      · rw [makeIncomplete_frame]
      · rfl
    simp [hm]
  | false =>
    cases ho : e.2.object with
    | cartridge k ts =>
      by_cases hk : k = serial
      · simp [loseObject, Table.get_modify, hk]
        rfl
      · simp [loseObject, Table.get_modify, hk, Ne.symm hk]
    | copySet k =>
      have hm : (loseObject (.copySet k) s).carts = s.carts := by
        simp only [loseObject]
        rw [makeIncomplete_frame]
      simp [hm]

theorem makeIncomplete_get (n m : Nat) (missing : List Nat) (s : State) :
    (makeIncomplete n missing s).copySets.get m =
      if m = n then (s.copySets.get n).map (fun c => { c with state := .incomplete missing }) else s.copySets.get m := by
  cases hc : s.copySets.get n with
  | none =>
    simp only [makeIncomplete, hc, Option.map_none]
    split
    · rename_i hm
      rw [hm, hc]
    · rfl
  | some c => simp only [makeIncomplete, hc, State.putSet, Table.get_put, Option.map_some]

/-- A closure leaves every set but the loan's own as it was. -/
theorem closeEntry_copySets_other {s : State} {e : Nat × Loan} {k : Nat} (h : e.2.object ≠ .copySet k) :
    (closeEntry s e).copySets.get k = s.copySets.get k := by
  have hsets : (closeEntry s e).copySets = (endObject e.2 s).copySets := by rw [closeEntry, closeLoan_frame]
  rw [hsets]
  cases ho : e.2.object with
  | cartridge serial ts =>
    simp only [endObject, missObject, loseObject, ho]
    split <;> rfl
  | copySet n =>
    have hne : k ≠ n := fun hk => h (by rw [ho, hk])
    simp only [endObject, missObject, loseObject, ho]
    split <;> rw [makeIncomplete_get, if_neg hne]

/-- A closure makes the loan's set INCOMPLETE with what is missing. -/
theorem closeEntry_copySets_own {s : State} {e : Nat × Loan} {k : Nat} {c : CopySet} (ho : e.2.object = .copySet k)
    (hc : s.copySets.get k = some c) :
    (closeEntry s e).copySets.get k =
      some { c with state := .incomplete (e.2.missing (volumeCount s c.title)) } := by
  have hsets : (closeEntry s e).copySets = (endObject e.2 s).copySets := by rw [closeEntry, closeLoan_frame]
  have ht : (titleOfSet s k).getD 0 = c.title := by simp [titleOfSet, hc]
  rw [hsets]
  simp only [endObject, missObject, loseObject, ho, Loan.missing, ht]
  split <;> rw [makeIncomplete_get, if_pos rfl, hc] <;> rfl

/-! ### The loans due -/

/-- The loans that NEW-DAY closes, in the order it closes them, with their records (R140, R159). -/
def dueEntries (s : State) : List (Nat × Loan) :=
  s.loans.filter (fun e => e.2.lostAt s.settings.lostAfter) ++ s.loans.filter (fun e => e.2.graceEnded)

/-- Whether NEW-DAY closes a loan whose clock has moved. -/
def Loan.due (after : Nat) (l : Loan) : Bool :=
  l.lostAt after || l.graceEnded

theorem lostAt_graceEnded {after : Nat} {l : Loan} (h : l.lostAt after = true) : l.graceEnded = false := by
  unfold Loan.lostAt at h
  unfold Loan.graceEnded
  split at h
  · rename_i hl
    rw [hl]
  · cases h

theorem mem_dueEntries {s : State} {e : Nat × Loan} : e ∈ dueEntries s ↔ e ∈ s.loans ∧ e.2.due s.settings.lostAfter = true := by
  simp only [dueEntries, List.mem_append, List.mem_filter, Loan.due, Bool.or_eq_true]
  tauto

theorem dueEntries_nodup {s : State} (h : s.loans.wf = true) : ((dueEntries s).map Prod.fst).Nodup := by
  rw [dueEntries, List.map_append, List.nodup_append]
  refine ⟨Table.select_nodup h (fun _ l => l.lostAt s.settings.lostAfter), Table.select_nodup h (fun _ l => l.graceEnded),
    fun n hn m hm hnm => ?_⟩
  obtain ⟨e, he, rfl⟩ := List.mem_map.1 hn
  obtain ⟨e', he', hfst⟩ := List.mem_map.1 hm
  obtain ⟨hmem, hlost⟩ := List.mem_filter.1 he
  obtain ⟨hmem', hgrace⟩ := List.mem_filter.1 he'
  have hget := Table.get_of_mem h hmem
  rw [hnm, ← hfst, Table.get_of_mem h hmem'] at hget
  rw [Option.some.inj hget, lostAt_graceEnded hlost] at hgrace
  cases hgrace

/-- Closures one after another, by number, are closures with the records at hand. -/
theorem foldl_close {L : List (Nat × Loan)} {s : State} (hn : (L.map Prod.fst).Nodup)
    (hget : ∀ e ∈ L, s.loans.get e.1 = some e.2) :
    L.foldl (fun acc e => if e.2.graceEnded then closeGrace e.1 acc else closeLost e.1 acc) s = L.foldl closeEntry s := by
  induction L generalizing s with
  | nil => rfl
  | cons e L ih =>
    obtain ⟨hnot, hn⟩ := List.nodup_cons.1 hn
    have he := hget e (by simp)
    have hstep : (if e.2.graceEnded then closeGrace e.1 s else closeLost e.1 s) = closeEntry s e := by
      rw [closeGrace, closeLost, he, closeEntry, endObject]
      split <;> rfl
    rw [List.foldl_cons, List.foldl_cons, hstep]
    refine ih hn fun e' he' => ?_
    have hne : e'.1 ≠ e.1 := fun h => hnot (h ▸ List.mem_map_of_mem he')
    rw [closeEntry_loans, Table.get_del_other _ hne, hget e' (List.mem_cons_of_mem e he')]

theorem closeDue_eq {s : State} (h : s.loans.wf = true) : closeDue s = (dueEntries s).foldl closeEntry s := by
  have hget : ∀ e ∈ dueEntries s, s.loans.get e.1 = some e.2 := fun e he =>
    Table.get_of_mem h (mem_dueEntries.1 he).1
  rw [← foldl_close (dueEntries_nodup h) hget, dueEntries, List.foldl_append, closeDue, gracedLoans, lostLoans, Table.select,
    Table.select, List.foldl_map, List.foldl_map]
  have hlost : ∀ (L : List (Nat × Loan)) (t : State), (∀ e ∈ L, e.2.graceEnded = false) →
      L.foldl (fun acc e => closeLost e.1 acc) t =
        L.foldl (fun acc e => if e.2.graceEnded then closeGrace e.1 acc else closeLost e.1 acc) t := fun L t hL =>
    List.foldl_ext _ _ t fun acc e he => by rw [hL e he]; rfl
  have hgrace : ∀ (L : List (Nat × Loan)) (t : State), (∀ e ∈ L, e.2.graceEnded = true) →
      L.foldl (fun acc e => closeGrace e.1 acc) t =
        L.foldl (fun acc e => if e.2.graceEnded then closeGrace e.1 acc else closeLost e.1 acc) t := fun L t hL =>
    List.foldl_ext _ _ t fun acc e he => by rw [hL e he]; rfl
  rw [hlost _ _ fun e he => lostAt_graceEnded (List.mem_filter.1 he).2, hgrace _ _ fun e he => (List.mem_filter.1 he).2]

/-! ### What the closures leave -/

/-- The frame of some closures. -/
theorem foldl_closeEntry_frame (L : List (Nat × Loan)) (s : State) :
    L.foldl closeEntry s = { s with
      loans := (L.foldl closeEntry s).loans, patrons := (L.foldl closeEntry s).patrons
      heldTotal := (L.foldl closeEntry s).heldTotal, carts := (L.foldl closeEntry s).carts
      copySets := (L.foldl closeEntry s).copySets } := by
  induction L generalizing s with
  | nil => rfl
  | cons e L ih =>
    rw [List.foldl_cons, ih, closeEntry_frame]

theorem foldl_closeEntry_loans_get (L : List (Nat × Loan)) (s : State) (n : Nat) :
    (L.foldl closeEntry s).loans.get n = if n ∈ L.map Prod.fst then none else s.loans.get n := by
  induction L generalizing s with
  | nil => simp
  | cons e L ih =>
    rw [List.foldl_cons, ih, closeEntry_loans, Table.get_del]
    by_cases hn : n = e.1
    · simp [hn]
    · simp only [List.map_cons, List.mem_cons, hn, false_or, if_false]

theorem foldl_closeEntry_patrons_get (L : List (Nat × Loan)) (s : State) (n : Nat) :
    (L.foldl closeEntry s).patrons.get n =
      (fun o => o.bind Patron.charged)^[countOf (fun e => e.2.patron == n) L] (s.patrons.get n) := by
  induction L generalizing s with
  | nil => rfl
  | cons e L ih =>
    rw [List.foldl_cons, ih, closeEntry_patrons_get]
    by_cases hn : e.2.patron = n
    · have hc : countOf (fun e => e.2.patron == n) (e :: L) = countOf (fun e => e.2.patron == n) L + 1 := by
        simp [countOf, hn]
      rw [hc, Function.iterate_succ_apply, if_pos hn.symm, hn]
    · have hc : countOf (fun e => e.2.patron == n) (e :: L) = countOf (fun e => e.2.patron == n) L := by
        simp [countOf, hn]
      rw [hc, if_neg (Ne.symm hn)]

theorem charged_none (k : Nat) : (fun o : Option Patron => o.bind Patron.charged)^[k] none = none := by
  induction k with
  | zero => rfl
  | succ k ih => rw [Function.iterate_succ_apply, Option.bind_none, ih]

theorem charged_open {p : Patron} (k : Nat) (hp : p.state ≠ .closing) :
    (fun o => o.bind Patron.charged)^[k] (some p) = some { p with held := p.held - k } := by
  induction k generalizing p with
  | zero => rfl
  | succ k ih =>
    rw [Function.iterate_succ_apply, Option.bind_some, Patron.charged, if_neg fun h => hp h.1,
      ih (p := { p with held := p.held - 1 }) hp]
    simp only [Nat.sub_sub, Nat.add_comm 1 k]

theorem charged_closing {p : Patron} (k : Nat) (hp : p.state = .closing) (hk : k ≤ p.held) :
    (fun o => o.bind Patron.charged)^[k] (some p) =
      if k = 0 then some p else if p.held = k then none else some { p with held := p.held - k } := by
  induction k generalizing p with
  | zero => rfl
  | succ k ih =>
    rw [Function.iterate_succ_apply, Option.bind_some, Patron.charged, if_neg (Nat.succ_ne_zero k)]
    by_cases hone : p.held ≤ 1
    · have hz : k = 0 := by omega
      have hh : p.held = k + 1 := by omega
      rw [if_pos ⟨hp, hone⟩, if_pos hh, charged_none]
    · rw [if_neg fun h => hone h.2, ih (p := { p with held := p.held - 1 }) hp (by dsimp only; omega)]
      by_cases hz : k = 0
      · subst hz
        have hne : p.held ≠ 0 + 1 := by omega
        rw [if_pos rfl, if_neg hne]
      · by_cases hh : p.held = k + 1
        · have hh' : p.held - 1 = k := by omega
          rw [if_neg hz, if_pos hh', if_pos hh]
        · have hh' : ¬ p.held - 1 = k := by omega
          rw [if_neg hz, if_neg hh', if_neg hh]
          simp only [Nat.sub_sub, Nat.add_comm 1 k]

theorem foldl_closeEntry_carts_get (L : List (Nat × Loan)) (s : State) (serial : Nat) :
    (L.foldl closeEntry s).carts.get serial =
      if L.any (fun e => e.2.loses serial) then (s.carts.get serial).map Cart.lost else s.carts.get serial := by
  induction L generalizing s with
  | nil => rfl
  | cons e L ih =>
    rw [List.foldl_cons, ih, closeEntry_carts_get, List.any_cons]
    cases e.2.loses serial <;> cases L.any (fun e => e.2.loses serial) <;> simp
    rfl

theorem foldl_closeEntry_copySets_other {L : List (Nat × Loan)} {k : Nat} (h : ∀ e ∈ L, e.2.object ≠ .copySet k)
    (s : State) : (L.foldl closeEntry s).copySets.get k = s.copySets.get k := by
  induction L generalizing s with
  | nil => rfl
  | cons e L ih =>
    rw [List.foldl_cons, ih fun e' he' => h e' (List.mem_cons_of_mem e he'), closeEntry_copySets_other (h e (by simp))]

/-- The set of a loan that NEW-DAY closes, the only one of that set. -/
theorem foldl_closeEntry_copySets_own {L : List (Nat × Loan)} {e : Nat × Loan} {k : Nat} {c : CopySet} {s : State}
    (hn : (L.map Prod.fst).Nodup) (he : e ∈ L) (ho : e.2.object = .copySet k)
    (honly : ∀ e' ∈ L, e'.2.object = .copySet k → e'.1 = e.1) (hc : s.copySets.get k = some c) :
    (L.foldl closeEntry s).copySets.get k =
      some { c with state := .incomplete (e.2.missing (volumeCount s c.title)) } := by
  obtain ⟨A, B, rfl⟩ := List.append_of_mem he
  rw [List.map_append, List.map_cons, List.nodup_append, List.nodup_cons] at hn
  obtain ⟨_, ⟨hB, _⟩, hA⟩ := hn
  have hother : ∀ e' ∈ A, e'.2.object ≠ .copySet k := fun e' he' ho' =>
    hA e'.1 (List.mem_map_of_mem he') e.1 (by simp) (honly e' (by simp [he']) ho')
  have hother' : ∀ e' ∈ B, e'.2.object ≠ .copySet k := fun e' he' ho' =>
    hB (honly e' (by simp [he']) ho' ▸ List.mem_map_of_mem he')
  have hcA : (A.foldl closeEntry s).copySets.get k = some c := by rw [foldl_closeEntry_copySets_other hother, hc]
  have hcount : volumeCount (A.foldl closeEntry s) c.title = volumeCount s c.title := by
    rw [foldl_closeEntry_frame]
    rfl
  rw [List.foldl_append, List.foldl_cons, foldl_closeEntry_copySets_other hother', closeEntry_copySets_own ho hcA, hcount]

/-- The total of held units after closures of loans whose patrons have records to the last (R32, R141). -/
theorem foldl_closeEntry_heldTotal {L : List (Nat × Loan)} {s : State}
    (h : ∀ e ∈ L, ∃ p, s.patrons.get e.2.patron = some p
      ∧ (p.state = .closing → countOf (fun x => x.2.patron == e.2.patron) L ≤ p.held)) :
    (L.foldl closeEntry s).heldTotal = s.heldTotal - L.length := by
  induction L generalizing s with
  | nil => rfl
  | cons e L ih =>
    obtain ⟨p, hp, hheld⟩ := h e (by simp)
    rw [List.foldl_cons, ih, closeEntry_heldTotal hp, List.length_cons, Nat.sub_sub, Nat.add_comm 1]
    intro x hx
    obtain ⟨q, hq, hqheld⟩ := h x (List.mem_cons_of_mem e hx)
    rw [closeEntry_patrons_get]
    by_cases hn : x.2.patron = e.2.patron
    · have hpq : q = p := Option.some.inj (by rw [← hq, ← hp, hn])
      subst hpq
      have hcount : countOf (fun y => y.2.patron == e.2.patron) (e :: L) = countOf (fun y => y.2.patron == e.2.patron) L + 1 := by
        simp [countOf]
      have hpos : 1 ≤ countOf (fun y => y.2.patron == e.2.patron) L :=
        List.length_pos_of_mem (List.mem_filter.2 ⟨hx, by simp [hn]⟩)
      have hfree : ¬ (q.state = .closing ∧ q.held ≤ 1) := fun ⟨hc, hle⟩ => by
        have := hheld hc
        omega
      rw [if_pos hn, hp, Option.bind_some, Patron.charged, if_neg hfree, hn]
      refine ⟨_, rfl, fun hc => ?_⟩
      have := hheld hc
      dsimp only
      omega
    · rw [if_neg hn]
      refine ⟨q, hq, fun hc => ?_⟩
      have := hqheld hc
      rwa [countOf, List.filter_cons_of_neg (by simpa using Ne.symm hn)] at this

end Sys2Proof.Machine
end

section
/-! SUPPORT. NEW-DAY OPEN (R137 to R143, R148, R159): the open day as its clocks, its closures and the patrons' part leave it. -/

namespace Sys2Proof.Machine

-- One declaration at a time: the check's memory does not hold many side by side.
set_option Elab.async false

/-! ### The open day's clocks and closures -/

/-- The state once the day has turned and every loan's clock has moved (R137, R138). -/
def clocksMoved (s : State) : State :=
  tickLoans (turnDay true s)

/-- The state once the loans due have been closed (R140, R141, R159). -/
def loansClosed (s : State) : State :=
  closeDue (clocksMoved s)

/-- How many loans of a patron an open day closes. -/
def closedCount (s : State) (n : Nat) : Nat :=
  countOf (fun e => e.2.patron == n && e.2.tick.due s.settings.lostAfter) s.loans

theorem tick_patron (l : Loan) : l.tick.patron = l.patron := by
  unfold Loan.tick
  split
  · split <;> rfl
  · rfl
  · rfl

theorem tick_object (l : Loan) : l.tick.object = l.object := by
  unfold Loan.tick
  split
  · split <;> rfl
  · rfl
  · rfl

theorem clocksMoved_loans (s : State) : (clocksMoved s).loans = s.loans.mapAll (fun _ l => l.tick) := rfl

theorem clocksMoved_wf {s : State} (h : s.loans.wf = true) : (clocksMoved s).loans.wf = true := by
  rw [clocksMoved_loans]
  exact Table.wf_mapAll h _

/-- The loans due on an open day, by the loans before it. -/
theorem mem_dueEntries_clocks {s : State} {e : Nat × Loan} :
    e ∈ dueEntries (clocksMoved s) ↔
      ∃ l, (e.1, l) ∈ s.loans ∧ e.2 = l.tick ∧ l.tick.due s.settings.lostAfter = true := by
  have hs : (clocksMoved s).settings.lostAfter = s.settings.lostAfter := rfl
  rw [mem_dueEntries, clocksMoved_loans, hs, Table.mapAll, List.mem_map]
  refine ⟨fun ⟨⟨x, hx, he⟩, hd⟩ => ?_, fun ⟨l, hl, he, hd⟩ => ⟨⟨(e.1, l), hl, by rw [← he]⟩, by rw [he]; exact hd⟩⟩
  subst he
  exact ⟨x.2, hx, rfl, hd⟩

theorem countOf_append {α : Type} (p : α → Bool) (l m : List α) : countOf p (l ++ m) = countOf p l + countOf p m := by
  simp [countOf]

theorem countOf_filter {α : Type} (p q : α → Bool) (l : List α) : countOf p (l.filter q) = countOf (fun x => p x && q x) l := by
  rw [countOf, List.filter_filter, countOf]

/-- Two conditions that exclude each other are counted together. -/
theorem countOf_or {α : Type} {p q : α → Bool} (l : List α) (h : ∀ x, p x = true → q x = false) :
    countOf p l + countOf q l = countOf (fun x => p x || q x) l := by
  induction l with
  | nil => rfl
  | cons x l ih =>
    simp only [countOf, List.filter_cons] at ih ⊢
    cases hp : p x with
    | true =>
      simp only [h x hp, if_true, Bool.true_or, Bool.false_eq_true, if_false, List.length_cons]
      omega
    | false => cases hq : q x <;> simp <;> omega

theorem countOf_dueEntries (s : State) (p : Nat × Loan → Bool) :
    countOf p (dueEntries (clocksMoved s)) =
      countOf (fun e => p (e.1, e.2.tick) && e.2.tick.due s.settings.lostAfter) s.loans := by
  have hs : (clocksMoved s).settings.lostAfter = s.settings.lostAfter := rfl
  rw [dueEntries, countOf_append, countOf_filter, countOf_filter, clocksMoved_loans, countOf_mapAll, countOf_mapAll, hs,
    countOf_or]
  · simp only [Loan.due, Bool.and_or_distrib_left]
  · intro e he
    rw [Bool.and_eq_true] at he
    rw [lostAt_graceEnded he.2, Bool.and_false]

theorem countOf_patron_dueEntries (s : State) (n : Nat) :
    countOf (fun e => e.2.patron == n) (dueEntries (clocksMoved s)) = closedCount s n := by
  rw [countOf_dueEntries]
  simp only [tick_patron]
  rfl

theorem length_dueEntries (s : State) :
    (dueEntries (clocksMoved s)).length = countOf (fun e => e.2.tick.due s.settings.lostAfter) s.loans := by
  have h := countOf_dueEntries s (fun _ => true)
  simpa [countOf] using h

theorem loansClosed_eq {s : State} (h : s.loans.wf = true) :
    loansClosed s = (dueEntries (clocksMoved s)).foldl closeEntry (clocksMoved s) :=
  closeDue_eq (clocksMoved_wf h)

section
variable {s : State} (h : s.loans.wf = true)
include h

theorem loansClosed_frame :
    loansClosed s = { clocksMoved s with
      loans := (loansClosed s).loans, patrons := (loansClosed s).patrons, heldTotal := (loansClosed s).heldTotal
      carts := (loansClosed s).carts, copySets := (loansClosed s).copySets } := by
  rw [loansClosed_eq h]
  exact foldl_closeEntry_frame _ _

theorem due_iff_mem {n : Nat} {l : Loan} (hl : s.loans.get n = some l) :
    n ∈ (dueEntries (clocksMoved s)).map Prod.fst ↔ l.tick.due s.settings.lostAfter = true := by
  rw [List.mem_map]
  refine ⟨fun ⟨e, he, hn⟩ => ?_, fun hd => ⟨(n, l.tick), mem_dueEntries_clocks.2 ⟨l, Table.mem_of_get hl, rfl, hd⟩, rfl⟩⟩
  obtain ⟨l', hl', _, hd⟩ := mem_dueEntries_clocks.1 he
  have hget := Table.get_of_mem h hl'
  rw [hn, hl] at hget
  rw [Option.some.inj hget]
  exact hd

theorem loansClosed_loans_get (n : Nat) :
    (loansClosed s).loans.get n =
      (s.loans.get n).bind (fun l => if l.tick.due s.settings.lostAfter then none else some l.tick) := by
  rw [loansClosed_eq h, foldl_closeEntry_loans_get, clocksMoved_loans, Table.get_mapAll]
  cases hl : s.loans.get n with
  | none => simp
  | some l =>
    simp only [Option.map_some, Option.bind_some, due_iff_mem h hl]

theorem loansClosed_patrons_get (n : Nat) :
    (loansClosed s).patrons.get n = (fun o => o.bind Patron.charged)^[closedCount s n] (s.patrons.get n) := by
  rw [loansClosed_eq h, foldl_closeEntry_patrons_get, countOf_patron_dueEntries]
  rfl

theorem loansClosed_carts_lost {n serial : Nat} {l : Loan} {titles : List Nat} {c : Cart} (hl : s.loans.get n = some l)
    (hlost : l.tick.lostAt s.settings.lostAfter = true) (ho : l.object = .cartridge serial titles)
    (hc : s.carts.get serial = some c) : (loansClosed s).carts.get serial = some { c with state := .lost } := by
  have hany : (dueEntries (clocksMoved s)).any (fun e => e.2.loses serial) = true := by
    refine List.any_eq_true.2 ⟨(n, l.tick), mem_dueEntries_clocks.2 ⟨l, Table.mem_of_get hl, rfl, ?_⟩, ?_⟩
    · rw [Loan.due, hlost, Bool.true_or]
    · simp [Loan.loses, lostAt_graceEnded hlost, tick_object, ho]
  have hget : (clocksMoved s).carts.get serial = some c := hc
  rw [loansClosed_eq h, foldl_closeEntry_carts_get, if_pos hany, hget]
  rfl

theorem loansClosed_carts_other {serial : Nat}
    (hno : ∀ e ∈ s.loans, e.2.tick.lostAt s.settings.lostAfter = true → ∀ titles, e.2.object ≠ .cartridge serial titles) :
    (loansClosed s).carts.get serial = s.carts.get serial := by
  have hany : ¬ (dueEntries (clocksMoved s)).any (fun e => e.2.loses serial) = true := fun hany => by
    obtain ⟨e, he, hloses⟩ := List.any_eq_true.1 hany
    obtain ⟨l, hl, hel, hd⟩ := mem_dueEntries_clocks.1 he
    rw [hel, Loan.loses, tick_object, Bool.and_eq_true, Bool.not_eq_true'] at hloses
    obtain ⟨hgrace, hcart⟩ := hloses
    rw [Loan.due, hgrace, Bool.or_false] at hd
    cases ho : l.object with
    | cartridge k ts =>
      rw [ho] at hcart
      exact hno _ hl hd ts (by rw [← of_decide_eq_true hcart]; exact ho)
    | copySet k =>
      rw [ho] at hcart
      cases hcart
  rw [loansClosed_eq h, foldl_closeEntry_carts_get, if_neg hany]
  rfl

theorem loansClosed_copySets_own {n k : Nat} {l : Loan} {c : CopySet} (hl : s.loans.get n = some l)
    (hd : l.tick.due s.settings.lostAfter = true) (ho : l.object = .copySet k) (hc : s.copySets.get k = some c)
    (honly : ∀ m x, s.loans.get m = some x → x.object = .copySet k → m = n) :
    (loansClosed s).copySets.get k = some { c with state := .incomplete (l.tick.missing (volumeCount s c.title)) } := by
  rw [loansClosed_eq h]
  refine foldl_closeEntry_copySets_own (e := (n, l.tick)) (dueEntries_nodup (clocksMoved_wf h))
    (mem_dueEntries_clocks.2 ⟨l, Table.mem_of_get hl, rfl, hd⟩) (by rw [tick_object, ho]) (fun e he hk => ?_) hc
  obtain ⟨x, hx, hex, _⟩ := mem_dueEntries_clocks.1 he
  rw [hex, tick_object] at hk
  exact honly e.1 x (Table.get_of_mem h hx) hk

theorem loansClosed_copySets_other {k : Nat}
    (hno : ∀ e ∈ s.loans, e.2.tick.due s.settings.lostAfter = true → e.2.object ≠ .copySet k) :
    (loansClosed s).copySets.get k = s.copySets.get k := by
  rw [loansClosed_eq h, foldl_closeEntry_copySets_other]
  · rfl
  · intro e he hk
    obtain ⟨l, hl, hel, hd⟩ := mem_dueEntries_clocks.1 he
    rw [hel, tick_object] at hk
    exact hno _ hl hd hk

theorem loansClosed_heldTotal
    (hp : ∀ e ∈ s.loans, ∃ p, s.patrons.get e.2.patron = some p ∧ (p.state = .closing → closedCount s e.2.patron ≤ p.held)) :
    (loansClosed s).heldTotal = s.heldTotal - countOf (fun e => e.2.tick.due s.settings.lostAfter) s.loans := by
  rw [loansClosed_eq h, foldl_closeEntry_heldTotal, length_dueEntries]
  · rfl
  · intro e he
    obtain ⟨l, hl, hel, _⟩ := mem_dueEntries_clocks.1 he
    obtain ⟨p, hget, hheld⟩ := hp _ hl
    rw [hel, tick_patron, countOf_patron_dueEntries]
    exact ⟨p, hget, hheld⟩

end

theorem loansClosed_patrons_wf {s : State} (h : s.patrons.wf = true) : (loansClosed s).patrons.wf = true :=
  (closeDue_keeps _).patrons h

/-- Closures change no patron's state. -/
theorem charged_state {p q : Patron} {k : Nat} (h : (fun o => o.bind Patron.charged)^[k] (some p) = some q) :
    q.state = p.state := by
  induction k generalizing p with
  | zero => rw [← Option.some.inj h]
  | succ k ih =>
    rw [Function.iterate_succ_apply, Option.bind_some, Patron.charged] at h
    split at h
    · rw [charged_none] at h
      cases h
    · exact ih (p := { p with held := p.held - 1 }) h

/-! ### The whole of an open day -/

/-- Whether a patron has a loan open as the day begins (R143). -/
def hadLoan (s : State) (n : Nat) : Bool :=
  decide (n ∈ borrowers s)

/-- Whether the suspension condition holds for a patron once the loans due are closed (R142). -/
def lateToday (s : State) (n : Nat) : Bool :=
  suspensionHolds (loansClosed s) n

/-- The service day that begins. -/
def nextDay (s : State) : Nat :=
  (s.day + 1) % 65536

/-- What an open day leaves, before its notices. -/
def openDay (s : State) : State :=
  { loansClosed s with
    patrons := (loansClosed s).patrons.mapAll (fun n p => p.turned (nextDay s) (lateToday s n) (hadLoan s n))
    passQueue := ((loansClosed s).patrons.select (fun n p =>
      p.state.turnJoins (nextDay s) (lateToday s n) (hadLoan s n) (decide (closedCount s n ≠ 0)))).foldl appendNew s.passQueue }

/-- Whether an open day suspends a patron (R27). -/
def daySuspendsAny (s : State) : Bool :=
  (loansClosed s).patrons.any (fun e => e.2.state.turnSuspends (nextDay s) (lateToday s e.1) (hadLoan s e.1))

theorem mem_patronsOf_due {s : State} (h : s.loans.wf = true) (n : Nat) :
    n ∈ patronsOf (clocksMoved s) (lostLoans (clocksMoved s) ++ gracedLoans (clocksMoved s)) ↔ closedCount s n ≠ 0 := by
  have hnums : lostLoans (clocksMoved s) ++ gracedLoans (clocksMoved s) = (dueEntries (clocksMoved s)).map Prod.fst := by
    rw [dueEntries, List.map_append]
    rfl
  have hget : ∀ e ∈ dueEntries (clocksMoved s), (clocksMoved s).loans.get e.1 = some e.2 := fun e he =>
    Table.get_of_mem (clocksMoved_wf h) (mem_dueEntries.1 he).1
  rw [hnums, patronsOf, List.mem_filterMap, ← countOf_patron_dueEntries, countOf, ne_eq, List.length_eq_zero_iff,
    List.filter_eq_nil_iff]
  push Not
  refine ⟨fun ⟨m, hm, hp⟩ => ?_, fun ⟨e, he, hp⟩ => ⟨e.1, List.mem_map_of_mem he, ?_⟩⟩
  · obtain ⟨e, he, rfl⟩ := List.mem_map.1 hm
    rw [hget e he] at hp
    exact ⟨e, he, by simpa using hp⟩
  · rw [hget e he]
    simpa using hp

theorem advanceDay_open {s : State} (h : s.loans.wf = true) (hp : s.patrons.wf = true) :
    advanceDay true s = raiseIf (daySuspendsAny s) .order .patronSuspended (openDay s) := by
  have hday : (turnDay true s).day = nextDay s := rfl
  have hqueue : (closeDue (tickLoans (turnDay true s))).passQueue = s.passQueue := by
    have := loansClosed_frame h
    rw [loansClosed, clocksMoved] at this
    rw [this]
    rfl
  have hclosers : ∀ n, decide (n ∈ patronsOf (tickLoans (turnDay true s))
      (lostLoans (tickLoans (turnDay true s)) ++ gracedLoans (tickLoans (turnDay true s)))) = decide (closedCount s n ≠ 0) :=
    fun n => decide_eq_decide.2 (mem_patronsOf_due h n)
  rw [advanceDay]
  simp only [if_true]
  rw [dayPatrons_eq (s := closeDue (tickLoans (turnDay true s))) (loansClosed_patrons_wf hp), hday]
  simp only [hclosers, hqueue]
  rfl

end Sys2Proof.Machine
end

section
/-! SUPPORT. NEW-DAY OPEN: the patrons' records, the pass queue, the notices and the answer of an open day (R26 to R30, R43, R137,
R143, R148). -/

namespace Sys2Proof.Machine

-- One declaration at a time: the check's memory does not hold many side by side.
set_option Elab.async false

/-! ### Notices pending after an event -/

theorem noticeFrames_notices (old p : Port) : (Port.noticeFrames old p).notices = p.notices := by
  unfold Port.noticeFrames
  generalize p.notices.filter _ = ns
  induction ns generalizing p with
  | nil => rfl
  | cons n ns ih =>
    rw [List.foldl_cons, ih, Port.pushNotice]
    split <;> rfl

theorem mem_raise_iff (l k : Link) (n m : Notice) (s : State) :
    m ∈ ((raise l n s).port k).notices ↔ m ∈ (s.port k).notices ∨ (k, m) = (l, n) := by
  by_cases hk : k = l
  · subst hk
    simp only [raise, State.port, State.onPort, PerLink.get_set_same, mem_addNotice, Prod.mk.injEq, true_and]
    exact or_comm
  · simp [raise, State.port, State.onPort, hk]

theorem mem_raiseAll (ns : List (Link × Notice)) (s : State) (k : Link) (m : Notice) :
    m ∈ ((raiseAll ns s).port k).notices ↔ m ∈ (s.port k).notices ∨ (k, m) ∈ ns := by
  induction ns generalizing s with
  | nil => simp
  | cons e ns ih => rw [raiseAll_cons, ih, mem_raise_iff, List.mem_cons, or_assoc]

/-- The kinds pending after an event: those before its notices, those it raises, and those its conditions make pending. -/
theorem mem_ended (s : State) (raised : List (Link × Notice)) (s' : State) (k : Link) (m : Notice) :
    m ∈ ((s.ended raised s').port k).notices ↔ m ∈ (s'.port k).notices ∨ (k, m) ∈ raised ++ dueNotices s s' := by
  rw [State.ended, noticeFrames_port, noticeFrames_notices, mem_raiseAll]

/-- The kinds pending after a request that changes no condition. -/
theorem mem_after {s s' : State} (l : Link) (tag : Half) (k : Kind) (a : Answer) (raised : List (Link × Notice))
    (h : SameConditions s s') (x : Link) (m : Notice) :
    m ∈ ((s.after l tag k a raised s').port x).notices ↔ m ∈ (s.port x).notices ∨ (x, m) ∈ raised := by
  have hdue : dueNotices s { s' with ports := s.answered l tag k.code a } = [] :=
    dueNotices_quiet ⟨h.jobQueue, h.unwiped, h.tasks, h.parcels, h.dispatchQueue, h.blank, h.reserved, h.warn, h.critical⟩
  have hport : ((({ s' with ports := s.answered l tag k.code a } : State).port x).notices) = (s.port x).notices := by
    by_cases hx : x = l
    · subst hx
      simp [State.port, State.answered, Port.answered]
    · simp [State.port, State.answered, hx]
  rw [State.after, mem_ended, hdue, List.append_nil, hport]

/-! ### The patrons of an open day -/

theorem turnSuspends_iff (day : Nat) (late checked : Bool) (st : PatronState) :
    st.turnSuspends day late checked = true ↔ st ≠ .suspended ∧ st.turned day late checked = .suspended := by
  by_cases hd : st = .paused day
  · cases late <;> cases checked <;> simp [PatronState.turnSuspends, PatronState.turned, PatronState.unpaused,
      PatronState.checked, hd]
  · cases checked
    · simp [PatronState.turnSuspends, PatronState.turned, PatronState.unpaused, hd]
    · cases st <;> cases late <;> simp_all [PatronState.turnSuspends, PatronState.turned, PatronState.unpaused,
        PatronState.checked]

theorem turned_closing_self (day : Nat) (late checked : Bool) {p : Patron} (hp : p.state = .closing) :
    p.turned day late checked = p := by
  have h := (turned_closing day late checked p.state).2 hp
  obtain ⟨st, _, _, _, _, _, _⟩ := p
  subst hp
  simp only [Patron.turned, h]

theorem turnJoins_closing (day : Nat) (late checked closed : Bool) :
    PatronState.turnJoins day late checked closed .closing = false := by
  simp [PatronState.turnJoins]

section
variable {s : State} (h : s.loans.wf = true)
include h

theorem openDay_patrons_get (n : Nat) :
    (openDay s).patrons.get n =
      ((fun o => o.bind Patron.charged)^[closedCount s n] (s.patrons.get n)).map
        (Patron.turned (nextDay s) (lateToday s n) (hadLoan s n)) := by
  rw [openDay, Table.get_mapAll, loansClosed_patrons_get h]

theorem openDay_patron_none {n : Nat} (hn : s.patrons.get n = none) : (openDay s).patrons.get n = none := by
  rw [openDay_patrons_get h, hn, charged_none]
  rfl

/-- A patron not CLOSING after an open day (R26, R141, R143). -/
theorem openDay_patron_open {n : Nat} {p : Patron} (hn : s.patrons.get n = some p) (hp : p.state ≠ .closing) :
    (openDay s).patrons.get n =
      some { p with held := p.held - closedCount s n
                    state := p.state.turned (nextDay s) (lateToday s n) (hadLoan s n) } := by
  rw [openDay_patrons_get h, hn, charged_open _ hp]
  rfl

/-- A CLOSING patron after an open day (R30, R141). -/
theorem openDay_patron_closing {n : Nat} {p : Patron} (hn : s.patrons.get n = some p) (hp : p.state = .closing)
    (hk : closedCount s n ≤ p.held) :
    (openDay s).patrons.get n =
      if closedCount s n = 0 then some p
      else if p.held = closedCount s n then none else some { p with held := p.held - closedCount s n } := by
  rw [openDay_patrons_get h, hn, charged_closing _ hp hk]
  split_ifs
  · rw [Option.map_some, turned_closing_self _ _ _ hp]
  · rfl
  · rw [Option.map_some, turned_closing_self _ _ _ (p := { p with held := p.held - closedCount s n }) hp]

/-- A record that the closures leave was there before them, with the same state. -/
theorem loansClosed_patron_before {n : Nat} {q : Patron} (hq : (loansClosed s).patrons.get n = some q) :
    ∃ p, s.patrons.get n = some p ∧ q.state = p.state := by
  rw [loansClosed_patrons_get h] at hq
  cases hp : s.patrons.get n with
  | none =>
    rw [hp, charged_none] at hq
    cases hq
  | some p =>
    rw [hp] at hq
    exact ⟨p, rfl, charged_state hq⟩

/-- A patron whose state changes to SUSPENDED is one the day suspends. -/
theorem daySuspendsAny_iff (hw : s.patrons.wf = true) :
    daySuspendsAny s = true ↔
      ∃ n p q, s.patrons.get n = some p ∧ p.state ≠ .suspended ∧ (openDay s).patrons.get n = some q ∧ q.state = .suspended := by
  rw [daySuspendsAny, List.any_eq_true]
  refine ⟨fun ⟨e, he, hs⟩ => ?_, fun ⟨n, p, q, hp, hne, hq, hqs⟩ => ?_⟩
  · have hget := Table.get_of_mem (loansClosed_patrons_wf hw) he
    obtain ⟨p, hp, hst⟩ := loansClosed_patron_before h hget
    obtain ⟨hne, hturn⟩ := (turnSuspends_iff _ _ _ _).1 hs
    refine ⟨e.1, p, e.2.turned (nextDay s) (lateToday s e.1) (hadLoan s e.1), hp, hst ▸ hne, ?_, hturn⟩
    rw [openDay, Table.get_mapAll, hget]
    rfl
  · rw [openDay, Table.get_mapAll, Option.map_eq_some_iff] at hq
    obtain ⟨q', hq', rfl⟩ := hq
    obtain ⟨p', hp', hst⟩ := loansClosed_patron_before h hq'
    have hpp : p' = p := Option.some.inj (hp'.symm.trans hp)
    refine ⟨(n, q'), Table.mem_of_get hq', (turnSuspends_iff _ _ _ _).2 ⟨?_, hqs⟩⟩
    rw [hst, hpp]
    exact hne

/-- The patrons that join the pass queue on an open day, in patron order (R26, R28, R43). -/
theorem openDay_joins (hw : s.patrons.wf = true) :
    (loansClosed s).patrons.select (fun n p =>
        p.state.turnJoins (nextDay s) (lateToday s n) (hadLoan s n) (decide (closedCount s n ≠ 0))) =
      s.patrons.select (fun n p => p.state != .closing && (closedCount s n != 0
        || p.state == .paused (nextDay s) && !lateToday s n
        || p.state == .suspended && hadLoan s n && !lateToday s n)) := by
  have hsorted : ∀ {t : Table Patron} (f : Nat → Patron → Bool), t.wf = true → (t.select f).Pairwise (· < ·) :=
    fun {t} f ht => List.pairwise_map.2 (((Table.wf_iff t).1 ht).filter _)
  refine List.Pairwise.eq_of_mem_iff (hsorted _ (loansClosed_patrons_wf hw)) (hsorted _ hw) fun n => ?_
  rw [Table.mem_select (loansClosed_patrons_wf hw), Table.mem_select hw]
  have hjoins : ∀ st : PatronState, st ≠ .closing →
      st.turnJoins (nextDay s) (lateToday s n) (hadLoan s n) (decide (closedCount s n ≠ 0)) =
        (st != .closing && (closedCount s n != 0 || st == .paused (nextDay s) && !lateToday s n
          || st == .suspended && hadLoan s n && !lateToday s n)) := fun st hst => by
    have hb : (st != .closing) = true := bne_iff_ne.2 hst
    have hc : (closedCount s n != 0) = decide (closedCount s n ≠ 0) := by
      rw [Bool.eq_iff_iff, bne_iff_ne, decide_eq_true_eq]
    rw [PatronState.turnJoins, hb, hc]
    cases (st == .paused (nextDay s)) <;> cases (st == .suspended) <;> cases lateToday s n <;> cases hadLoan s n <;>
      cases decide (closedCount s n ≠ 0) <;> rfl
  constructor
  · rintro ⟨q, hq, hj⟩
    obtain ⟨p, hp, hst⟩ := loansClosed_patron_before h hq
    have hne : p.state ≠ .closing := fun hc => by
      rw [hst, hc, turnJoins_closing] at hj
      cases hj
    exact ⟨p, hp, by rw [← hjoins _ hne, ← hst]; exact hj⟩
  · rintro ⟨p, hp, hj⟩
    have hne : p.state ≠ .closing := bne_iff_ne.1 (Bool.and_eq_true_iff.1 hj).1
    refine ⟨{ p with held := p.held - closedCount s n }, ?_, by rw [hjoins _ hne]; exact hj⟩
    rw [loansClosed_patrons_get h, hp, charged_open _ hne]

end

/-! ### NEW-DAY OPEN taken -/

/-- The kinds an open day makes pending (R27, R141, R159). -/
def dayKinds (s : State) : List (Link × Notice) :=
  dueIf (daySuspendsAny s) [(.order, .patronSuspended)]
    ++ (dueIf (decide (0 < countOf (fun e => e.2.tick.lostAt s.settings.lostAfter) s.loans))
        [(.order, .loansLost), (.returns, .loansLost)]
      ++ dueIf (decide (0 < countOf (fun e => e.2.tick.graceEnded) s.loans)) [(.returns, .missingVolumes)])

/-- The answer of an open day (R148). -/
def dayAnswer (s : State) : Answer :=
  ⟨.done, [f2 (nextDay s), f1 1, f2 s.settings.limitNext,
    f2 (countOf (fun e => e.2.state == .out && decide (e.2.daysLeft ≤ 1)) s.loans),
    f2 (countOf (fun e => e.2.tick.lostAt s.settings.lostAfter) s.loans),
    f2 (countOf (fun e => e.2.tick.graceEnded) s.loans),
    f2 (movedTo s (openDay s) (· != .suspended) (· == .suspended)),
    f2 (movedTo s (openDay s) (· == .suspended) (· == .active)),
    f2 (countOf (fun e => e.2.state == .paused (nextDay s)) s.patrons)]⟩

theorem openDay_frame {s : State} (h : s.loans.wf = true) :
    openDay s = { turnDay true s with
      loans := (loansClosed s).loans, patrons := (openDay s).patrons, heldTotal := (loansClosed s).heldTotal
      carts := (loansClosed s).carts, copySets := (loansClosed s).copySets, passQueue := (openDay s).passQueue } := by
  unfold openDay
  rw [loansClosed_frame h]
  rfl

theorem raiseIf_twice (b : Bool) (l k : Link) (n m : Notice) (s : State) :
    raiseIf b k m (raiseIf b l n s) = raiseAll (dueIf b [(l, n), (k, m)]) s := by
  cases b <;> rfl

theorem dayNotices_eq (lost graced : Nat) (s : State) :
    dayNotices lost graced s =
      raiseAll (dueIf (decide (0 < lost)) [(.order, .loansLost), (.returns, .loansLost)]
        ++ dueIf (decide (0 < graced)) [(.returns, .missingVolumes)]) s := by
  rw [raiseAll_append, raiseAll_dueIf, ← raiseIf_twice]
  rfl

theorem length_select_clocks (s : State) (p : Nat → Loan → Bool) :
    ((tickLoans s).loans.select p).length = countOf (fun e => p e.1 e.2.tick) s.loans := by
  rw [Table.select, List.length_map, tickLoans]
  exact countOf_mapAll (fun e => p e.1 e.2) s.loans (fun _ l => l.tick)

theorem tick_isOverdue {l : Loan} (h : l.state = .out) : l.tick.isOverdue = decide (l.daysLeft ≤ 1) := by
  by_cases hd : l.daysLeft ≤ 1 <;> simp [Loan.tick, h, hd, Loan.isOverdue]

theorem loanCounts_open (s : State) :
    loanCounts true s =
      (countOf (fun e => e.2.state == .out && decide (e.2.daysLeft ≤ 1)) s.loans,
        countOf (fun e => e.2.tick.lostAt s.settings.lostAfter) s.loans, countOf (fun e => e.2.tick.graceEnded) s.loans) := by
  have hout : countOf (fun e => e.2.state == .out && e.2.tick.isOverdue) s.loans =
      countOf (fun e => e.2.state == .out && decide (e.2.daysLeft ≤ 1)) s.loans := countOf_congr fun e _ => by
    by_cases ho : e.2.state = .out
    · rw [tick_isOverdue ho]
    · have hb : (e.2.state == .out) = false := by simpa using ho
      rw [hb, Bool.false_and, Bool.false_and]
  rw [loanCounts, if_pos rfl, hout]
  dsimp only
  rw [lostLoans, length_select_clocks, gracedLoans, length_select_clocks]
  rfl

/-- NEW-DAY OPEN, taken (R137). -/
theorem takeNewDay_opens {s : State} (ho : dispatchOpen s = false) (h : s.loans.wf = true) (hp : s.patrons.wf = true) :
    takeNewDay 1 s = ⟨raiseAll (dayKinds s) (openDay s), dayAnswer s⟩ := by
  have hkind : dayKind 1 = (true, .done) := rfl
  have hfields : newDayFields true s (openDay s) = (dayAnswer s).fields := by
    have hf := openDay_frame h
    have hday : (openDay s).day = nextDay s := by rw [hf]; rfl
    have hopen : (openDay s).dayOpen = true := by rw [hf]; rfl
    have hlimit : (openDay s).settings.limitInForce = s.settings.limitNext := by rw [hf]; rfl
    rw [newDayFields, hday, hopen, hlimit, loanCounts_open]
    rfl
  rw [takeNewDay, if_neg (by simp [ho]), hkind]
  dsimp only
  rw [advanceDay_open h hp, ← raiseAll_dueIf, newDayFields_raiseAll, hfields, loanCounts_open, dayNotices_eq,
    ← raiseAll_append]
  rfl

/-! ### The obligation's terms -/

theorem tick_eq (l : Loan) :
    (match l.state with
      | .out => if 1 < l.daysLeft then { l with daysLeft := l.daysLeft - 1 } else { l with daysLeft := 0, state := .overdue 0 }
      | .overdue e => { l with state := .overdue (e + 1) }
      | .part vols grace => { l with state := .part vols (grace - 1) }) = l.tick := by
  unfold Loan.tick
  cases l.state with
  | out =>
    dsimp only
    by_cases hd : l.daysLeft ≤ 1
    · rw [if_pos hd, if_neg (by omega)]
    · rw [if_neg hd, if_pos (by omega)]
  | overdue e => rfl
  | part vols grace => rfl

theorem lostAt_iff (after : Nat) (l : Loan) : l.lostAt after = true ↔ ∃ e, l.state = .overdue e ∧ after ≤ e := by
  unfold Loan.lostAt
  cases l.state <;> simp

theorem graceEnded_iff (l : Loan) : l.graceEnded = true ↔ ∃ vols, l.state = .part vols 0 := by
  unfold Loan.graceEnded
  cases l.state <;> simp

theorem due_eq (after : Nat) (l : Loan) :
    (match l.state with
      | .overdue e => decide (after ≤ e)
      | .part _ grace => grace == 0
      | .out => false) = l.due after := by
  unfold Loan.due Loan.lostAt Loan.graceEnded
  cases l.state <;> simp

theorem mem_borrowers (s : State) (n : Nat) : hadLoan s n = true ↔ ∃ e ∈ s.loans, e.2.patron = n := by
  rw [hadLoan, decide_eq_true_eq, borrowers, List.mem_map]

theorem mem_foldl_appendNew (l q : List Nat) (n : Nat) : n ∈ l.foldl appendNew q ↔ n ∈ q ∨ n ∈ l := by
  induction l generalizing q with
  | nil => simp
  | cons m l ih => rw [List.foldl_cons, ih, mem_appendNew, List.mem_cons, or_assoc]

theorem SameConditions.trans {s t u : State} (h : SameConditions s t) (h' : SameConditions t u) : SameConditions s u :=
  ⟨h'.jobQueue.trans h.jobQueue, h'.unwiped.trans h.unwiped, h'.tasks.trans h.tasks, h'.parcels.trans h.parcels,
    h'.dispatchQueue.trans h.dispatchQueue, h'.blank.trans h.blank, h'.reserved.trans h.reserved, h'.warn.trans h.warn,
    h'.critical.trans h.critical⟩

theorem openDay_sameConditions {s : State} (h : s.loans.wf = true) : SameConditions s (openDay s) := by
  rw [openDay_frame h]
  exact ⟨rfl, rfl, rfl, rfl, rfl, rfl, rfl, rfl, rfl⟩

theorem movedTo_congr {s0 s t u : State} (hs : s.patrons = s0.patrons) (ht : t.patrons = u.patrons)
    (was now : PatronState → Bool) : movedTo s t was now = movedTo s0 u was now := by
  rw [movedTo, movedTo, hs, ht]

theorem turned_active (day : Nat) (late had : Bool) :
    PatronState.active.turned day late had = if late && had then .suspended else .active := by
  cases late <;> cases had <;> rfl

theorem turned_suspended (day : Nat) (late had : Bool) :
    PatronState.suspended.turned day late had = if had && !late then .active else .suspended := by
  cases late <;> cases had <;> rfl

theorem turned_paused (day : Nat) (late had : Bool) :
    (PatronState.paused day).turned day late had = if late then .suspended else .active := by
  cases late <;> cases had <;> simp [PatronState.turned, PatronState.unpaused, PatronState.checked]

theorem turned_pausedLonger {day d : Nat} (h : d ≠ day) (late had : Bool) :
    (PatronState.paused d).turned day late had = .paused d := by
  cases had <;> simp [PatronState.turned, PatronState.unpaused, PatronState.checked, h]

/-- A patron's state after an open day, by its state before it (R26, R27, R28, R143). -/
theorem turned_cases (day : Nat) (late had : Bool) (st : PatronState) :
    (st = .active → had = true → late = true → st.turned day late had = .suspended)
    ∧ (st = .active → ¬ had = true ∨ ¬ late = true → st.turned day late had = .active)
    ∧ (st = .suspended → had = true → ¬ late = true → st.turned day late had = .active)
    ∧ (st = .suspended → ¬ had = true ∨ late = true → st.turned day late had = .suspended)
    ∧ (st = .paused day → late = true → st.turned day late had = .suspended)
    ∧ (st = .paused day → ¬ late = true → st.turned day late had = .active)
    ∧ ∀ d, d ≠ day → st = .paused d → st.turned day late had = .paused d := by
  refine ⟨?_, ?_, ?_, ?_, ?_, ?_, ?_⟩
  · rintro rfl rfl rfl
    rfl
  · rintro rfl h
    rw [turned_active]
    exact if_neg fun hb => by cases late <;> cases had <;> simp at h hb
  · rintro rfl rfl h
    rw [turned_suspended, eq_false_of_ne_true h]
    rfl
  · rintro rfl h
    rw [turned_suspended]
    exact if_neg fun hb => by cases late <;> cases had <;> simp at h hb
  · rintro rfl rfl
    exact turned_paused day true had
  · rintro rfl h
    rw [turned_paused, eq_false_of_ne_true h]
    rfl
  · rintro d hd rfl
    exact turned_pausedLonger hd late had

theorem mem_openDay_passQueue {s : State} (h : s.loans.wf = true) (hw : s.patrons.wf = true) {n : Nat} {p : Patron}
    (hp : s.patrons.get n = some p) (hst : p.state ≠ .closing) (hc : closedCount s n ≠ 0) : n ∈ (openDay s).passQueue := by
  refine (mem_foldl_appendNew _ _ _).2 (.inr ?_)
  rw [openDay_joins h hw, Table.mem_select hw]
  exact ⟨p, hp, by simp [bne_iff_ne.2 hst, hc]⟩

theorem lateToday_eq_any {s : State} (h : s.loans.wf = true) (n : Nat) :
    lateToday s n = (loansClosed s).loans.any (fun e => e.2.patron == n && e.2.suspends s.settings.suspendAfter) := by
  have hs : (loansClosed s).settings.suspendAfter = s.settings.suspendAfter := by
    rw [loansClosed_frame h]
    rfl
  rw [lateToday, suspensionHolds, hs]

theorem hadLoan_eq_any (s : State) (n : Nat) : hadLoan s n = s.loans.any (fun e => e.2.patron == n) := by
  rw [Bool.eq_iff_iff, mem_borrowers, List.any_eq_true]
  simp only [beq_iff_eq]

section
variable {s : State} (h : s.loans.wf = true)
include h

theorem lateToday_iff (n : Nat) :
    lateToday s n = true ↔ ∃ e ∈ (loansClosed s).loans, e.2.patron = n
      ∧ ∃ d, e.2.state = .overdue d ∧ s.settings.suspendAfter ≤ d := by
  have hs : (loansClosed s).settings.suspendAfter = s.settings.suspendAfter := by
    rw [loansClosed_frame h]
    rfl
  rw [lateToday, suspensionHolds_iff, hs]
  exact ⟨fun ⟨l, loan, d, hm, hp, hd⟩ => ⟨(l, loan), hm, hp, d, hd⟩, fun ⟨e, hm, hp, d, hd⟩ => ⟨e.1, e.2, d, hm, hp, hd⟩⟩

/-- The loans of a patron that an open day closes, read from the loans that are left. -/
theorem closedCount_eq (n : Nat) :
    countOf (fun e => decide (e.2.patron = n ∧ (loansClosed s).loans.get e.1 = none)) s.loans = closedCount s n := by
  refine countOf_congr fun e he => ?_
  rw [loansClosed_loans_get h, Table.get_of_mem h he, Option.bind_some, Bool.decide_and]
  have hb : decide (e.2.patron = n) = (e.2.patron == n) := rfl
  cases e.2.tick.due s.settings.lostAfter <;> simp [hb]

end

theorem mem_dueIf (b : Bool) (ns : List (Link × Notice)) (x : Link × Notice) : x ∈ dueIf b ns ↔ b = true ∧ x ∈ ns := by
  cases b <;> simp [dueIf]

theorem suspended_mem_dayKinds (s : State) : (Link.order, Notice.patronSuspended) ∈ dayKinds s ↔ daySuspendsAny s = true := by
  simp [dayKinds, mem_dueIf]

theorem lost_mem_dayKinds {s : State} {e : Nat × Loan} (he : e ∈ s.loans)
    (hl : e.2.tick.lostAt s.settings.lostAfter = true) :
    (Link.order, Notice.loansLost) ∈ dayKinds s ∧ (Link.returns, Notice.loansLost) ∈ dayKinds s := by
  have hpos : 0 < countOf (fun e => e.2.tick.lostAt s.settings.lostAfter) s.loans :=
    List.length_pos_of_mem (List.mem_filter.2 ⟨he, hl⟩)
  simp [dayKinds, mem_dueIf, hpos]

theorem graced_mem_dayKinds {s : State} {e : Nat × Loan} (he : e ∈ s.loans) (hg : e.2.tick.graceEnded = true) :
    (Link.returns, Notice.missingVolumes) ∈ dayKinds s := by
  have hpos : 0 < countOf (fun e => e.2.tick.graceEnded) s.loans := List.length_pos_of_mem (List.mem_filter.2 ⟨he, hg⟩)
  simp [dayKinds, mem_dueIf, hpos]

/-- Settles O53: the closures of the loans due, then the patrons' part, and the notices last. -/
theorem newDayOpen : Obligations.NewDayOpen := by
  intro tag s hr hwf hpacking hbegun day ticked lost graced closes closedOf
  obtain ⟨hpatrons, hloans⟩ : s.patrons.wf = true ∧ s.loans.wf = true := by
    simp only [State.tablesWf, Bool.and_eq_true] at hwf
    tauto
  have hticked : ∀ l, ticked l = l.tick := tick_eq
  have hlost : ∀ l, lost l ↔ l.tick.lostAt s.settings.lostAfter = true := fun l => by rw [lostAt_iff, ← hticked]
  have hgraced : ∀ l, graced l ↔ l.tick.graceEnded = true := fun l => by rw [graceEnded_iff, ← hticked]
  have hdue : ∀ l, lost l ∨ graced l ↔ l.tick.due s.settings.lostAfter = true := fun l => by
    rw [hlost, hgraced, Loan.due, Bool.or_eq_true]
  have hcloses : ∀ l, closes l = l.tick.due s.settings.lostAfter := fun l => by
    rw [← hticked]
    exact due_eq _ _
  have hclosed : ∀ n, closedOf n = closedCount s n := fun n => countOf_congr fun e _ => by rw [hcloses]
  let s0 := admitted .order tag Kind.newDay.code s
  have h0 : s0.loans.wf = true := hloans
  have hp0 : s0.patrons.wf = true := hpatrons
  have ho : dispatchOpen s0 = false := Bool.eq_false_of_not_eq_true fun hd => by
    rcases (dispatchOpen_iff s0).1 hd with ⟨e, he, hs⟩ | ⟨e, he, hs⟩
    · exact hpacking e he hs
    · rw [hbegun e he] at hs
      cases hs
  have hports : openDay s0 = { openDay s0 with ports := s0.ports } := by
    rw [openDay_frame h0]
    rfl
  have htake : takeNewDay 1 s0 = ⟨raiseAll (dayKinds s0) { openDay s0 with ports := s0.ports }, dayAnswer s0⟩ := by
    rw [← hports]
    exact takeNewDay_opens ho h0 hp0
  have hexec := (reads_newDay (code := 1) (by decide)).after hr (dayKinds s0) htake
  have ht := after_eq s .order tag .newDay (dayAnswer s0) (dayKinds s0) (openDay s0)
  have hanswered := after_answered s .order tag .newDay (dayAnswer s0) (dayKinds s0) (openDay s0)
  have hnotices := mem_after .order tag .newDay (dayAnswer s0) (dayKinds s0) (s := s) (s' := openDay s0)
    (SameConditions.trans (s := s) (t := s0) ⟨rfl, rfl, rfl, rfl, rfl, rfl, rfl, rfl, rfl⟩ (openDay_sameConditions h0))
  generalize s.after .order tag .newDay (dayAnswer s0) (dayKinds s0) (openDay s0) = t at hexec ht hanswered hnotices
  have hframe : t = { turnDay true s with
      loans := (loansClosed s0).loans, patrons := (openDay s0).patrons, heldTotal := (loansClosed s0).heldTotal
      carts := (loansClosed s0).carts, copySets := (loansClosed s0).copySets, passQueue := (openDay s0).passQueue
      ports := t.ports } := by
    rw [ht, openDay_frame h0]
    rfl
  have htloans : t.loans = (loansClosed s0).loans := by rw [hframe]
  have htpatrons : t.patrons = (openDay s0).patrons := by rw [hframe]
  have htcarts : t.carts = (loansClosed s0).carts := by rw [hframe]
  have htsets : t.copySets = (loansClosed s0).copySets := by rw [hframe]
  have htqueue : t.passQueue = (openDay s0).passQueue := by rw [hframe]
  have hget : ∀ n, t.loans.get n =
      (s.loans.get n).bind (fun l => if l.tick.due s.settings.lostAfter then none else some l.tick) :=
    fun n => by rw [htloans]; exact loansClosed_loans_get h0 n
  have hmiss : ∀ {l : Loan}, lost l → ∀ k, l.tick.missing k = (List.range k).map (fun v => v + 1) := fun {l} hl k => by
    rw [Loan.missing, lostAt_graceEnded ((hlost l).1 hl)]
    rfl
  have hlate : ∀ n, lateToday s0 n = true ↔
      ∃ e ∈ t.loans, e.2.patron = n ∧ ∃ d, e.2.state = .overdue d ∧ s.settings.suspendAfter ≤ d := fun n => by
    rw [htloans]
    exact lateToday_iff h0 n
  have hhad : ∀ n, hadLoan s0 n = true ↔ ∃ e ∈ s.loans, e.2.patron = n := mem_borrowers s0
  have hcount : ∀ n, countOf (fun e => decide (e.2.patron = n ∧ t.loans.get e.1 = none)) s.loans = closedCount s0 n :=
    fun n => by rw [htloans]; exact closedCount_eq h0 n
  refine ⟨t, congrArg Host.Outcome.next hexec, ?_, ?_, ?_, ?_, ?_, ?_, fun n l hl => ⟨fun hd => ?_, fun h1 h2 => ?_⟩,
    fun n hn => ?_, fun n l serial titles c hl hd ho hc => ?_, fun serial hno => ?_, fun n l k c hl ho hc honly =>
    ⟨fun hd => ?_, fun vols hd => ?_⟩, fun k hno => ?_, fun n p hp hst => ⟨⟨{ p with
      held := p.held - closedCount s0 n, state := p.state.turned day (lateToday s0 n) (hadLoan s0 n) }, ?_, ?_, ?_⟩,
      fun hsome => ?_⟩,
    fun n p hp hst hk => ?_, fun n hn => ?_, fun hheld => ?_, ?_, ?_, fun hsome => ?_, fun hsome => ?_, ?_, ?_⟩
  · rw [hframe]; rfl
  · rw [hframe]; rfl
  · rw [hframe]; rfl
  · rw [hframe]; rfl
  · rw [hframe]; rfl
  · rw [hframe]; rfl
  · rw [hget, hl, Option.bind_some, if_pos ((hdue l).1 hd)]
  · rw [hget, hl, Option.bind_some, if_neg (mt (hdue l).2 (not_or.2 ⟨h1, h2⟩)), hticked]
  · rw [hget, hn, Option.bind_none]
  · rw [htcarts]
    exact loansClosed_carts_lost h0 hl ((hlost l).1 hd) ho hc
  · rw [htcarts]
    exact loansClosed_carts_other h0 fun e he hl => hno e he ((hlost e.2).2 hl)
  · have hown := loansClosed_copySets_own h0 hl ((hdue l).1 (.inl hd)) ho hc honly
    rw [htsets, hown, hmiss hd]
    rfl
  · have hown := loansClosed_copySets_own h0 hl ((hdue l).1 (.inr ⟨vols, hd⟩)) ho hc honly
    rw [hticked] at hd
    have hgrace : l.tick.graceEnded = true := (graceEnded_iff _).2 ⟨vols, hd⟩
    have hback : l.tick.returned = vols := by rw [Loan.returned, hd]
    rw [htsets, hown, Loan.missing, if_pos hgrace, hback]
    rfl
  · rw [htsets]
    exact loansClosed_copySets_other h0 fun e he hd => hno e he ((hdue e.2).2 hd)
  · rw [htpatrons]
    exact openDay_patron_open h0 hp hst
  · rw [hcount]
  · rw [← hlate, ← hhad]
    exact turned_cases day _ _ p.state
  · obtain ⟨e, he, hn, hgone⟩ := hsome
    have hc : closedCount s0 n ≠ 0 := by
      rw [← hcount, countOf, ne_eq, List.length_eq_zero_iff, List.filter_eq_nil_iff]
      exact fun hall => hall e he (decide_eq_true ⟨hn, hgone⟩)
    rw [htqueue]
    exact mem_openDay_passQueue h0 hp0 hp hst hc
  · rw [hclosed] at hk ⊢
    rw [htpatrons]
    exact openDay_patron_closing h0 hp hst hk
  · rw [htpatrons]
    exact openDay_patron_none h0 hn
  · have hh : t.heldTotal = (loansClosed s0).heldTotal := by rw [hframe]
    have hc : countOf (fun e => closes e.2) s.loans = countOf (fun e => e.2.tick.due s.settings.lostAfter) s.loans :=
      countOf_congr fun e _ => hcloses e.2
    rw [hh, hc]
    refine loansClosed_heldTotal h0 fun e he => ?_
    obtain ⟨p, hp, hk⟩ := hheld e he
    exact ⟨p, hp, fun hst => (hclosed _) ▸ hk hst⟩
  · have hq : (openDay s0).passQueue = _ := congrArg (fun l => l.foldl appendNew s.passQueue) (openDay_joins h0 hp0)
    rw [htqueue, hq]
    simp only [hclosed, htloans, hadLoan_eq_any, lateToday_eq_any h0]
    rfl
  · rw [hnotices, htpatrons]
    exact or_congr Iff.rfl ((suspended_mem_dayKinds s0).trans (daySuspendsAny_iff h0 hp0))
  · obtain ⟨e, he, hl⟩ := hsome
    obtain ⟨horder, hreturns⟩ := lost_mem_dayKinds (s := s0) he ((hlost e.2).1 hl)
    exact ⟨(hnotices _ _).2 (.inr horder), (hnotices _ _).2 (.inr hreturns)⟩
  · obtain ⟨e, he, hg⟩ := hsome
    exact (hnotices _ _).2 (.inr (graced_mem_dayKinds (s := s0) he ((hgraced e.2).1 hg)))
  · rw [movedTo_congr (s0 := s0) (s := s) rfl htpatrons, movedTo_congr (s0 := s0) (s := s) rfl htpatrons]
    exact hanswered
  · refine ⟨?_, ?_, ?_, ?_, ?_, ?_, ?_, ?_, ?_, ?_, ?_, ?_, ?_, ?_, ?_, ?_, ?_, ?_, ?_, ?_, ?_, ?_, ?_⟩ <;> rw [hframe] <;> rfl

end Sys2Proof.Machine
end

section
/-! SUPPORT. The release of a TOGETHER order's group (R112, R118), the dropping of an item (R111, R112), and NOT-FOUND (R110). -/

namespace Sys2Proof.Machine

-- One declaration at a time: the check's memory does not hold many side by side.
set_option Elab.async false

/-! ### The group of an order released -/

theorem hasParcels_iff (s : State) (o : Nat) (i : Item) : hasParcels s o i = true ↔ hasParcel s o i := by
  have hany : hasParcels s o i = s.parcels.any (fun e => e.2.order == o && e.2.contents.holds i.object) := by
    rw [hasParcels, itemParcels, Table.select, List.isEmpty_map]
    cases h : s.parcels.any (fun e => e.2.order == o && e.2.contents.holds i.object) with
    | true =>
      obtain ⟨e, he, hp⟩ := List.any_eq_true.1 h
      rw [Bool.not_eq_true', ← Bool.not_eq_true, List.isEmpty_iff]
      exact List.ne_nil_of_mem (List.mem_filter.2 ⟨he, hp⟩)
    | false =>
      rw [Bool.not_eq_false', List.isEmpty_iff, List.filter_eq_nil_iff]
      exact List.any_eq_false.1 h
  rw [hany]
  simp [hasParcel, List.any_eq_true]

theorem releaseDueFor_iff (s : State) (o : Nat) (r : Order) : releaseDueFor s o r = true ↔ ¬ groupWaits s o r := by
  have hmode : r.mode = .together ↔ r.mode ≠ .asReady := by cases r.mode <;> simp
  simp only [releaseDueFor, Bool.and_eq_true, beq_iff_eq, List.all_eq_true, Bool.or_eq_true, hasParcels_iff, List.any_eq_true,
    groupWaits, hmode]
  push Not
  refine ⟨fun ⟨⟨hm, hi⟩, hf⟩ => ⟨hm, fun i hi' hd => ?_, hf⟩, fun ⟨hm, hi, hf⟩ => ⟨⟨hm, fun i hi' => ?_⟩, hf⟩⟩
  · have := hi i hi'
    simpa [hd] using this
  · cases hd : i.dispatched with
    | true => exact .inl rfl
    | false => simpa using hi i hi' hd

theorem releaseTogether_waits {s : State} {o : Nat} (h : ∀ r, s.orders.get o = some r → groupWaits s o r) :
    releaseTogether o s = s := by
  unfold releaseTogether
  split
  · rename_i r g hr _
    rw [if_neg fun hd => (releaseDueFor_iff s o r).1 hd (h r hr)]
  · rfl

theorem liveGroup_eq {s : State} {o g : Nat} {rg : DispatchGroup} (h : LiveGroup s o g rg) : liveGroup s o = some g := by
  obtain ⟨e, he, ho⟩ := h.some
  cases hf : s.parcels.find? (fun e => e.2.order == o) with
  | none => exact absurd ho (by simpa using List.find?_eq_none.1 hf e he)
  | some x =>
    have hx : x.2.order = o := by simpa using List.find?_some hf
    rw [liveGroup, hf, Option.map_some, h.all x (List.mem_of_find?_eq_some hf) hx]

/-- Whether a parcel in the dispatch queue belongs to an URGENT group. -/
def urgentQueued (s : State) (n : Nat) : Bool :=
  match s.parcels.get n with
  | some p => ((s.groups.get p.group).map DispatchGroup.band) == some .urgent
  | none => false

theorem urgentQueued_iff (s : State) (n : Nat) : urgentQueued s n = true ↔ inBandOf s .urgent n := by
  unfold urgentQueued inBandOf
  cases hp : s.parcels.get n with
  | none => simp
  | some p =>
    simp only [beq_iff_eq, Option.map_eq_some_iff, Option.some.injEq]
    exact ⟨fun ⟨g, hg, hb⟩ => ⟨p, g, rfl, hg, hb⟩, fun ⟨p', g, hp', hg, hb⟩ => ⟨g, hp' ▸ hg, hb⟩⟩

theorem takeWhile_append_stop {α : Type} {p : α → Bool} {front back : List α} (hf : ∀ a ∈ front, p a = true)
    (hb : ∀ a ∈ back.head?, ¬ p a = true) :
    (front ++ back).takeWhile p = front ∧ (front ++ back).dropWhile p = back := by
  have hstop : back.takeWhile p = [] ∧ back.dropWhile p = back := by
    cases back with
    | nil => exact ⟨rfl, rfl⟩
    | cons a l =>
      have ha := hb a (by simp)
      exact ⟨List.takeWhile_cons_of_neg ha, List.dropWhile_cons_of_neg ha⟩
  rw [List.takeWhile_append_of_pos hf, List.dropWhile_append_of_pos hf, hstop.1, hstop.2, List.append_nil]
  exact ⟨rfl, rfl⟩

/-- Parcels join the dispatch queue between the parts that the tail of their band divides it into (R125). -/
theorem queueGroup_eq {s : State} {b : Band} {front back : List Nat} (h : TailOf s b front back) (ps : List Nat) :
    queueGroup s b ps = front ++ ps ++ back := by
  unfold queueGroup
  cases b with
  | normal => rw [h.parts, h.normal rfl, List.append_nil, List.append_nil]
  | urgent =>
    obtain ⟨hf, hb⟩ := h.urgent rfl
    obtain ⟨htake, hdrop⟩ := takeWhile_append_stop
      (fun a ha => (urgentQueued_iff s a).2 (hf a ha)) (fun a ha hu => hb a ha ((urgentQueued_iff s a).1 hu))
    have hparts : s.dispatchQueue.takeWhile (urgentQueued s) ++ ps ++ s.dispatchQueue.dropWhile (urgentQueued s) =
        front ++ ps ++ back := by rw [h.parts, htake, hdrop]
    exact hparts

theorem releaseGroup_eq {s : State} {g : Nat} {rg : DispatchGroup} {front back : List Nat} (hg : s.groups.get g = some rg)
    (h : TailOf s rg.band front back) : releaseGroup g s = s.groupReleased rg.parcels front back := by
  simp only [releaseGroup, hg, queueGroup_eq h, State.groupReleased, readyParcels, Table.mapAll]
  refine congrArg (fun ps => { s with parcels := ps, dispatchQueue := front ++ rg.parcels ++ back })
    (List.map_congr_left fun e _ => ?_)
  split <;> rfl

/-- What the release of an order's group leaves is the state that its settlement describes. -/
theorem releaseTogether_settled {s t : State} {o : Nat} (h : GroupSettled s o t) : releaseTogether o s = t := by
  rcases h with ⟨hw, rfl⟩ | ⟨g, r, rg, front, back, hdue, htail, rfl⟩
  · exact releaseTogether_waits hw
  · have hrelease : releaseDueFor s o r = true := by
      rw [releaseDueFor_iff]
      rintro (hm | ⟨i, hi, hd, hw⟩ | hf)
      · rw [hdue.mode] at hm
        cases hm
      · rcases hdue.parcelled i hi with hd' | ⟨hr, hp⟩
        · rw [hd] at hd'
          cases hd'
        · rcases hw with hw | hw
          · rw [hr] at hw
            cases hw
          · exact hw hp
      · obtain ⟨e, he, ho, hs⟩ := hdue.forming
        exact hf e he ho hs
    simp only [releaseTogether, hdue.order, liveGroup_eq hdue.group, hrelease, if_true]
    exact releaseGroup_eq hdue.group.record htail

/-! ### What the ports do not touch -/

theorem completeOrder_ports (o : Nat) (s : State) (P : PerLink Port) :
    completeOrder o { s with ports := P } = { completeOrder o s with ports := P } := by
  unfold completeOrder
  dsimp only
  split
  · split <;> rfl
  · rfl

theorem freeIfDone_ports (n : Nat) (s : State) (P : PerLink Port) :
    freeIfDone n { s with ports := P } = { freeIfDone n s with ports := P } := by
  unfold freeIfDone
  dsimp only
  split
  · split <;> rfl
  · rfl

/-- The release of a group neither reads nor writes the ports and the bays. -/
theorem releaseTogether_with (o : Nat) (s : State) (P : PerLink Port) (B : List Bay) :
    releaseTogether o { s with ports := P, bays := B } = { releaseTogether o s with ports := P, bays := B } := by
  have hlive : liveGroup { s with ports := P, bays := B } o = liveGroup s o := rfl
  have hdue : ∀ r, releaseDueFor { s with ports := P, bays := B } o r = releaseDueFor s o r := fun _ => rfl
  have hrelease : ∀ g, releaseGroup g { s with ports := P, bays := B } = { releaseGroup g s with ports := P, bays := B } :=
    fun g => by
      unfold releaseGroup
      dsimp only
      split <;> rfl
  unfold releaseTogether
  dsimp only
  rw [hlive]
  split
  · rw [hdue]
    split
    · exact hrelease _
    · rfl
  · rfl

theorem releaseTogether_ports (o : Nat) (s : State) (P : PerLink Port) :
    releaseTogether o { s with ports := P } = { releaseTogether o s with ports := P } := by
  have hbays : (releaseTogether o s).bays = s.bays := by rw [releaseTogether_frame o s]
  have h := releaseTogether_with o s P s.bays
  rw [← hbays] at h
  exact (congrArg (releaseTogether o) (by rw [hbays])).trans h

/-! ### An item dropped -/

/-- What the drop of an item does to its patron, before the notice: H and the total of held units down by 1; for a patron not
CLOSING its entries back and a place on the pass queue, and a CLOSING one freed with its last unit (R111, R30). -/
def patronDropped (patron : Nat) (entries : List WishEntry) (s : State) : State :=
  let s1 := lowerHeld patron 1 s
  freeIfDone patron (if notClosing s1 patron then appendPass patron (returnEntries patron entries s1) else s1)

theorem dropForPatron_eq (patron : Nat) (entries : List WishEntry) (s : State) :
    dropForPatron patron entries s = raise .order .itemDropped (patronDropped patron entries s) := by
  have hraise : ∀ u : State, freeIfDone patron (raise .order .itemDropped u) = raise .order .itemDropped (freeIfDone patron u) :=
    fun u => (freeIfDone_ports patron u _).trans (by rw [freeIfDone_frame]; rfl)
  exact hraise _

theorem raise_completeOrder (o : Nat) (l : Link) (n : Notice) (s : State) :
    completeOrder o (raise l n s) = raise l n (completeOrder o s) :=
  (completeOrder_ports o s _).trans (by rw [completeOrder_frame]; rfl)

theorem raise_releaseTogether (o : Nat) (l : Link) (n : Notice) (s : State) :
    releaseTogether o (raise l n s) = raise l n (releaseTogether o s) := by
  have hports : (releaseTogether o s).ports = s.ports := by rw [(releaseTogether_frame o s)]
  refine (releaseTogether_ports o s _).trans ?_
  rw [raise, State.onPort, hports]

/-- The orders once the item at a place left order `o`: the order is freed where nothing undispatched remains (R104). -/
def ordersDropped (o p : Nat) (r : Order) (ts : Table Order) : Table Order :=
  let rest := r.items.filter (fun x => x.place != p)
  if ∀ x ∈ rest, x.dispatched = true then ts.del o else ts.put o { r with items := rest }

/-- An AS-READY order, or one whose other items are dispatched, has no group that waits once its item is dropped. -/
theorem ordersDropped_quiet {o p : Nat} {r r' : Order} {ts : Table Order}
    (h : r.mode = .asReady ∨ ∀ x ∈ r.items.filter (fun x => x.place != p), x.dispatched = true)
    (hr' : (ordersDropped o p r ts).get o = some r') : r'.mode = .asReady := by
  unfold ordersDropped at hr'
  dsimp only at hr'
  split at hr'
  · rw [Table.get_del_same] at hr'
    cases hr'
  · rename_i hsome
    rw [Table.get_put_same] at hr'
    rw [← Option.some.inj hr']
    exact h.resolve_right hsome

theorem removeItem_eq {s : State} {o : Nat} {r : Order} (p : Nat) (h : s.orders.get o = some r) :
    removeItem o p s = { s with orders := s.orders.put o { r with items := r.items.filter (fun x => x.place != p) } } := by
  rw [removeItem, Table.modify_some _ h]
  rfl

/-- An order from which an item was removed is settled (R104). -/
theorem completeOrder_removed {u : State} {o p : Nat} {r : Order} {ts : Table Order}
    (hu : u.orders = ts.put o { r with items := r.items.filter (fun x => x.place != p) }) :
    completeOrder o u = { u with orders := ordersDropped o p r ts } := by
  rw [completeOrder, hu, ordersDropped]
  simp only [Table.get_put_same, Table.put_del, List.all_eq_true]
  split
  · rfl
  · rw [← hu]

/-! ### Entries returned -/

/-- The titles once a patron joined the heads of the waiting lists of some BRAILLE entries (R40, R41). -/
def titlesJoined (n : Nat) (ws : List WishEntry) (ts : Table Title) : Table Title :=
  ws.foldl (fun ts w => if w.format = .braille then
    ts.modify w.title (fun r => { r with waiting := n :: r.waiting.erase n }) else ts) ts

theorem foldl_joinWaitingHead (n : Nat) (ws : List WishEntry) (s : State) :
    ws.foldl (fun acc w => if w.format = .braille then joinWaitingHead n w.title acc else acc) s =
      { s with titles := titlesJoined n ws s.titles } := by
  induction ws generalizing s with
  | nil => rfl
  | cons w ws ih =>
    rw [List.foldl_cons, ih, titlesJoined, titlesJoined, List.foldl_cons]
    split <;> rfl

/-- Entries returned as one block (R40). -/
theorem returnEntries_eq {s : State} {n : Nat} {p : Patron} (h : s.patrons.get n = some p) (entries : List WishEntry) :
    returnEntries n entries s = { s with
      patrons := s.patrons.put n { p with wishes := entriesBack entries p.wishes }
      titles := titlesJoined n (entries.take (64 - p.wishes.length)) s.titles } := by
  simp only [returnEntries, h]
  exact foldl_joinWaitingHead _ _ _

theorem titlesJoined_cartridges (n : Nat) {ws : List WishEntry} (h : ∀ w ∈ ws, w.format = .cartridge) (ts : Table Title) :
    titlesJoined n ws ts = ts := by
  induction ws with
  | nil => rfl
  | cons w ws ih =>
    have hw : ¬ w.format = .braille := by simp [h w (by simp)]
    rw [titlesJoined, List.foldl_cons, if_neg hw]
    exact ih fun w' hw' => h w' (List.mem_cons_of_mem w hw')

theorem titlesJoined_single {n : Nat} {w : WishEntry} {ts : Table Title} {ti : Title} {k : Nat} (hw : w.format = .braille)
    (ht : ts.get w.title = some ti) (hk : 0 < k) :
    titlesJoined n ([w].take k) ts = ts.put w.title { ti with waiting := n :: ti.waiting.erase n } := by
  rw [List.take_of_length_le (by simpa using Nat.succ_le_of_lt hk), titlesJoined, List.foldl_cons, List.foldl_nil, if_pos hw,
    Table.modify_some _ ht]

/-- The drop of an item of a patron not CLOSING (R111). -/
theorem patronDropped_open {s : State} {n : Nat} {p : Patron} (h : s.patrons.get n = some p) (hp : p.state ≠ .closing)
    (entries : List WishEntry) :
    patronDropped n entries s = { s with
      patrons := s.patrons.put n { p with held := p.held - 1, wishes := entriesBack entries p.wishes }
      titles := titlesJoined n (entries.take (64 - p.wishes.length)) s.titles
      heldTotal := s.heldTotal - 1
      passQueue := appendNew s.passQueue n } := by
  have hopen : ∀ u : State, u.patrons.get n = some { p with held := p.held - 1 } → notClosing u n = true :=
    fun u hu => by simp [notClosing, hu, hp]
  rw [patronDropped, lowerHeld_eq 1 h]
  rw [hopen _ (Table.get_put_same ..), if_pos rfl, returnEntries_eq (Table.get_put_same ..),
    freeIfDone_open (p := { p with held := p.held - 1, wishes := entriesBack entries p.wishes })
      (by simp [appendPass]) hp]
  simp only [appendPass, Table.put_put]

/-- The drop of an item of a CLOSING patron (R30, R111). -/
theorem patronDropped_closing {s : State} {n : Nat} {p : Patron} (h : s.patrons.get n = some p) (hp : p.state = .closing)
    (entries : List WishEntry) :
    patronDropped n entries s = { s with
      patrons := if p.held - 1 = 0 then s.patrons.del n else s.patrons.put n { p with held := p.held - 1 }
      heldTotal := s.heldTotal - 1 } := by
  have hclosing : ∀ u : State, u.patrons.get n = some { p with held := p.held - 1 } → notClosing u n = false :=
    fun u hu => by simp [notClosing, hu, hp]
  rw [patronDropped, lowerHeld_eq 1 h]
  rw [hclosing _ (Table.get_put_same ..), if_neg Bool.false_ne_true]
  simp only [freeIfDone, Table.get_put_same, hp, true_and, Table.put_del]
  split <;> rfl

theorem dropItem_eq {s : State} {o p : Nat} {r : Order} {i : Item} (h : s.orders.get o = some r)
    (hi : r.items.find? (fun x => x.place == p) = some i) :
    dropItem o p s =
      raise .order .itemDropped
        (releaseTogether o (completeOrder o (patronDropped r.patron i.entries (removeItem o p s)))) := by
  simp only [dropItem, h, Order.item, hi, dropForPatron_eq, raise_completeOrder, raise_releaseTogether]

/-- A dropped item of a patron not CLOSING, up to the release of its order's group (R111, R112). -/
theorem dropItem_open {s : State} {o p : Nat} {r : Order} {i : Item} {q : Patron} (h : s.orders.get o = some r)
    (hi : r.items.find? (fun x => x.place == p) = some i) (hq : s.patrons.get r.patron = some q) (hst : q.state ≠ .closing) :
    dropItem o p s = raise .order .itemDropped (releaseTogether o { s with
      orders := ordersDropped o p r s.orders
      patrons := s.patrons.put r.patron { q with held := q.held - 1, wishes := entriesBack i.entries q.wishes }
      titles := titlesJoined r.patron (i.entries.take (64 - q.wishes.length)) s.titles
      heldTotal := s.heldTotal - 1
      passQueue := appendNew s.passQueue r.patron }) := by
  have hremoved : (removeItem o p s).patrons.get r.patron = some q := hq
  rw [dropItem_eq h hi, patronDropped_open hremoved hst, removeItem_eq p h, completeOrder_removed rfl]

/-- A dropped item of a CLOSING patron (R30, R111, R112). -/
theorem dropItem_closing {s : State} {o p : Nat} {r : Order} {i : Item} {q : Patron} (h : s.orders.get o = some r)
    (hi : r.items.find? (fun x => x.place == p) = some i) (hq : s.patrons.get r.patron = some q) (hst : q.state = .closing) :
    dropItem o p s = raise .order .itemDropped (releaseTogether o { s with
      orders := ordersDropped o p r s.orders
      patrons := if q.held - 1 = 0 then s.patrons.del r.patron else s.patrons.put r.patron { q with held := q.held - 1 }
      heldTotal := s.heldTotal - 1 }) := by
  have hremoved : (removeItem o p s).patrons.get r.patron = some q := hq
  rw [dropItem_eq h hi, patronDropped_closing hremoved hst, removeItem_eq p h, completeOrder_removed rfl]

/-! ### NOT-FOUND -/

theorem reads_notFound {n : Nat} (h : n < 256 ^ 3) : Reads .mailroom .notFound (writeFields [3] [n]) (takeNotFound n) :=
  ⟨writeFields_short rfl (by decide), rfl, oneField_writeFields (w := 3) _ h, rfl⟩

theorem takeNotFound_noSuch {s : State} {n : Nat} (h : s.tasks.get n = none) : takeNotFound n s = refused s .noSuch := by
  simp [takeNotFound, h]

theorem takeNotFound_queued {s : State} {n : Nat} {t : PullTask} (h : s.tasks.get n = some t) (ht : t.state = .queued) :
    takeNotFound n s = refused s .state := by
  simp [takeNotFound, h, ht]

/-- What NOT-FOUND does to the task and the set (R106, R110). -/
theorem setMissing_eq {s : State} {n k : Nat} {c : CopySet} (missing : List Nat) (hc : s.copySets.get k = some c) :
    makeIncomplete k missing (freeTask n s) = { s with
      tasks := s.tasks.del n
      pullQueue := s.pullQueue.erase n
      copySets := s.copySets.put k { c with state := .incomplete missing } } := by
  have hget : (freeTask n s).copySets.get k = some c := hc
  rw [makeIncomplete, hget]
  rfl

/-- The state once NOT-FOUND freed the task and made the set INCOMPLETE, with all of `count` volumes missing (R106, R110). -/
def setMissed (n k : Nat) (c : CopySet) (count : Nat) (s : State) : State :=
  { s with
    tasks := s.tasks.del n
    pullQueue := s.pullQueue.erase n
    copySets := s.copySets.put k { c with state := .incomplete ((List.range count).map (fun v => v + 1)) } }

theorem takeNotFound_handed {s : State} {n o p : Nat} {t : PullTask} {c : CopySet} {ti : Title} {weights : List Nat}
    (h : s.tasks.get n = some t) (ht : t.state = .handed) (hc : s.copySets.get t.copySet = some c) (hs : c.state = .pulling o p)
    (hti : s.titles.get c.title = some ti) (hb : ti.braille = some weights) :
    takeNotFound n s = ⟨dropItem o p (setMissed n t.copySet c weights.length s), .done, []⟩ := by
  have hne : ¬ t.state = .queued := by simp [ht]
  have htie : setTie s t.copySet = (o, p) := by simp [setTie, hc, hs, SetState.tie]
  have htitle : (titleOfSet s t.copySet).getD 0 = c.title := by simp [titleOfSet, hc]
  simp only [takeNotFound, h, if_neg hne, htie, htitle, volumeCount_eq hti hb, setMissing_eq _ hc]
  rfl

/-- A READY parcel in the dispatch queue, where none stood before, makes PARCEL-WAITING pending (R118, R125). -/
theorem parcelWaiting_due {s u : State} (hno : ∀ e ∈ s.dispatchQueue, (s.parcels.get e).map Parcel.state ≠ some .ready)
    (hsome : ∃ e ∈ u.dispatchQueue, (u.parcels.get e).map Parcel.state = some .ready) :
    (Link.mailroom, Notice.parcelWaiting) ∈ dueNotices s u := by
  have hdue : parcelWaitingDue s u = true := by
    have h0 : hasReadyParcel s = false := by
      rw [hasReadyParcel, List.any_eq_false]
      exact fun e he => by simpa [parcelState] using hno e he
    have h1 : hasReadyParcel u = true := by
      obtain ⟨e, he, hs⟩ := hsome
      rw [hasReadyParcel, List.any_eq_true]
      exact ⟨e, he, by simpa [parcelState] using hs⟩
    rw [parcelWaitingDue, h0, h1]
    rfl
  simp [dueNotices, hdue, dueIf]

/-- Settles O42, by the task and by the patron's state; the group by what its settlement describes. -/
theorem notFound : Obligations.NotFound := by
  intro tag s n hr hlt
  have hreads := reads_notFound hlt
  refine ⟨fun h => congrArg Host.Outcome.next (hreads.answers hr (takeNotFound_noSuch h)),
    fun t h ht => congrArg Host.Outcome.next (hreads.answers hr (takeNotFound_queued h ht)), ?_⟩
  intro t c o p ti weights r i w pat h ht hc hs hti hb ho hi hentries hw htitle hpat rest dropped s' after
  have htake := takeNotFound_handed (s := admitted .mailroom tag Kind.notFound.code s) h ht hc hs hti hb
  have hafter : ∀ u, releaseTogether o s' = u → exec (.notFound .mailroom tag (writeFields [3] [n])) s = .next (after u) := by
    intro u hu
    refine congrArg Host.Outcome.next (hreads.after hr [(.order, .itemDropped)] (htake.trans ?_))
    let missed := setMissed n t.copySet c weights.length (admitted .mailroom tag Kind.notFound.code s)
    have hports := releaseTogether_ports o s' (admitted .mailroom tag Kind.notFound.code s).ports
    rw [hu] at hports
    rw [raiseAll_cons, raiseAll_nil, ← hports]
    by_cases hst : pat.state = .closing
    · rw [dropItem_closing (s := missed) ho hi hpat hst]
      simp only [s', if_pos hst]
      rfl
    · have hjoined : titlesJoined r.patron ([w].take (64 - pat.wishes.length)) s.titles =
          if pat.wishes.length < 64 then s.titles.put c.title { ti with waiting := r.patron :: ti.waiting.erase r.patron }
          else s.titles := by
        split
        · rename_i hroom
          rw [titlesJoined_single hw (htitle ▸ hti) (Nat.sub_pos_of_lt hroom), htitle]
        · rename_i hroom
          rw [Nat.sub_eq_zero_of_le (Nat.not_lt.1 hroom)]
          rfl
      rw [dropItem_open (s := missed) ho hi hpat hst, hentries]
      simp only [s', if_neg hst, ← hjoined]
      rfl
  have hsettled : ∀ u, GroupSettled s' o u → exec (.notFound .mailroom tag (writeFields [3] [n])) s = .next (after u) :=
    fun u hu => hafter u (releaseTogether_settled hu)
  refine ⟨fun hquiet => hsettled s' (.inl ⟨fun r' hr' => ?_, rfl⟩), fun u hu => ⟨hsettled u hu, fun hno hsome => ?_⟩⟩
  · have horders : s'.orders = ordersDropped o p r s.orders := by
      simp only [s']
      split <;> rfl
    rw [horders] at hr'
    exact .inl (ordersDropped_quiet hquiet hr')
  · exact (mem_ended _ _ _ _ _).2 (.inr (List.mem_append_right _ (parcelWaiting_due hno hsome)))

end Sys2Proof.Machine
end

section
/-! SUPPORT. The end of a write with a bad outcome (R90 to R98, R101): the bay's part, the cartridge's fault, the freed job
record, and the job again, abandoned or freed. -/

namespace Sys2Proof.Machine

-- One declaration at a time: the check's memory does not hold many side by side.
set_option Elab.async false

/-! ### The bay's part -/

theorem works_eq (b : Bay) : (b.inService || b.isResting) = b.works := by
  obtain ⟨c, r, l⟩ := b
  cases c <;> rfl

theorem standing_running (d : DupStanding) : d = .running ↔ ¬ d = .halted := by
  cases d <;> simp

theorem haltCheck_eq (s : State) :
    haltCheck s =
      if s.standing = .halted ∨ s.bays.any Bay.works then s
      else raiseAll [(.order, .dupHalted), (.duplication, .dupHalted)] { s with standing := .halted } := by
  have hb : s.bays.any (fun b => b.inService || b.isResting) = s.bays.any Bay.works := by simp only [works_eq]
  simp only [haltCheck, hb, standing_running]
  by_cases h : s.standing = .halted ∨ s.bays.any Bay.works = true
  · rw [if_pos h, if_neg fun ⟨h1, h2⟩ => h.elim h1 h2]
  · rw [if_neg h, if_pos (not_or.1 h)]
    rfl

/-- A bay once its activity ended with a bad outcome, before the outcome counts (R90). -/
def Bay.ended (b : Bay) (last : Option LastActivity) : Bay :=
  { b with
    condition := match b.condition with
      | .service st streak strikes _ => .service st streak strikes .idle
      | c => c
    last := last }

theorem badAt_ports (s : State) (P : PerLink Port) (n : Nat) (b : Bay) (last : Option LastActivity) :
    ({ s with ports := P } : State).badAt n b last =
      ({ (s.badAt n b last).1 with ports := P }, (s.badAt n b last).2) := by
  unfold State.badAt
  dsimp only
  split
  · rfl
  · split
    · rfl
    · split <;> rfl

/-- A rest that a bad outcome starts, or the bay's failure (R98, R101), with the bay's record as its activity left it. -/
theorem startRest_eq (s : State) (n : Nat) (b : Bay) (x : Bay) (B : List Bay) (hB : B = s.bays.set n x)
    (h : ∀ streak a, b.condition ≠ .service .qualified streak 0 a) (hx : x.restsToday = b.restsToday) :
    startRest n x { s with bays := B } = raiseAll (s.badAt n b x.last).2 (s.badAt n b x.last).1 := by
  subst hB
  have hset : ∀ y : Bay, ((s.bays.set n x).set n y) = s.bays.set n y := fun y => by simp
  have hmax : Config.maxRests = 2 := rfl
  unfold State.badAt
  dsimp only
  split
  · rename_i streak a hc
    exact absurd hc (h _ _)
  · rw [startRest, hmax, hx]
    split
    · simp only [State.putBay, hset]
      rfl
    · simp only [haltCheck_eq, State.putBay, hset, raise, State.onPort]
      split <;> rfl

/-- A bad outcome counts at a bay in SERVICE whose activity has ended (R97, R98, R101). -/
theorem countBadOutcome_eq {s : State} {n : Nat} {b : Bay} {st : Standing} {streak strikes : Nat} {a : Activity}
    (last : Option LastActivity) (hn : n < 32) (hb : s.bays[n]? = some b) (hc : b.condition = .service st streak strikes a) :
    countBadOutcome n { s with bays := s.bays.set n (b.ended last) } =
      raiseAll (s.badAt n b last).2 (s.badAt n b last).1 := by
  have hlen : n < s.bays.length := (List.getElem?_eq_some_iff.1 hb).1
  have hbay : State.bay { s with bays := s.bays.set n (b.ended last) } n = some (b.ended last) :=
    bay_some hn (by simp [hlen])
  have hended : (b.ended last).condition = .service st streak strikes .idle := by simp only [Bay.ended, hc]
  have hrest : (b.ended last).restsToday = b.restsToday := rfl
  have hmax : Config.maxStrikes = 2 := rfl
  simp only [countBadOutcome, hbay, hended]
  cases st with
  | qualifying => exact startRest_eq s n b (b.ended last) _ rfl (fun _ _ h => by rw [hc] at h; cases h) hrest
  | qualified =>
    cases strikes with
    | zero =>
      have hbad : s.badAt n b last = ({ s with
          bays := s.bays.set n ⟨.service .qualified 0 1 .idle, b.restsToday, last⟩ }, []) := by
        simp only [State.badAt, hc]
      simp only [hmax, hbad, State.putBay, List.set_set]
      rfl
    | succ k =>
      have hle : Config.maxStrikes ≤ k + 1 + 1 := by rw [hmax]; omega
      dsimp only
      rw [if_pos hle]
      exact startRest_eq s n b (b.ended last) _ rfl (fun _ _ h => by rw [hc] at h; cases h) hrest

theorem idleBay_eq {s : State} {n : Nat} {b : Bay} {st : Standing} {streak strikes : Nat} {a : Activity} (k : WorkKind)
    (serial : Nat) (e : Ending) (hn : n < 32) (hb : s.bays[n]? = some b) (hc : b.condition = .service st streak strikes a) :
    idleBay n k serial e s = { s with bays := s.bays.set n (b.ended (some ⟨k, serial, e⟩)) } := by
  simp only [idleBay, bay_some hn hb, hc, State.putBay, Bay.ended]

/-! ### The cartridge's part and the freed record -/

theorem faultCart_eq {s : State} {serial : Nat} {r : Cart} (h : s.carts.get serial = some r) :
    faultCart serial s = s.cartFaulted serial r := by
  have hmax : Config.maxFaults = 3 := rfl
  have hput : (s.putCart serial { r with faults := r.faults + 1 }).carts.get serial = some { r with faults := r.faults + 1 } :=
    Table.get_put_same ..
  simp only [faultCart, h, hmax, State.cartFaulted]
  by_cases hf : r.faults < 2
  · rw [if_neg (by omega), if_pos hf, toUnwiped_eq hput]
    simp only [State.putCart, Table.put_put]
  · rw [if_pos (by omega), if_neg hf]
    rfl

theorem criticalHolds_same {s t : State} (hb : t.blank = s.blank) (hr : t.reserved = s.reserved)
    (hs : t.settings = s.settings) (c : Cls) : criticalHolds t c = criticalHolds s c := by
  rw [criticalHolds, criticalHolds, freeBlanks, freeBlanks, hb, hr, hs]

/-- An event that freed a job record, and left the free blanks as they were, releases the marked lists (R51). -/
theorem releaseLists_freed {s t : State} (hj : jobFreed s t = true) (hb : t.blank = s.blank) (hr : t.reserved = s.reserved)
    (hs : t.settings = s.settings) : releaseLists s t = t.jobRecordFreed := by
  have hdue : ∀ c, releaseDue s t c = t.marks.get c := fun c => by
    rw [releaseDue, criticalHolds_same hb hr hs, hj]
    cases criticalHolds s c <;> simp
  have hlists : releaseLists s t =
      { releaseIf (t.marks.get .c3) .c3 (releaseIf (t.marks.get .c2) .c2 (releaseIf (t.marks.get .c1) .c1 t)) with
        marks := ⟨false, false, false⟩ } := by
    simp only [releaseLists, hdue, hj, if_true]
  rw [hlists, State.jobRecordFreed]
  dsimp only
  cases t.marks.get .c1 <;> cases t.marks.get .c2 <;> cases t.marks.get .c3 <;>
    simp [releaseIf, releaseList, PerClass.get, PerClass.set]

theorem jobFreed_del {s t : State} {n : Nat} {j : Job} (h : s.jobs.get n = some j) (ht : t.jobs.get n = none) :
    jobFreed s t = true :=
  List.any_eq_true.2 ⟨(n, j), Table.mem_of_get h, by simp [ht]⟩

/-! ### The end of a write -/

theorem badAt_ports_kept (s : State) (n : Nat) (b : Bay) (last : Option LastActivity) :
    (s.badAt n b last).1.ports = s.ports := by
  unfold State.badAt
  dsimp only
  split
  · rfl
  · split
    · rfl
    · split <;> rfl

theorem cartFaulted_with (s : State) (serial : Nat) (r : Cart) (P : PerLink Port) (B : List Bay) :
    ({ s with ports := P, bays := B } : State).cartFaulted serial r =
      { s.cartFaulted serial r with ports := P, bays := B } := by
  unfold State.cartFaulted
  split <;> rfl

theorem cartFaulted_frame (s : State) (serial : Nat) (r : Cart) :
    s.cartFaulted serial r =
      { s with carts := (s.cartFaulted serial r).carts, unwiped := (s.cartFaulted serial r).unwiped } := by
  unfold State.cartFaulted
  split <;> rfl

theorem reads_writeDone {n serial code : Nat} (h : Fits [1, 4, 1] [n, serial, code]) :
    Reads .duplication .writeDone (writeFields [1, 4, 1] [n, serial, code]) (takeWriteDone n serial code) :=
  ⟨writeFields_short rfl (by decide), rfl, threeFields_writeFields _ h, rfl⟩

theorem reads_bayFault {n : Nat} (h : n < 256) : Reads .duplication .bayFault (writeFields [1] [n]) (takeBayFault n) :=
  ⟨writeFields_short rfl (by decide), rfl, oneField_writeFields (w := 1) _ h, rfl⟩

/-- The last activity of a bay whose write ended. -/
def writeEnded (job serial : Nat) (e : Ending) : Option LastActivity :=
  some ⟨.write job, serial, e⟩

/-- The end of a write at bay `n` leaves `v` of the cartridge and the job, and raises some kinds, before the outcome counts;
whatever the ports. -/
def WriteEnds (s : State) (n job serial : Nat) (b : Bay) (e : Ending) (raised : List (Link × Notice)) (v : State) : Prop :=
  ∀ P : PerLink Port,
    writeEffects { s with ports := P } false job serial
        { s with ports := P, bays := s.bays.set n (b.ended (writeEnded job serial e)) } =
      raiseAll raised { v with ports := P, bays := s.bays.set n (b.ended (writeEnded job serial e)) }

section
variable {s v : State} {n job serial m : Nat} {b : Bay} {st : Standing} {streak strikes : Nat} {e : Ending}
  {raised : List (Link × Notice)} (hn : n < 32) (hb : s.bays[n]? = some b)
  (hc : b.condition = .service st streak strikes (.writing job serial m)) (hbays : v.bays = s.bays)
  (hw : WriteEnds s n job serial b e raised v)
include hn hb hc hbays hw

/-- A write that ends with a bad outcome (R90, R92, R95, R97). -/
theorem finishWrite_bad (P : PerLink Port) :
    finishWrite n job serial false e { s with ports := P } =
      raiseAll (raised ++ (v.badAt n b (writeEnded job serial e)).2)
        { (v.badAt n b (writeEnded job serial e)).1 with ports := P } := by
  have hb' : v.bays[n]? = some b := hbays ▸ hb
  have hidle : idleBay n (.write job) serial e { s with ports := P } =
      { s with ports := P, bays := s.bays.set n (b.ended (writeEnded job serial e)) } :=
    idleBay_eq (s := { s with ports := P }) _ _ _ hn hb hc
  have hcount : ∀ Q, countBadOutcome n { v with ports := Q, bays := s.bays.set n (b.ended (writeEnded job serial e)) } =
      raiseAll (v.badAt n b (writeEnded job serial e)).2 { (v.badAt n b (writeEnded job serial e)).1 with ports := Q } :=
    fun Q => by
      have h := countBadOutcome_eq (s := { v with ports := Q }) (writeEnded job serial e) hn hb' hc
      rw [badAt_ports] at h
      rw [← hbays]
      exact h
  have hports : ∀ u : State, u.ports = P → (raiseAll raised u).ports =
      (raiseAll raised { (v.badAt n b (writeEnded job serial e)).1 with ports := P }).ports :=
    fun u hu => raiseAll_ports hu raised
  rw [finishWrite, hidle, hw P, raiseAll_eq, raiseAll_append]
  refine (hcount _).trans (congrArg (raiseAll _) ?_)
  rw [raiseAll_eq raised { (v.badAt n b (writeEnded job serial e)).1 with ports := P }, hports _ rfl]

theorem bayTaken_bad (P : PerLink Port) :
    bayTaken n .done (finishWrite n job serial false e { s with ports := P }) =
      ⟨raiseAll (raised ++ (v.badAt n b (writeEnded job serial e)).2)
        { (v.badAt n b (writeEnded job serial e)).1 with ports := P },
        ⟨.done, bayFields (v.badAt n b (writeEnded job serial e)).1 n⟩⟩ := by
  have hfields : ∀ (ns : List (Link × Notice)) (u : State), bayFields (raiseAll ns u) n = bayFields u n := fun ns u => by
    rw [raiseAll_eq]
    rfl
  rw [finishWrite_bad hn hb hc hbays hw, bayTaken, hfields]
  rfl

theorem writeDone_bad {tag : Half} {code : Nat} (hs : serial < 2 ^ 32)
    (hcode : code = 2 ∧ e = .verifyFail ∨ code = 3 ∧ e = .writeFail) (hr : Ready .duplication s) :
    let c := v.badAt n b (writeEnded job serial e)
    exec (.writeDone .duplication tag (writeFields [1, 4, 1] [n, serial, code])) s =
      .next (s.after .duplication tag .writeDone ⟨.done, bayFields c.1 n⟩ (raised ++ c.2) c.1) := by
  intro c
  have hfits : Fits [1, 4, 1] [n, serial, code] := by
    refine .cons (by omega) (.cons hs (.cons ?_ .nil))
    rcases hcode with ⟨rfl, _⟩ | ⟨rfl, _⟩ <;> decide
  have hout : writeOutcome code = some e := by
    rcases hcode with ⟨rfl, rfl⟩ | ⟨rfl, rfl⟩ <;> rfl
  have hbad : (e == .good) = false := by
    rcases hcode with ⟨_, rfl⟩ | ⟨_, rfl⟩ <;> rfl
  refine congrArg Host.Outcome.next ((reads_writeDone hfits).after hr _ ?_)
  have hbay : (admitted .duplication tag Kind.writeDone.code s).bay n = some b := bay_some hn hb
  have htake : takeWriteDone n serial code (admitted .duplication tag Kind.writeDone.code s) =
      bayTaken n .done (finishWrite n job serial false e (admitted .duplication tag Kind.writeDone.code s)) := by
    have hon : b.condition ≠ .offline := by simp [hc]
    have hact : b.activity = .writing job serial m := by simp [Bay.activity, hc]
    simp only [takeWriteDone, bayCheck, hbay, if_neg hon, hout, hact, hbad, if_true]
  rw [htake]
  exact bayTaken_bad hn hb hc hbays hw _

theorem bayFault_bad {tag : Half} (he : e = .fault) (hr : Ready .duplication s) :
    let c := v.badAt n b (writeEnded job serial e)
    exec (.bayFault .duplication tag (writeFields [1] [n])) s =
      .next (s.after .duplication tag .bayFault ⟨.done, bayFields c.1 n⟩ (raised ++ c.2) c.1) := by
  intro c
  subst he
  refine congrArg Host.Outcome.next ((reads_bayFault (by omega)).after hr _ ?_)
  have hbay : (admitted .duplication tag Kind.bayFault.code s).bay n = some b := bay_some hn hb
  have htake : takeBayFault n (admitted .duplication tag Kind.bayFault.code s) =
      bayTaken n .done (finishWrite n job serial false .fault (admitted .duplication tag Kind.bayFault.code s)) := by
    have hon : b.condition ≠ .offline := by simp [hc]
    have hservice : b.inService = true := by simp [Bay.inService, hc, Condition.code]
    have hact : b.activity = .writing job serial m := by simp [Bay.activity, hc]
    simp only [takeBayFault, bayCheck, hbay, if_neg hon, if_pos hservice, faultBay, hact]
  rw [htake]
  exact bayTaken_bad hn hb hc hbays hw _

theorem deadlineExpiry_bad (he : e = .expired) (hm : m = 0) (hports : v.ports = s.ports) (hr : s.restartAsserted = false) :
    let c := v.badAt n b (writeEnded job serial e)
    exec (.deadlineExpiry n) s = .next (s.ended (raised ++ c.2) c.1) := by
  intro c
  subst he hm
  have hact : b.activity = .writing job serial 0 := by simp [Bay.activity, hc]
  have hexpire : expireDeadline n s = finishWrite n job serial false .expired { s with ports := s.ports } := by
    simp only [expireDeadline, bay_some hn hb, hact]
  have hown : ownEvent (expireDeadline n) s = s.ended (raised ++ c.2) { c.1 with ports := s.ports } := by
    rw [ownEvent, hr, if_neg Bool.false_ne_true, hexpire, finishWrite_bad hn hb hc hbays hw, endEvent_eq]
  have hkept : { c.1 with ports := s.ports } = c.1 := by
    rw [← hports, ← badAt_ports_kept v n b (writeEnded job serial .expired)]
  rw [hkept] at hown
  exact congrArg Host.Outcome.next hown

end

/-! ### What the write's end leaves of the cartridge and the job -/

theorem faultCart_with {s : State} {serial : Nat} {r : Cart} (hr : s.carts.get serial = some r) (P : PerLink Port)
    (B : List Bay) :
    faultCart serial { s with ports := P, bays := B } = { s.cartFaulted serial r with ports := P, bays := B } := by
  have hget : ({ s with ports := P, bays := B } : State).carts.get serial = some r := hr
  rw [faultCart_eq hget, cartFaulted_with]

section
variable {s : State} {n job serial : Nat} {b : Bay} {e : Ending} {j : Job} {bay' serial' : Nat} {r : Cart}
  (hj : s.jobs.get job = some j) (hr : s.carts.get serial = some r)
include hj hr

/-- A job that needs a new blank, with a free one in its class (R73, R92). -/
theorem writeEnds_queued (hst : j.state = .assigned bay' serial') (hlt : j.attempts < 3)
    (hfree : s.reserved.get j.cls < (s.blank.get j.cls).length) :
    let queued : State := { s.cartFaulted serial r with
      jobs := s.jobs.put job { j with attempts := j.attempts + 1, state := .queued } }
    WriteEnds s n job serial b e [] { queued with
      jobQueue := insertBefore (jobBefore queued) job s.jobQueue
      reserved := s.reserved.set j.cls (s.reserved.get j.cls + 1) } := by
  intro queued P
  have hget : ({ s with ports := P, bays := s.bays.set n (b.ended (writeEnded job serial e)) } : State).jobs.get job = some j :=
    hj
  have hfew : ¬ Config.maxAttempts ≤ j.attempts + 1 := by
    have : Config.maxAttempts = 4 := rfl
    omega
  simp only [writeEffects, hget, hst, writeFails, if_neg hfew, faultCart_with hr, queued]
  rw [cartFaulted_frame]
  simp only [needBlank, State.putJob, Table.get_put_same, freeBlanks, if_pos (Nat.sub_pos_of_lt hfree), queueWithBlank,
    enqueueJob, reserveBlank, Table.put_put]
  rfl

/-- A job that needs a new blank, with no free one in its class (R73, R92). -/
theorem writeEnds_starved (hst : j.state = .assigned bay' serial') (hlt : j.attempts < 3)
    (hfree : (s.blank.get j.cls).length ≤ s.reserved.get j.cls) :
    let starved : State := { s.cartFaulted serial r with
      jobs := s.jobs.put job { j with attempts := j.attempts + 1, state := .starved } }
    WriteEnds s n job serial b e [] { starved with
      starved := s.starved.set j.cls (insertBefore (stampBefore starved) job (s.starved.get j.cls)) } := by
  intro starved P
  have hget : ({ s with ports := P, bays := s.bays.set n (b.ended (writeEnded job serial e)) } : State).jobs.get job = some j :=
    hj
  have hfew : ¬ Config.maxAttempts ≤ j.attempts + 1 := by
    have : Config.maxAttempts = 4 := rfl
    omega
  have hnone : ¬ 0 < (s.blank.get j.cls).length - s.reserved.get j.cls := by omega
  simp only [writeEffects, hget, hst, writeFails, if_neg hfew, faultCart_with hr, starved]
  rw [cartFaulted_frame]
  simp only [needBlank, State.putJob, Table.get_put_same, freeBlanks, if_neg hnone, starveJob, Table.put_put]
  rfl

omit hr in
/-- A job freed in the end of a write (R51, R95). -/
theorem freeJobIn_faulted (P : PerLink Port) (B : List Bay) :
    freeJobIn { s with ports := P } job { s.cartFaulted serial r with ports := P, bays := B } =
      { ({ s.cartFaulted serial r with jobs := s.jobs.del job } : State).jobRecordFreed with ports := P, bays := B } := by
  rw [cartFaulted_frame, freeJobIn, freeJob]
  exact releaseLists_freed (jobFreed_del (n := job) (j := j) hj (Table.get_del_same ..)) rfl rfl rfl

theorem writeEnds_cancelled (hst : j.state = .cancelPending bay' serial') :
    WriteEnds s n job serial b e [] ({ s.cartFaulted serial r with jobs := s.jobs.del job } : State).jobRecordFreed := by
  intro P
  have hget : ({ s with ports := P, bays := s.bays.set n (b.ended (writeEnded job serial e)) } : State).jobs.get job = some j :=
    hj
  simp only [writeEffects, hget, hst, faultCart_with hr]
  exact freeJobIn_faulted hj P _

/-- A job abandoned at its fourth bad attempt (R92, R111). -/
theorem writeEnds_abandoned {o : Order} {i : Item} {t u : State} (hst : j.state = .assigned bay' serial') (hge : 3 ≤ j.attempts)
    (ho : s.orders.get j.order = some o) (hi : o.items.find? (fun x => x.object == .job job) = some i)
    (ht : ∀ (P : PerLink Port) (B : List Bay),
      dropItem j.order i.place { ({ s.cartFaulted serial r with jobs := s.jobs.del job } : State).jobRecordFreed with
        ports := P, bays := B } =
      raise .order .itemDropped (releaseTogether j.order { t with ports := P, bays := B }))
    (hu : GroupSettled t j.order u) :
    WriteEnds s n job serial b e [(.order, .itemDropped)] u := by
  intro P
  have hget : ({ s with ports := P, bays := s.bays.set n (b.ended (writeEnded job serial e)) } : State).jobs.get job = some j :=
    hj
  have hmany : Config.maxAttempts ≤ j.attempts + 1 := by
    have : Config.maxAttempts = 4 := rfl
    omega
  have hplace : placeOfJob { s.cartFaulted serial r with
      ports := P, bays := s.bays.set n (b.ended (writeEnded job serial e)) } j.order job = i.place := by
    rw [cartFaulted_frame]
    simp only [placeOfJob, ho, hi]
    rfl
  simp only [writeEffects, hget, hst, writeFails, if_pos hmany, faultCart_with hr, hplace, freeJobIn_faulted hj]
  rw [ht, releaseTogether_with, releaseTogether_settled hu]
  rfl

end

theorem settled_kept {s t : State} {o : Nat} (h : GroupSettled s o t) : t.bays = s.bays ∧ t.ports = s.ports := by
  rw [← releaseTogether_settled h, releaseTogether_frame]
  exact ⟨rfl, rfl⟩

/-- The drop of an abandoned job's item, for a patron not CLOSING. -/
theorem dropFaulted_open {s : State} {job serial : Nat} {r : Cart} {j : Job} {o : Order} {i : Item} {p : Patron}
    (ho : s.orders.get j.order = some o) (hi : o.items.find? (fun x => x.place == i.place) = some i)
    (hw : ∀ w ∈ i.entries, w.format = .cartridge) (hp : s.patrons.get o.patron = some p) (hst : p.state ≠ .closing)
    (P : PerLink Port) (B : List Bay) :
    let freed := ({ s.cartFaulted serial r with
      jobs := s.jobs.del job
      orders := ordersDropped j.order i.place o s.orders
      heldTotal := s.heldTotal - 1 } : State).jobRecordFreed
    dropItem j.order i.place { ({ s.cartFaulted serial r with jobs := s.jobs.del job } : State).jobRecordFreed with
        ports := P, bays := B } =
      raise .order .itemDropped (releaseTogether j.order { ({ freed with
        patrons := s.patrons.put o.patron { p with held := p.held - 1, wishes := entriesBack i.entries p.wishes }
        passQueue := appendNew freed.passQueue o.patron } : State) with ports := P, bays := B }) := by
  intro freed
  simp only [freed]
  rw [cartFaulted_frame]
  refine Eq.trans (dropItem_open (q := p) (by exact ho) hi (by exact hp) hst)
    (congrArg (fun x => raise .order .itemDropped (releaseTogether j.order x)) ?_)
  rw [titlesJoined_cartridges _ fun w hw' => hw w (List.mem_of_mem_take hw')]
  rfl

/-- The drop of an abandoned job's item, for a CLOSING patron. -/
theorem dropFaulted_closing {s : State} {job serial : Nat} {r : Cart} {j : Job} {o : Order} {i : Item} {p : Patron}
    (ho : s.orders.get j.order = some o) (hi : o.items.find? (fun x => x.place == i.place) = some i)
    (hp : s.patrons.get o.patron = some p) (hst : p.state = .closing) (P : PerLink Port) (B : List Bay) :
    let freed := ({ s.cartFaulted serial r with
      jobs := s.jobs.del job
      orders := ordersDropped j.order i.place o s.orders
      heldTotal := s.heldTotal - 1 } : State).jobRecordFreed
    dropItem j.order i.place { ({ s.cartFaulted serial r with jobs := s.jobs.del job } : State).jobRecordFreed with
        ports := P, bays := B } =
      raise .order .itemDropped (releaseTogether j.order { ({ freed with
        patrons := if p.held - 1 = 0 then s.patrons.del o.patron else s.patrons.put o.patron { p with held := p.held - 1 } } :
          State) with ports := P, bays := B }) := by
  intro freed
  simp only [freed]
  rw [cartFaulted_frame]
  exact Eq.trans (dropItem_closing (q := p) (by exact ho) hi (by exact hp) hst) rfl

/-- Settles O38, by the job: queued, starved, cancelled or abandoned; the three reports differ in the last activity alone. -/
theorem badWrite : Obligations.BadWrite := by
  intro tag s n job serial m b st streak strikes j bay' serial' r hn hs hb hc hj hr faulted gives e he
  have hgives : ∀ raised v, v.bays = s.bays ∧ v.ports = s.ports → WriteEnds s n job serial b e raised v → gives e raised v :=
    fun raised v hkept hw => ⟨fun code hcode => writeDone_bad hn hb hc hkept.1 hw hs hcode,
      fun hfault => bayFault_bad hn hb hc hkept.1 hw hfault,
      fun hexp hm => deadlineExpiry_bad hn hb hc hkept.1 hw hexp hm hkept.2⟩
  have hfaulted : faulted.bays = s.bays ∧ faulted.ports = s.ports := by
    simp only [faulted]
    rw [cartFaulted_frame]
    exact ⟨rfl, rfl⟩
  refine ⟨fun hst hlt hfree => hgives _ _ hfaulted (writeEnds_queued hj hr hst hlt hfree),
    fun hst hlt hfree => hgives _ _ hfaulted (writeEnds_starved hj hr hst hlt hfree),
    fun hst => hgives _ _ hfaulted (writeEnds_cancelled hj hr hst), ?_⟩
  intro o i p hst hge ho hi hplace hw hp rest freed
  refine ⟨fun hopen u hu => ?_, fun hclosing u hu => ?_⟩
  · have hkept := settled_kept hu
    exact hgives _ _ ⟨hkept.1.trans hfaulted.1, hkept.2.trans hfaulted.2⟩
      (writeEnds_abandoned hj hr hst hge ho hi (dropFaulted_open ho hplace hw hp hopen) hu)
  · have hkept := settled_kept hu
    exact hgives _ _ ⟨hkept.1.trans hfaulted.1, hkept.2.trans hfaulted.2⟩
      (writeEnds_abandoned hj hr hst hge ho hi (dropFaulted_closing ho hplace hp hclosing) hu)

end Sys2Proof.Machine
end

section
/-! SUPPORT. The serving of the parcel backlog (R113 to R118): what the model makes is the state that `BacklogServed`
describes. -/

namespace Sys2Proof.Machine

-- One declaration at a time: the check's memory does not hold many side by side.
set_option Elab.async false

/-! ### New parcels -/

theorem Table.mapAll_put {α : Type} (t : Table α) (f : Nat → α → α) (n : Nat) (v : α) :
    (t.put n v).mapAll f = (t.mapAll f).put n (f n v) := by
  induction t with
  | nil => rfl
  | cons e t ih =>
    obtain ⟨k, w⟩ := e
    simp only [Table.mapAll, Table.put, List.map_cons] at ih ⊢
    split
    · rfl
    · split
      · rfl
      · rw [List.map_cons, ih]

/-- Some parcels, by number and contents, written for a group of an order. -/
def parcelsAdded (o g : Nat) (st : ParcelState) (es : List (Nat × Contents)) (tb : Table Parcel) : Table Parcel :=
  es.foldl (fun tb e => tb.put e.1 { order := o, group := g, contents := e.2, state := st }) tb

theorem parcelsAdded_other {o g : Nat} {st : ParcelState} {m : Nat} {es : List (Nat × Contents)} (h : ∀ e ∈ es, e.1 ≠ m)
    (tb : Table Parcel) : (parcelsAdded o g st es tb).get m = tb.get m := by
  induction es generalizing tb with
  | nil => rfl
  | cons e es ih =>
    rw [parcelsAdded, List.foldl_cons]
    refine (ih (fun x hx => h x (List.mem_cons_of_mem e hx)) _).trans ?_
    exact Table.get_put_other _ _ (h e List.mem_cons_self).symm

/-- Parcels written FORMING and then made READY were written READY. -/
theorem parcelsAdded_ready {o g : Nat} {ps : List Nat} {es : List (Nat × Contents)} (h : ∀ e ∈ es, e.1 ∈ ps)
    (tb : Table Parcel) :
    (parcelsAdded o g .forming es tb).mapAll (fun n p => if n ∈ ps then { p with state := .ready } else p) =
      parcelsAdded o g .ready es (tb.mapAll (fun n p => if n ∈ ps then { p with state := .ready } else p)) := by
  induction es generalizing tb with
  | nil => rfl
  | cons e es ih =>
    rw [parcelsAdded, List.foldl_cons, parcelsAdded, List.foldl_cons]
    refine (ih (fun x hx => h x (List.mem_cons_of_mem e hx)) _).trans ?_
    rw [Table.mapAll_put, if_pos (h e List.mem_cons_self)]
    rfl

theorem newParcel_eq {s : State} {g : Nat} {band : Band} {old : List Nat} (o : Nat) (c : Contents)
    (hg : s.groups.get g = some ⟨band, old, false⟩) (hfree : s.parcels.get s.counters.parcel = none)
    (hmax : s.counters.parcel < 16777215) :
    newParcel o g c s = { s with
      parcels := s.parcels.put s.counters.parcel { order := o, group := g, contents := c, state := .forming }
      groups := s.groups.put g ⟨band, old ++ [s.counters.parcel], false⟩
      counters := { s.counters with parcel := s.counters.parcel + 1 } } := by
  have hmodify : s.groups.modify g (fun r => { r with parcels := r.parcels ++ [s.counters.parcel] }) =
      s.groups.put g ⟨band, old ++ [s.counters.parcel], false⟩ := Table.modify_some _ hg
  simp only [newParcel, freshNumber_free hfree, nextNumber_eq, if_pos hmax, State.putParcel, hmodify]

/-- Parcels made one after another take the next numbers and stand behind the group's old ones (R117). -/
theorem newParcels_fold (o g : Nat) (band : Band) (cs : List Contents) (hne : cs ≠ []) (s : State) (old : List Nat)
    (hg : s.groups.get g = some ⟨band, old, false⟩)
    (hfree : ∀ k, k < cs.length → s.parcels.get (s.counters.parcel + k) = none)
    (hmax : s.counters.parcel + cs.length ≤ 16777215) :
    cs.foldl (fun acc c => newParcel o g c acc) s = { s.withParcels o g old band cs .forming with
      counters := { s.counters with parcel := s.counters.parcel + cs.length } } := by
  induction cs generalizing s old with
  | nil => exact absurd rfl hne
  | cons c cs ih =>
    rw [List.length_cons] at hmax
    rw [List.foldl_cons, newParcel_eq o c hg (hfree 0 (by simp)) (by omega)]
    by_cases hcs : cs = []
    · subst hcs
      rfl
    · refine (ih hcs _ (old ++ [s.counters.parcel]) (Table.get_put_same ..) (fun k hk => ?_) ?_).trans ?_
      · have hk' := hfree (k + 1) (by simpa using hk)
        exact (Table.get_put_other _ _ (by simp only; omega)).trans (by simpa [Nat.add_assoc, Nat.add_comm 1 k] using hk')
      · simp only
        omega
      · have hsum : s.counters.parcel + 1 + cs.length = s.counters.parcel + (cs.length + 1) := by omega
        simp only [State.withParcels, Table.put_put, List.length_cons, List.range'_succ, List.append_assoc,
          List.singleton_append, List.zip_cons_cons, List.foldl_cons, hsum]

theorem range'_zip_mem {c : Nat} {cs : List Contents} {e : Nat × Contents}
    (h : e ∈ (List.range' c cs.length).zip cs) : e.1 ∈ List.range' c cs.length :=
  (List.of_mem_zip h).1

/-- A number in the range of new parcels is free. -/
theorem ParcelRoom.get_none {s : State} {count m : Nat} (h : ParcelRoom s count)
    (hm : m ∈ List.range' s.counters.parcel count) : s.parcels.get m = none := by
  obtain ⟨k, hk, rfl⟩ := List.mem_range'.1 hm
  simpa using h.parcelsFree k hk

theorem withParcels_other {s : State} {o g m : Nat} {old : List Nat} {band : Band} {cs : List Contents} {st : ParcelState}
    {p : Parcel} (h : ParcelRoom s cs.length) (hm : s.parcels.get m = some p) :
    (s.withParcels o g old band cs st).parcels.get m = some p := by
  refine (parcelsAdded_other (fun e he heq => ?_) _).trans hm
  have hnone := h.get_none (range'_zip_mem he)
  rw [heq, hm] at hnone
  cases hnone

/-- The tail of a band in the dispatch queue is where it was before new parcels of a new group. -/
theorem TailOf.withParcels {s : State} {b band : Band} {front back : List Nat} {o : Nat} {cs : List Contents} {st : ParcelState}
    (h : TailOf s b front back) (hroom : ParcelRoom s cs.length) :
    TailOf (s.withParcels o s.counters.group [] band cs st) b front back := by
  have hin : ∀ m ∈ s.dispatchQueue, inBandOf (s.withParcels o s.counters.group [] band cs st) .urgent m ↔
      inBandOf s .urgent m := by
    intro m hm
    obtain ⟨p, hp, hlive⟩ := hroom.queueLive m hm
    have hp' := withParcels_other (o := o) (g := s.counters.group) (old := []) (band := band) (st := st) hroom hp
    have hne : p.group ≠ s.counters.group := fun heq => hlive (heq ▸ hroom.groupFree)
    have hget : (s.withParcels o s.counters.group [] band cs st).groups.get p.group = s.groups.get p.group :=
      Table.get_put_other _ _ hne
    simp only [inBandOf, hp', hp, Option.some.injEq, exists_eq_left', hget, exists_and_left]
  refine ⟨h.parts, h.normal, fun hb => ?_⟩
  obtain ⟨hf, hbk⟩ := h.urgent hb
  refine ⟨fun m hm => (hin m (h.parts ▸ List.mem_append_left _ hm)).2 (hf m hm), fun m hm hu => hbk m hm ((hin m ?_).1 hu)⟩
  exact h.parts ▸ List.mem_append_right _ (List.mem_of_mem_head? hm)

/-! ### An item's parcels -/

theorem newContents_eq (s : State) (x : ItemObject) : newContents s x = s.parcelContents x := by
  cases x with
  | cart serial => rfl
  | job n => rfl
  | copySet k =>
    simp only [newContents, State.parcelContents, setWeights]
    cases hc : s.copySets.get k with
    | none => rfl
    | some c =>
      simp only [Option.bind_some]
      cases s.titles.get c.title <;> rfl

theorem newParcels_eq {s : State} {o g : Nat} {band : Band} {old : List Nat} {x : ItemObject} {cs : List Contents}
    (hcs : s.parcelContents x = cs) (hne : cs ≠ []) (hg : s.groups.get g = some ⟨band, old, false⟩)
    (hfree : ∀ k, k < cs.length → s.parcels.get (s.counters.parcel + k) = none)
    (hmax : s.counters.parcel + cs.length ≤ 16777215) :
    newParcels o g x s = { s.withParcels o g old band cs .forming with
      counters := { s.counters with parcel := s.counters.parcel + cs.length } } := by
  rw [newParcels, newContents_eq, hcs]
  exact newParcels_fold o g band cs hne s old hg hfree hmax

/-- New parcels in a group of their own (R114, R117). -/
theorem newParcels_newGroup {s : State} {x : ItemObject} {cs : List Contents} (o : Nat) (band : Band)
    (hcs : s.parcelContents x = cs) (hne : cs ≠ []) (hroom : ParcelRoom s cs.length) :
    newParcels o (newGroup band s).2 x (newGroup band s).1 =
      s.withParcels o s.counters.group [] band cs .forming := by
  have hgroup : newGroup band s = ({ s with
      groups := s.groups.put s.counters.group ⟨band, [], false⟩
      counters := { s.counters with group := s.counters.group + 1 } }, s.counters.group) := by
    simp only [newGroup, freshNumber_free hroom.groupFree, nextNumber_eq, if_pos hroom.groupNumber, State.putGroup]
  rw [hgroup]
  refine Eq.trans (newParcels_eq (x := x) (cs := cs) (old := []) (band := band) (by exact hcs) hne
    (by exact Table.get_put_same ..) hroom.parcelsFree hroom.numbers) ?_
  · simp only [State.withParcels, Table.put_put]
    rfl

/-- New parcels in a TOGETHER order's group (R115, R117). -/
theorem newParcels_together {s : State} {o g : Nat} {r : Order} {old : List Nat} {band : Band} {x : ItemObject}
    {cs : List Contents} (hcs : s.parcelContents x = cs) (hne : cs ≠ []) (hroom : ParcelRoom s cs.length)
    (hnext : NextGroup s o r g old band) :
    newParcels o (togetherGroup o r s).2 x (togetherGroup o r s).1 = s.withParcels o g old band cs .forming := by
  rcases hnext with ⟨hno, rfl, rfl, rfl⟩ | ⟨rg, hlive, rfl, rfl⟩
  · have hlive : liveGroup s o = none := by
      rw [liveGroup, List.find?_eq_none.2 fun e he => by simpa using hno e he]
      rfl
    simp only [togetherGroup, hlive]
    exact newParcels_newGroup o r.band hcs hne hroom
  · simp only [togetherGroup, liveGroup_eq hlive]
    have hrecord : s.groups.get g = some ⟨rg.band, rg.parcels, false⟩ := by
      rw [hlive.record, ← hlive.waiting]
    rw [newParcels_eq hcs hne hrecord hroom.parcelsFree hroom.numbers]
    simp only [State.withParcels, if_neg hlive.parcels]

theorem roomForCart_iff (s : State) (m : Nat) : roomForCart s m = true ↔ hasRoom s m := by
  unfold roomForCart hasRoom
  cases hp : s.parcels.get m with
  | none => simp
  | some p =>
    obtain ⟨o, g, c, st⟩ := p
    have hmax : Config.parcelPieces = 4 := rfl
    cases st <;> cases c <;> simp [hmax]

/-- An item that needs parcels of its own finds no parcel to join (R115). -/
theorem joinableParcel_none {s : State} {o g serial : Nat} {r : Order} {old : List Nat} {band : Band} {i : Item}
    (hnext : NextGroup s o r g old band) (hnew : needsNew s old i) (hi : i.object = .cart serial) :
    joinableParcel s o = none := by
  rcases hnext with ⟨hno, rfl, rfl, rfl⟩ | ⟨rg, hlive, rfl, rfl⟩
  · have hlive : liveGroup s o = none := by
      rw [liveGroup, List.find?_eq_none.2 fun e he => by simpa using hno e he]
      rfl
    simp only [joinableParcel, hlive]
  · simp only [joinableParcel, liveGroup_eq hlive, groupParcels, hlive.record, Option.map_some, Option.getD_some]
    exact List.find?_eq_none.2 fun m hm hr => hnew serial hi m hm ((roomForCart_iff s m).1 hr)

theorem insertBefore_parts {α : Type} {before : α → α → Bool} {x : α} {front back : List α}
    (hf : ∀ a ∈ front, before x a = false) (hb : ∀ a ∈ back.head?, before x a = true) :
    insertBefore before x (front ++ back) = front ++ x :: back := by
  induction front with
  | nil =>
    cases back with
    | nil => rfl
    | cons b l =>
      have hbefore := hb b (by simp)
      simp [insertBefore, hbefore]
  | cons a l ih =>
    have ha := hf a List.mem_cons_self
    rw [List.cons_append, insertBefore, ha, if_neg Bool.false_ne_true, ih fun b h => hf b (List.mem_cons_of_mem a h)]
    rfl

theorem placeOfCart_eq {s : State} {o c : Nat} {r : Order} {x : Item} (h : s.orders.get o = some r)
    (hobj : r.items.Pairwise (fun a b => a.object ≠ b.object)) (hx : x ∈ r.items) (hc : x.object = .cart c) :
    placeOfCart s o c = x.place := by
  have hfind : r.items.find? (fun i => i.object == .cart c) = some x := by
    cases hf : r.items.find? (fun i => i.object == .cart c) with
    | none => exact absurd hc (by simpa using List.find?_eq_none.1 hf x hx)
    | some y =>
      have hy : y.object = .cart c := by simpa using List.find?_some hf
      have hnodup : (r.items.map Item.object).Nodup := List.pairwise_map.2 hobj
      rw [List.inj_on_of_nodup_map hnodup (List.mem_of_find?_eq_some hf) hx (hy.trans hc.symm)]
  simp [placeOfCart, h, hfind]

/-- An item that joins no parcel needs a record for each of its parcels (R113). -/
theorem parcelsNeeded_eq {s : State} {o : Nat} {mode : Mode} {x : ItemObject}
    (h : mode = .together → ∀ serial, x = .cart serial → joinableParcel s o = none) :
    parcelsNeeded s o mode x = (s.parcelContents x).length := by
  rw [← newContents_eq]
  cases x with
  | job n => rfl
  | copySet k => simp [parcelsNeeded, newContents]
  | cart serial =>
    cases mode with
    | asReady => rfl
    | together => simp [parcelsNeeded, newContents, h rfl serial rfl]

theorem canParcel_iff {s : State} {o : Nat} {mode : Mode} {x : ItemObject}
    (h : mode = .together → ∀ serial, x = .cart serial → joinableParcel s o = none) :
    canParcel s o mode x = true ↔ s.parcels.length + (s.parcelContents x).length ≤ 16384 := by
  have hmax : Config.maxParcels = 16384 := rfl
  rw [canParcel, parcelsNeeded_eq h, decide_eq_true_iff, hmax]

theorem makeParcels_asReady {s : State} {o : Nat} {r : Order} {i : Item} {front back : List Nat} (hm : r.mode = .asReady)
    (hne : s.parcelContents i.object ≠ []) (hroom : ParcelRoom s (s.parcelContents i.object).length)
    (htail : TailOf s i.band front back) :
    makeParcels o r i s = { s.withParcels o s.counters.group [] i.band (s.parcelContents i.object) .ready with
      dispatchQueue := front ++ List.range' s.counters.parcel (s.parcelContents i.object).length ++ back } := by
  have hnew : (newGroup i.band s).2 = s.counters.group := freshNumber_free hroom.groupFree
  have hkept : s.parcels.mapAll (fun n p =>
      if n ∈ List.range' s.counters.parcel (s.parcelContents i.object).length then { p with state := .ready } else p) =
        s.parcels := by
    refine Table.mapAll_id fun e he => if_neg fun hmem => ?_
    exact (Table.get_eq_none_iff _ _).1 (hroom.get_none hmem) (List.mem_map_of_mem he)
  have hready := parcelsAdded_ready (o := o) (g := s.counters.group) (fun e he => range'_zip_mem he)
    (es := (List.range' s.counters.parcel (s.parcelContents i.object).length).zip (s.parcelContents i.object)) s.parcels
  rw [hkept] at hready
  have hmade := newParcels_newGroup o i.band rfl hne hroom
  rw [hnew] at hmade
  simp only [makeParcels, hm, hnew, hmade]
  rw [releaseGroup_eq (by exact Table.get_put_same ..) (htail.withParcels hroom)]
  have hmap : (s.withParcels o s.counters.group [] i.band (s.parcelContents i.object) .forming).parcels.map (fun e =>
      if e.1 ∈ List.range' s.counters.parcel (s.parcelContents i.object).length
        then (e.1, { e.2 with state := .ready }) else e) =
      (s.withParcels o s.counters.group [] i.band (s.parcelContents i.object) .ready).parcels := by
    refine Eq.trans (List.map_congr_left fun e _ => ?_) hready
    dsimp only
    split <;> rfl
  simp only [State.groupReleased, List.nil_append, hmap]
  rfl

theorem makeParcels_together {s : State} {o g : Nat} {r : Order} {i : Item} {old : List Nat} {band : Band}
    (hm : r.mode = .together) (hne : s.parcelContents i.object ≠ []) (hnext : NextGroup s o r g old band)
    (hnew : needsNew s old i) (hroom : ParcelRoom s (s.parcelContents i.object).length) :
    makeParcels o r i s = s.withParcels o g old band (s.parcelContents i.object) .forming := by
  have hmake := newParcels_together rfl hne hroom hnext
  cases hi : i.object with
  | cart serial =>
    rw [hi] at hmake
    simp only [makeParcels, hm, hi, joinableParcel_none hnext hnew hi, hmake]
  | copySet k =>
    rw [hi] at hmake
    simp only [makeParcels, hm, hi, hmake]
  | job n =>
    rw [hi] at hmake
    simp only [makeParcels, hm, hi, hmake]

/-- The parcel that a cartridge joins: the first of the group with room (R115). -/
theorem joinableParcel_first {s : State} {o g m : Nat} {rg : DispatchGroup} {before after : List Nat} (hlive : LiveGroup s o g rg)
    (hparts : rg.parcels = before ++ m :: after) (hno : ∀ k ∈ before, ¬ hasRoom s k) (hm : hasRoom s m) :
    joinableParcel s o = some m := by
  have hbefore : before.find? (roomForCart s) = none :=
    List.find?_eq_none.2 fun k hk hr => hno k hk ((roomForCart_iff s k).1 hr)
  simp only [joinableParcel, liveGroup_eq hlive, groupParcels, hlive.record, Option.map_some, Option.getD_some, hparts,
    List.find?_append, hbefore, List.find?_cons_of_pos ((roomForCart_iff s m).2 hm), Option.none_or]

/-- What the model makes of a waiting item's parcels is what `ItemParcelled` describes (R113 to R118). -/
theorem makeParcels_eq {s u : State} {o : Nat} {r : Order} {i : Item} (ho : s.orders.get o = some r)
    (h : ItemParcelled s o r i u) : makeParcels o r i s = u ∧ canParcel s o r.mode i.object = true := by
  cases h with
  | asReady front back hm hne hroom htail =>
    refine ⟨makeParcels_asReady hm hne hroom htail, (canParcel_iff fun h => ?_).2 hroom.records⟩
    rw [hm] at h
    cases h
  | together g old band hm hne hnext hnew hroom =>
    exact ⟨makeParcels_together hm hne hnext hnew hroom,
      (canParcel_iff fun _ serial hi => joinableParcel_none hnext hnew hi).2 hroom.records⟩
  | joins g serial m rg before after front back p hm hi hlen hlive hparts hno hp hpo hst hc hfew hobj himem hf hb =>
    have hjoin := joinableParcel_first hlive hparts hno ⟨p, _, hp, hst, hc, hfew⟩
    have hplace := placeOfCart_eq ho hobj himem hi
    have hinsert : insertBefore (fun a b => decide (placeOfCart s o a < placeOfCart s o b)) serial (front ++ back) =
        front ++ serial :: back := by
      refine insertBefore_parts (fun a ha => ?_) (fun a ha => ?_)
      · obtain ⟨x, hx, hxa, hlt⟩ := hf a ha
        rw [hplace, placeOfCart_eq ho hobj hx hxa, decide_eq_false_iff_not]
        omega
      · obtain ⟨x, hx, hxa, hlt⟩ := hb a (List.mem_of_mem_head? ha)
        rw [hplace, placeOfCart_eq ho hobj hx hxa, decide_eq_true_iff]
        exact hlt
    have hmax : Config.maxParcels = 16384 := rfl
    constructor
    · simp only [makeParcels, hm, hi, hjoin, joinParcel, Table.modify_some _ hp, hc, hinsert]
    · simp only [canParcel, parcelsNeeded, hm, hi, hjoin, Option.isSome_some, if_true, hmax]
      simpa using hlen

/-! ### The backlog -/

theorem serveList_served {l left : List (Nat × Nat)} {s t : State} (h : Served l left s t) : serveList l s = t := by
  induction h with
  | done s => rfl
  | stops s o p rest r i ho hi hne hnew hfull =>
    have hcan : ¬ canParcel s o r.mode i.object = true := by
      rw [canParcel_iff]
      · omega
      · intro hm serial hx
        obtain ⟨g, old, band, hnext, hneeds⟩ := hnew hm
        exact joinableParcel_none hnext hneeds hx
    simp only [serveList, ho, Order.item, hi, if_neg hcan]
  | makes s u t o p rest left r i ho hi hmade _ ih =>
    obtain ⟨hmake, hcan⟩ := makeParcels_eq ho hmade
    simp only [serveList, ho, Order.item, hi, if_pos hcan, hmake, ih]

theorem foldl_settled {l : List (Nat × Nat)} {s t : State} (h : GroupsSettled l s t) :
    l.foldl (fun acc e => releaseTogether e.1 acc) s = t := by
  induction h with
  | done s => rfl
  | settles s u t o p rest hsettled _ ih => rw [List.foldl_cons, releaseTogether_settled hsettled, ih]

/-- Serving the parcel backlog leaves the state that `BacklogServed` describes (R113, R118). -/
theorem serveBacklog_served {s t : State} (h : BacklogServed s t) : serveBacklog s = t := by
  obtain ⟨left, u, hserved, hsettled⟩ := h
  rw [serveBacklog, serveList_served hserved, foldl_settled hsettled]

end Sys2Proof.Machine
end

section
/-! SUPPORT. The write jobs of cancelled items (R120): the job records, the lists and counts they stand in, and the blocked
lists that their freeing releases (R50, R51, R72). -/

namespace Sys2Proof.Machine

-- One declaration at a time: the check's memory does not hold many side by side.
set_option Elab.async false

/-! ### The jobs of some items -/

theorem jobsOf_append (s : State) (is is' : List Item) (st : JobState) :
    jobsOf s (is ++ is') st = jobsOf s is st ++ jobsOf s is' st :=
  List.filterMap_append ..

theorem jobsOf_job {s : State} {i : Item} {k : Nat} {j : Job} (hi : i.object = .job k) (hj : s.jobs.get k = some j)
    (st : JobState) : jobsOf s [i] st = if j.state = st then [(k, j)] else [] := by
  simp only [jobsOf, List.filterMap_cons, hi, hj, List.filterMap_nil]
  split <;> simp_all

/-- An item without a live job has no job in any state. -/
theorem jobsOf_none {s : State} {i : Item} (h : ∀ k, i.object = .job k → s.jobs.get k = none) (st : JobState) :
    jobsOf s [i] st = [] := by
  simp only [jobsOf, List.filterMap_cons, List.filterMap_nil]
  cases hi : i.object with
  | job k => simp only [h k hi]
  | cart _ => rfl
  | copySet _ => rfl

theorem freesJob_append (s : State) (is is' : List Item) : freesJob s (is ++ is') = (freesJob s is || freesJob s is') := by
  rw [Bool.eq_iff_iff]
  simp only [freesJob, jobsOf_append, Bool.or_eq_true, Bool.not_eq_true', ← Bool.not_eq_true, List.isEmpty_iff,
    List.append_eq_nil_iff]
  tauto

theorem reservedAfter_append (s : State) (is is' : List Item) (c : Cls) :
    reservedAfter s (is ++ is') c = reservedAfter s is c - countOf (fun e => e.2.cls == c) (jobsOf s is' .queued) := by
  rw [reservedAfter, reservedAfter, jobsOf_append, countOf_append, Nat.sub_sub]

/-- Two cancellations one after the other release a list where one of them does (R50, R51). -/
theorem releasesList_append (s : State) (done is is' : List Item) (c : Cls) :
    releasesList s done (is ++ is') c = (releasesList s done is c || releasesList s (done ++ is) is' c) := by
  have h1 : reservedAfter s (done ++ is) c ≤ reservedAfter s done c := by
    rw [reservedAfter_append]
    exact Nat.sub_le ..
  have h2 : reservedAfter s (done ++ (is ++ is')) c ≤ reservedAfter s (done ++ is) c := by
    rw [← List.append_assoc, reservedAfter_append]
    exact Nat.sub_le ..
  rw [Bool.eq_iff_iff]
  simp only [releasesList, freesJob_append, Bool.or_eq_true, Bool.and_eq_true, decide_eq_true_iff, Bool.not_eq_true',
    Bool.or_eq_false_iff, List.append_assoc]
  constructor
  · rintro (⟨ha, hb⟩ | ⟨⟨hf, hd⟩, hm⟩)
    · by_cases hlt : s.settings.critical.get c < (s.blank.get c).length - reservedAfter s (done ++ is) c
      · exact .inl (.inl ⟨ha, hlt⟩)
      · exact .inr (.inl ⟨Nat.not_lt.1 hlt, hb⟩)
    · cases hi : freesJob s is with
      | true => exact .inl (.inr ⟨⟨rfl, hd⟩, hm⟩)
      | false => exact .inr (.inr ⟨⟨by simpa [hi] using hf, hd, rfl⟩, hm⟩)
  · rintro ((⟨ha, hb⟩ | ⟨⟨hf, hd⟩, hm⟩) | (⟨ha, hb⟩ | ⟨⟨hf, hd, hi⟩, hm⟩))
    · exact .inl ⟨ha, by omega⟩
    · exact .inr ⟨⟨.inl hf, hd⟩, hm⟩
    · exact .inl ⟨by omega, hb⟩
    · exact .inr ⟨⟨.inr hf, hd⟩, hm⟩

theorem releasesList_nil (s : State) (done : List Item) (c : Cls) : releasesList s done [] c = false := by
  have hnone : freesJob s [] = false := rfl
  simp only [releasesList, List.append_nil, hnone, Bool.false_and, Bool.or_false, Bool.and_eq_false_iff, decide_eq_false_iff_not]
  omega

/-- The patrons of the lists that one item's cancellation releases. -/
def releasedOne (s : State) (done : List Item) (i : Item) : List Nat :=
  [Cls.c1, .c2, .c3].flatMap (fun c => if releasesList s done [i] c then s.blocked.get c else [])

theorem releasedBy_append (s : State) (done is is' : List Item) :
    releasedBy s done (is ++ is') = releasedBy s done is ++ releasedBy s (done ++ is) is' := by
  induction is generalizing done with
  | nil => simp [releasedBy]
  | cons i is ih =>
    simp only [List.cons_append, releasedBy, ih, List.append_assoc, List.nil_append]

theorem releasedBy_single (s : State) (done : List Item) (i : Item) : releasedBy s done [i] = releasedOne s done i := by
  simp [releasedBy, releasedOne]

/-- An item whose job is not freed releases nothing. -/
theorem releasesList_quiet {s : State} {i : Item} (hq : jobsOf s [i] .queued = []) (hs : jobsOf s [i] .starved = [])
    (done : List Item) (c : Cls) : releasesList s done [i] c = false := by
  have hfree : freesJob s [i] = false := by simp [freesJob, hq, hs]
  have hres : reservedAfter s (done ++ [i]) c = reservedAfter s done c := by
    rw [reservedAfter_append, hq]
    rfl
  simp only [releasesList, hres, hfree, Bool.false_and, Bool.or_false, Bool.and_eq_false_iff, decide_eq_false_iff_not]
  omega

/-! ### Releases on the pass queue -/

theorem appendNew_mem {l : List Nat} {m : Nat} (h : m ∈ l) : appendNew l m = l := if_pos h

/-- Patrons who stand on the pass queue already are not appended. -/
theorem foldl_appendNew_subset {ms l : List Nat} (h : ∀ m ∈ ms, m ∈ l) : ms.foldl appendNew l = l := by
  induction ms with
  | nil => rfl
  | cons a ms ih =>
    rw [List.foldl_cons, appendNew_mem (h a List.mem_cons_self), ih fun m hm => h m (List.mem_cons_of_mem a hm)]

/-- What releasing some lists in class order leaves, where a job record was freed (R50, R51). -/
theorem releaseLists_jobFreed {s0 s : State} (hj : jobFreed s0 s = true) (d : Cls → Bool)
    (hd : ∀ c, releaseDue s0 s c = d c) :
    releaseLists s0 s = { s with
      passQueue := ([Cls.c1, .c2, .c3].flatMap (fun c => if d c then s.blocked.get c else [])).foldl appendNew s.passQueue
      blocked := ⟨if d .c1 then [] else s.blocked.c1, if d .c2 then [] else s.blocked.c2, if d .c3 then [] else s.blocked.c3⟩
      stays := ⟨if d .c1 then [] else s.stays.c1, if d .c2 then [] else s.stays.c2, if d .c3 then [] else s.stays.c3⟩
      marks := ⟨false, false, false⟩ } := by
  simp only [releaseLists, hd, hj, if_true]
  cases h1 : d .c1 <;> cases h2 : d .c2 <;> cases h3 : d .c3 <;>
    simp [releaseIf, releaseList, PerClass.get, PerClass.set, h1, h2, h3]

/-! ### The jobs after some items -/

/-- A job's record once the items given were cancelled (R120). -/
def jobLeft (done : List Item) (k : Nat) (j : Job) : Option Job :=
  if .job k ∈ done.map Item.object then
    match j.state with
    | .queued => none
    | .starved => none
    | .assigned bay serial => some { j with state := .cancelPending bay serial }
    | .cancelPending _ _ => some j
  else some j

/-- The jobs, their lists and counts, the blocked lists and the pass queue once the items `done` of a state were cancelled and the
patrons `joined` joined the pass queue (R50, R51, R72, R120). -/
structure JobsAfter (s t : State) (done : List Item) (joined : List Nat) : Prop where
  jobs : ∀ k, t.jobs.get k = (s.jobs.get k).bind (jobLeft done k)
  jobQueue : t.jobQueue = s.jobQueue.diff ((jobsOf s done .queued).map Prod.fst)
  starved : ∀ c, t.starved.get c =
    (s.starved.get c).diff (((jobsOf s done .starved).filter (fun e => e.2.cls == c)).map Prod.fst)
  reserved : ∀ c, t.reserved.get c = reservedAfter s done c
  marks : t.marks = if freesJob s done then ⟨false, false, false⟩ else s.marks
  blocked : ∀ c, t.blocked.get c = if releasesList s [] done c then [] else s.blocked.get c
  stays : ∀ c, t.stays.get c = if releasesList s [] done c then [] else s.stays.get c
  passQueue : t.passQueue = joined.foldl appendNew s.passQueue
  listed : ∀ c, releasesList s [] done c = true → ∀ m ∈ s.blocked.get c, m ∈ joined
  blank : t.blank = s.blank
  settings : t.settings = s.settings

/-- Before any item. -/
theorem JobsAfter.start (s : State) : JobsAfter s s [] [] := by
  have hnone : ∀ c, releasesList s [] [] c = false := releasesList_nil s []
  refine ⟨fun k => ?_, rfl, fun c => rfl, fun c => rfl, rfl, fun c => ?_, fun c => ?_, rfl, fun c hc => ?_, rfl, rfl⟩
  · cases s.jobs.get k <;> rfl
  · rw [hnone, if_neg Bool.false_ne_true]
  · rw [hnone, if_neg Bool.false_ne_true]
  · rw [hnone] at hc
    cases hc

/-- The jobs stand as they did where nothing about them was written, and some patrons joined the pass queue. -/
theorem JobsAfter.join {s t u : State} {done : List Item} {joined : List Nat} (h : JobsAfter s t done joined) (more : List Nat)
    (hu : u = { u with
      jobs := t.jobs, jobQueue := t.jobQueue, starved := t.starved, reserved := t.reserved, marks := t.marks
      blocked := t.blocked, stays := t.stays, passQueue := more.foldl appendNew t.passQueue, blank := t.blank
      settings := t.settings }) : JobsAfter s u done (joined ++ more) := by
  rw [hu]
  refine ⟨h.jobs, h.jobQueue, h.starved, h.reserved, h.marks, h.blocked, h.stays, ?_,
    fun c hc m hm => List.mem_append_left _ (h.listed c hc m hm), h.blank, h.settings⟩
  rw [List.foldl_append, ← h.passQueue]

theorem JobsAfter.same {s t u : State} {done : List Item} {joined : List Nat} (h : JobsAfter s t done joined)
    (hu : u = { u with
      jobs := t.jobs, jobQueue := t.jobQueue, starved := t.starved, reserved := t.reserved, marks := t.marks
      blocked := t.blocked, stays := t.stays, passQueue := t.passQueue, blank := t.blank
      settings := t.settings }) : JobsAfter s u done joined := by
  have h' := h.join [] hu
  rwa [List.append_nil] at h'

/-- Lists whose release was paid already join nobody a second time. -/
theorem foldl_released {f g : Cls → List Nat} (cs : List Cls) (l : List Nat)
    (h : ∀ c, f c = g c ∨ (f c = [] ∧ ∀ m ∈ g c, m ∈ l)) :
    (cs.flatMap f).foldl appendNew l = (cs.flatMap g).foldl appendNew l := by
  induction cs generalizing l with
  | nil => rfl
  | cons c cs ih =>
    have hhead : (f c).foldl appendNew l = (g c).foldl appendNew l := by
      rcases h c with heq | ⟨hnil, hin⟩
      · rw [heq]
      · rw [hnil, foldl_appendNew_subset hin]
        rfl
    rw [List.flatMap_cons, List.flatMap_cons, List.foldl_append, List.foldl_append, hhead]
    refine ih _ fun c' => (h c').imp id fun ⟨hnil, hin⟩ => ⟨hnil, fun m hm => ?_⟩
    exact (mem_foldl_appendNew _ _ _).2 (.inl (hin m hm))

theorem jobLeft_append {done : List Item} {i : Item} {k : Nat} (h : i.object ≠ .job k) (j : Job) :
    jobLeft (done ++ [i]) k j = jobLeft done k j := by
  have hmem : ItemObject.job k ∈ (done ++ [i]).map Item.object ↔ ItemObject.job k ∈ done.map Item.object := by
    simp [Ne.symm h]
  simp only [jobLeft, hmem]

/-- An item that frees no job: one of another kind, one without a record, or one whose job stays (R120). -/
theorem JobsAfter.keeps {s t u : State} {done : List Item} {joined : List Nat} {i : Item} (h : JobsAfter s t done joined)
    (hq : jobsOf s [i] .queued = []) (hs : jobsOf s [i] .starved = [])
    (hjobs : ∀ k, u.jobs.get k = (s.jobs.get k).bind (jobLeft (done ++ [i]) k))
    (hu : u = { u with
      jobQueue := t.jobQueue, starved := t.starved, reserved := t.reserved, marks := t.marks
      blocked := t.blocked, stays := t.stays, passQueue := t.passQueue, blank := t.blank
      settings := t.settings }) : JobsAfter s u (done ++ [i]) (joined ++ releasedOne s done i) := by
  have hquiet := releasesList_quiet hq hs done
  have hnone : releasedOne s done i = [] := by simp [releasedOne, hquiet]
  have hlist : ∀ c, releasesList s [] (done ++ [i]) c = releasesList s [] done c := fun c => by
    rw [releasesList_append, List.nil_append, hquiet, Bool.or_false]
  rw [hnone, List.append_nil]
  rw [hu] at hjobs ⊢
  refine ⟨hjobs, ?_, fun c => ?_, fun c => ?_, ?_, fun c => ?_, fun c => ?_, h.passQueue, fun c hc => ?_, h.blank, h.settings⟩
  · rw [jobsOf_append, hq, List.append_nil, ← h.jobQueue]
  · rw [jobsOf_append, hs, List.append_nil, ← h.starved]
  · rw [reservedAfter_append, hq]
    exact h.reserved c
  · have hfree : freesJob s [i] = false := by simp [freesJob, hq, hs]
    rw [freesJob_append, hfree, Bool.or_false, ← h.marks]
  · rw [hlist, ← h.blocked]
  · rw [hlist, ← h.stays]
  · exact h.listed c (hlist c ▸ hc)

theorem PerClass.get_emptied (d : Cls → Bool) (l : PerClass (List Nat)) (c : Cls) :
    (⟨if d .c1 then [] else l.c1, if d .c2 then [] else l.c2, if d .c3 then [] else l.c3⟩ : PerClass (List Nat)).get c =
      if d c then [] else l.get c := by
  cases c <;> rfl

theorem emptied_twice (a b : Bool) (l : List Nat) :
    (if b then [] else if a then [] else l) = if (a || b) = true then [] else l := by
  cases a <;> cases b <;> rfl

/-- An item that frees its job's record (R50, R51, R120). -/
theorem JobsAfter.frees {s t : State} {done : List Item} {joined : List Nat} {i : Item} {k : Nat} {j : Job} {queue : List Nat}
    {starved : PerClass (List Nat)} {reserved : PerClass Nat} (h : JobsAfter s t done joined) (hi : i.object = .job k)
    (hj : s.jobs.get k = some j) (hst : j.state = .queued ∨ j.state = .starved)
    (hnew : ItemObject.job k ∉ done.map Item.object)
    (hqueue : queue = s.jobQueue.diff ((jobsOf s (done ++ [i]) .queued).map Prod.fst))
    (hstarved : ∀ c, starved.get c =
      (s.starved.get c).diff (((jobsOf s (done ++ [i]) .starved).filter (fun e => e.2.cls == c)).map Prod.fst))
    (hreserved : ∀ c, reserved.get c = reservedAfter s (done ++ [i]) c) :
    JobsAfter s (releaseLists t { t with
      jobs := t.jobs.del k, jobQueue := queue, starved := starved, reserved := reserved })
      (done ++ [i]) (joined ++ releasedOne s done i) := by
  have hget : t.jobs.get k = some j := by
    rw [h.jobs, hj]
    exact if_neg hnew
  have hfree : freesJob s [i] = true := by
    rcases hst with hst | hst <;> simp [freesJob, jobsOf_job hi hj, hst]
  have hfreed : jobFreed t { t with jobs := t.jobs.del k, jobQueue := queue, starved := starved, reserved := reserved } =
      true := jobFreed_del (n := k) (j := j) hget (Table.get_del_same ..)
  have hdue : ∀ c, releaseDue t { t with
      jobs := t.jobs.del k, jobQueue := queue, starved := starved, reserved := reserved } c = releasesList s done [i] c := by
    intro c
    have hmark : t.marks.get c = (!freesJob s done && s.marks.get c) := by
      rw [h.marks]
      cases freesJob s done <;> cases c <;> rfl
    rw [releaseDue, hfreed, releasesList, hfree]
    simp only [criticalHolds, freeBlanks, h.reserved, hreserved, h.blank, h.settings, hmark, Bool.true_and]
    refine congrArg₂ _ (congrArg₂ _ rfl ?_) rfl
    rw [Bool.eq_iff_iff]
    simp only [Bool.not_eq_true', decide_eq_false_iff_not, decide_eq_true_iff, not_le]
  have hlist : ∀ c, releasesList s [] (done ++ [i]) c = (releasesList s [] done c || releasesList s done [i] c) :=
    fun c => by rw [releasesList_append, List.nil_append]
  rw [releaseLists_jobFreed hfreed _ hdue]
  refine ⟨fun m => ?_, hqueue, hstarved, hreserved, ?_, fun c => ?_, fun c => ?_, ?_, fun c hc m hm => ?_, h.blank, h.settings⟩
  · by_cases hm : m = k
    · subst hm
      have hmem : ItemObject.job m ∈ (done ++ [i]).map Item.object := by simp [hi]
      rw [hj, Option.bind_some, jobLeft, if_pos hmem]
      refine (Table.get_del_same ..).trans ?_
      rcases hst with hst | hst <;> rw [hst]
    · refine (Table.get_del_other _ hm).trans ((h.jobs m).trans ?_)
      cases s.jobs.get m with
      | none => rfl
      | some j' => exact (jobLeft_append (by simp [hi, Ne.symm hm]) j').symm
  · rw [freesJob_append, hfree, Bool.or_true, if_pos rfl]
  · rw [hlist]
    exact (PerClass.get_emptied _ _ c).trans (by rw [h.blocked, emptied_twice])
  · rw [hlist]
    exact (PerClass.get_emptied _ _ c).trans (by rw [h.stays, emptied_twice])
  · rw [List.foldl_append, ← h.passQueue, releasedOne]
    refine foldl_released _ _ fun c => ?_
    by_cases hd' : releasesList s done [i] c = true
    · rw [if_pos hd', if_pos hd', h.blocked]
      by_cases hd : releasesList s [] done c = true
      · rw [if_pos hd]
        refine .inr ⟨rfl, fun m hm => ?_⟩
        rw [h.passQueue]
        exact (mem_foldl_appendNew _ _ _).2 (.inr (h.listed c hd m hm))
      · rw [if_neg hd]
        exact .inl rfl
    · rw [if_neg hd', if_neg hd']
      exact .inl rfl
  · rw [hlist, Bool.or_eq_true] at hc
    rcases hc with hc | hc
    · exact List.mem_append_left _ (h.listed c hc m hm)
    · refine List.mem_append_right _ (List.mem_flatMap.2 ⟨c, by cases c <;> simp, ?_⟩)
      rwa [if_pos hc]

theorem jobLeft_new {done : List Item} {i : Item} {k : Nat} (h : i.object = .job k) (j : Job) :
    jobLeft (done ++ [i]) k j =
      match j.state with
      | .queued => none
      | .starved => none
      | .assigned bay serial => some { j with state := .cancelPending bay serial }
      | .cancelPending _ _ => some j :=
  if_pos (by simp [h])

theorem diff_one (l : List Nat) (n : Nat) : l.diff [n] = l.erase n := by
  rw [List.diff_cons, List.diff_nil]

/-- An item's job cancelled (R120); no starved job claims the blank that it gives back. -/
theorem JobsAfter.job {s t : State} {done : List Item} {joined : List Nat} {i : Item} {k : Nat} (h : JobsAfter s t done joined)
    (hi : i.object = .job k) (hnew : ItemObject.job k ∉ done.map Item.object)
    (hclaim : ∀ j, s.jobs.get k = some j → j.state = .queued → s.starved.get j.cls = []) :
    JobsAfter s (cancelJob k t) (done ++ [i]) (joined ++ releasedOne s done i) := by
  have hothers : ∀ m, m ≠ k → t.jobs.get m = (s.jobs.get m).bind (jobLeft (done ++ [i]) m) := fun m hm => by
    rw [h.jobs m]
    cases s.jobs.get m with
    | none => rfl
    | some j => exact (jobLeft_append (by simp [hi, Ne.symm hm]) j).symm
  cases hj : s.jobs.get k with
  | none =>
    have hget : t.jobs.get k = none := by rw [h.jobs, hj]; rfl
    have hnone : ∀ st, jobsOf s [i] st = [] := jobsOf_none fun m hm => by
      rw [hi] at hm
      cases hm
      exact hj
    have hsame : cancelJob k t = t := by simp only [cancelJob, hget]
    rw [hsame]
    refine h.keeps (hnone _) (hnone _) (fun m => ?_) rfl
    by_cases hm : m = k
    · rw [hm, hget, hj]
      rfl
    · exact hothers m hm
  | some j =>
    have hget : t.jobs.get k = some j := by
      rw [h.jobs, hj]
      exact if_neg hnew
    have hone := jobsOf_job hi hj
    cases hst : j.state with
    | queued =>
      have hnone : t.starved.get j.cls = [] := by
        rw [h.starved, hclaim j hj hst, List.nil_diff]
      rw [cancelJob_queued hget hst, claimStarved]
      simp only [hnone]
      refine h.frees hi hj (.inl hst) hnew ?_ (fun c => ?_) (fun c => ?_)
      · rw [jobsOf_append, hone, if_pos hst, List.map_append, List.diff_append, ← h.jobQueue, List.map_singleton, diff_one]
      · rw [jobsOf_append, hone, hst, if_neg JobState.noConfusion, List.append_nil]
        exact h.starved c
      · rw [reservedAfter_append, hone, if_pos hst, ← h.reserved]
        by_cases hc : c = j.cls
        · subst hc
          simp [countOf]
        · simp [countOf, hc, Ne.symm hc]
    | starved =>
      rw [cancelJob_starved hget hst]
      refine h.frees (queue := t.jobQueue) (reserved := t.reserved) hi hj (.inr hst) hnew ?_ (fun c => ?_) (fun c => ?_)
      · rw [jobsOf_append, hone, hst, if_neg JobState.noConfusion, List.append_nil]
        exact h.jobQueue
      · rw [jobsOf_append, hone, if_pos hst, List.filter_append, List.map_append, List.diff_append, ← h.starved]
        by_cases hc : c = j.cls
        · subst hc
          simp
        · simp [hc, Ne.symm hc]
      · rw [reservedAfter_append, hone, hst, if_neg JobState.noConfusion]
        exact h.reserved c
    | assigned bay serial =>
      have hput : cancelJob k t = t.putJob k { j with state := .cancelPending bay serial } := by
        simp only [cancelJob, hget, hst]
      rw [hput]
      refine h.keeps (by rw [hone, hst, if_neg JobState.noConfusion]) (by rw [hone, hst, if_neg JobState.noConfusion])
        (fun m => ?_) rfl
      by_cases hm : m = k
      · subst hm
        rw [hj, Option.bind_some, jobLeft_new hi, hst]
        exact Table.get_put_same ..
      · exact (Table.get_put_other _ _ hm).trans (hothers m hm)
    | cancelPending bay serial =>
      have hsame : cancelJob k t = t := by simp only [cancelJob, hget, hst]
      rw [hsame]
      refine h.keeps (by rw [hone, hst, if_neg JobState.noConfusion]) (by rw [hone, hst, if_neg JobState.noConfusion])
        (fun m => ?_) rfl
      by_cases hm : m = k
      · subst hm
        rw [hj, Option.bind_some, jobLeft_new hi, hst]
        exact hget
      · exact hothers m hm

/-- An item of another kind leaves the jobs as they are. -/
theorem JobsAfter.other {s t : State} {done : List Item} {joined : List Nat} {i : Item} (h : JobsAfter s t done joined)
    (hi : ∀ k, i.object ≠ .job k) : JobsAfter s t (done ++ [i]) (joined ++ releasedOne s done i) := by
  have hnone : ∀ st, jobsOf s [i] st = [] := jobsOf_none fun k hk => absurd hk (hi k)
  refine h.keeps (hnone _) (hnone _) (fun k => ?_) rfl
  rw [h.jobs k]
  cases s.jobs.get k with
  | none => rfl
  | some j => exact (jobLeft_append (hi k) j).symm

end Sys2Proof.Machine
end

section
/-! SUPPORT. The cartridges, the copy sets and the pull tasks of cancelled items (R45, R67, R106, R120). -/

namespace Sys2Proof.Machine

-- One declaration at a time: the check's memory does not hold many side by side.
set_option Elab.async false

/-! ### Cartridges -/

/-- The serials of the items' cartridges that are live, which join the UNWIPED list. -/
def serialsOf (s : State) (items : List Item) : List Nat :=
  items.filterMap (fun i =>
    match i.object with
    | .cart serial => if (s.carts.get serial).isSome then some serial else none
    | _ => none)

/-- The cartridges and the UNWIPED list once the items `done` of a state were cancelled (R67, R120). -/
structure CartsAfter (s t : State) (done : List Item) : Prop where
  carts : ∀ serial, t.carts.get serial =
    if .cart serial ∈ done.map Item.object then (s.carts.get serial).map (fun r => { r with state := .unwiped })
    else s.carts.get serial
  unwiped : t.unwiped = s.unwiped ++ serialsOf s done

theorem CartsAfter.start (s : State) : CartsAfter s s [] :=
  ⟨fun _ => rfl, (List.append_nil _).symm⟩

theorem CartsAfter.same {s t u : State} {done : List Item} (h : CartsAfter s t done)
    (hu : u = { u with carts := t.carts, unwiped := t.unwiped }) : CartsAfter s u done := by
  rw [hu]
  exact ⟨h.carts, h.unwiped⟩

theorem mem_objects_append {done : List Item} {i : Item} {x : ItemObject} :
    x ∈ (done ++ [i]).map Item.object ↔ x ∈ done.map Item.object ∨ x = i.object := by
  simp

theorem CartsAfter.cart {s t : State} {done : List Item} {i : Item} {serial : Nat} (h : CartsAfter s t done)
    (hi : i.object = .cart serial) : CartsAfter s (toUnwiped serial t) (done ++ [i]) := by
  have hone : serialsOf s [i] = if (s.carts.get serial).isSome then [serial] else [] := by
    simp only [serialsOf, List.filterMap_cons, hi, List.filterMap_nil]
    cases (s.carts.get serial).isSome <;> rfl
  have hall : serialsOf s (done ++ [i]) = serialsOf s done ++ serialsOf s [i] := List.filterMap_append ..
  have hothers : ∀ m, m ≠ serial → t.carts.get m =
      if .cart m ∈ (done ++ [i]).map Item.object then (s.carts.get m).map (fun r => { r with state := .unwiped })
      else s.carts.get m := fun m hm => by
    rw [h.carts m]
    simp only [mem_objects_append, hi, ItemObject.cart.injEq, hm, or_false]
  cases hs : s.carts.get serial with
  | none =>
    have hget : t.carts.get serial = none := by
      rw [h.carts, hs]
      exact ite_self _
    have hsame : toUnwiped serial t = t := by simp only [toUnwiped, hget]
    rw [hsame]
    refine ⟨fun m => ?_, ?_⟩
    · by_cases hm : m = serial
      · rw [hm, hget, hs]
        exact (ite_self _).symm
      · exact hothers m hm
    · rw [hall, hone, hs]
      exact h.unwiped.trans (by simp)
  | some c =>
    obtain ⟨c', hget, hc'⟩ : ∃ c', t.carts.get serial = some c' ∧ ({ c' with state := .unwiped } : Cart) =
        { c with state := .unwiped } := by
      rw [h.carts, hs]
      split
      · exact ⟨_, rfl, rfl⟩
      · exact ⟨_, rfl, rfl⟩
    rw [toUnwiped_eq hget, hc']
    refine ⟨fun m => ?_, ?_⟩
    · by_cases hm : m = serial
      · subst hm
        rw [if_pos (mem_objects_append.2 (.inr hi.symm)), hs]
        exact Table.get_put_same ..
      · exact (Table.get_put_other _ _ hm).trans (hothers m hm)
    · rw [hall, hone, hs, ← List.append_assoc, ← h.unwiped]
      rfl

theorem CartsAfter.other {s t : State} {done : List Item} {i : Item} (h : CartsAfter s t done)
    (hi : ∀ serial, i.object ≠ .cart serial) : CartsAfter s t (done ++ [i]) := by
  refine ⟨fun serial => ?_, ?_⟩
  · rw [h.carts serial]
    simp only [mem_objects_append, Ne.symm (hi serial), or_false]
  · have hone : serialsOf s [i] = [] := by
      simp only [serialsOf, List.filterMap_cons, List.filterMap_nil]
    have hall : serialsOf s (done ++ [i]) = serialsOf s done ++ serialsOf s [i] := List.filterMap_append ..
    rw [hall, hone, List.append_nil]
    exact h.unwiped

/-! ### Copy sets -/

/-- The sets of the items whose title's waiting list is not empty, which join the pending offers (R45). -/
def offersOf (s : State) (items : List Item) : List Nat :=
  items.filterMap (fun i =>
    match i.object with
    | .copySet k => match (s.copySets.get k).bind (fun c => s.titles.get c.title) with
      | some ti => if ti.waiting = [] then none else some k
      | none => none
    | _ => none)

/-- The copy sets once the items `done` of a state were cancelled (R120). -/
structure SetsAfter (s t : State) (done : List Item) : Prop where
  copySets : ∀ k, t.copySets.get k =
    if .copySet k ∈ done.map Item.object then (s.copySets.get k).map (fun c => { c with state := .available })
    else s.copySets.get k

/-- The pending offers once the items `done` of a state were cancelled (R45). -/
def OffersAfter (s t : State) (done : List Item) : Prop :=
  t.pendingOffers = (offersOf s done).foldl appendNew s.pendingOffers

theorem SetsAfter.start (s : State) : SetsAfter s s [] := ⟨fun _ => rfl⟩

theorem SetsAfter.same {s t u : State} {done : List Item} (h : SetsAfter s t done) (hu : u.copySets = t.copySets) :
    SetsAfter s u done :=
  ⟨fun k => hu ▸ h.copySets k⟩

/-- A set's record in a later state has its first title. -/
theorem SetsAfter.get {s t : State} {done : List Item} (h : SetsAfter s t done) (k : Nat) :
    (s.copySets.get k = none ∧ t.copySets.get k = none) ∨ ∃ c c', s.copySets.get k = some c ∧ t.copySets.get k = some c'
      ∧ c'.title = c.title ∧ ({ c' with state := .available } : CopySet) = { c with state := .available } := by
  rw [h.copySets]
  cases s.copySets.get k with
  | none => exact .inl ⟨rfl, ite_self _⟩
  | some c =>
    refine .inr ?_
    split
    · exact ⟨c, _, rfl, rfl, rfl, rfl⟩
    · exact ⟨c, c, rfl, rfl, rfl, rfl⟩

theorem SetsAfter.set {s t : State} {done : List Item} {i : Item} {k : Nat} (h : SetsAfter s t done)
    (hi : i.object = .copySet k) : SetsAfter s (makeAvailable k t) (done ++ [i]) := by
  have hothers : ∀ m, m ≠ k → t.copySets.get m =
      if .copySet m ∈ (done ++ [i]).map Item.object then (s.copySets.get m).map (fun c => { c with state := .available })
      else s.copySets.get m := fun m hm => by
    rw [h.copySets m]
    simp only [mem_objects_append, hi, ItemObject.copySet.injEq, hm, or_false]
  refine ⟨fun m => ?_⟩
  rcases h.get k with ⟨hs, ht⟩ | ⟨c, c', hs, ht, htitle, hc⟩
  · have hsame : makeAvailable k t = t := by simp only [makeAvailable, ht]
    rw [hsame]
    by_cases hm : m = k
    · rw [hm, ht, hs]
      exact (ite_self _).symm
    · exact hothers m hm
  · have hsets : (makeAvailable k t).copySets = t.copySets.put k { c with state := .available } := by
      rw [← hc]
      simp only [makeAvailable, ht]
      split
      · split <;> rfl
      · rfl
    rw [hsets]
    by_cases hm : m = k
    · subst hm
      rw [if_pos (mem_objects_append.2 (.inr hi.symm)), hs]
      exact Table.get_put_same ..
    · exact (Table.get_put_other _ _ hm).trans (hothers m hm)

theorem SetsAfter.other {s t : State} {done : List Item} {i : Item} (h : SetsAfter s t done)
    (hi : ∀ k, i.object ≠ .copySet k) : SetsAfter s t (done ++ [i]) := by
  refine ⟨fun k => ?_⟩
  rw [h.copySets k]
  simp only [mem_objects_append, Ne.symm (hi k), or_false]

theorem OffersAfter.set {s t : State} {done : List Item} {i : Item} {k : Nat} (h : OffersAfter s t done)
    (hsets : SetsAfter s t done) (htitles : t.titles = s.titles) (hi : i.object = .copySet k) :
    OffersAfter s (makeAvailable k t) (done ++ [i]) := by
  have hall : offersOf s (done ++ [i]) = offersOf s done ++ offersOf s [i] := List.filterMap_append ..
  rw [OffersAfter, hall, List.foldl_append, ← h]
  simp only [offersOf, List.filterMap_cons, hi, List.filterMap_nil]
  rcases hsets.get k with ⟨hs, ht⟩ | ⟨c, c', hs, ht, htitle, hc⟩
  · simp only [makeAvailable, ht, hs, Option.bind_none]
    rfl
  · simp only [makeAvailable, ht, hs, htitles, htitle, Option.bind_some]
    cases s.titles.get c.title with
    | none => rfl
    | some ti =>
      cases hw : ti.waiting with
      | nil => simp [State.putSet, hw]
      | cons a l => simp [State.putSet, hw]

theorem OffersAfter.other {s t : State} {done : List Item} {i : Item} (h : OffersAfter s t done)
    (hi : ∀ k, i.object ≠ .copySet k) : OffersAfter s t (done ++ [i]) := by
  have hall : offersOf s (done ++ [i]) = offersOf s done ++ offersOf s [i] := List.filterMap_append ..
  have hone : offersOf s [i] = [] := by
    simp only [offersOf, List.filterMap_cons, List.filterMap_nil]
  rw [OffersAfter, hall, hone, List.append_nil]
  exact h

/-! ### Pull tasks -/

/-- The task of an item's set, where it has one. -/
def taskOfItem (s : State) (i : Item) : Option Nat :=
  (s.tasks.find? (fun e => i.object == .copySet e.2.copySet)).map Prod.fst

/-- The pull tasks once the items `done` of a state were cancelled (R106, R120). -/
structure TasksAfter (s t : State) (done : List Item) : Prop where
  tasks : ∀ k, t.tasks.get k = (s.tasks.get k).bind (fun x =>
    if .copySet x.copySet ∈ done.map Item.object then none else some x)
  pullQueue : t.pullQueue = s.pullQueue.diff (done.filterMap (taskOfItem s))
  canonical : t.tasks.wf = true

theorem TasksAfter.start {s : State} (h : s.tasks.wf = true) : TasksAfter s s [] :=
  ⟨fun k => by cases s.tasks.get k <;> rfl, rfl, h⟩

theorem TasksAfter.same {s t u : State} {done : List Item} (h : TasksAfter s t done)
    (hu : u = { u with tasks := t.tasks, pullQueue := t.pullQueue }) : TasksAfter s u done := by
  rw [hu]
  exact ⟨h.tasks, h.pullQueue, h.canonical⟩

/-- One task at most is a set's. -/
theorem task_unique {s : State} (h : s.tasks.Pairwise (fun a b => a.2.copySet ≠ b.2.copySet)) {m m' : Nat} {x x' : PullTask}
    (hm : s.tasks.get m = some x) (hm' : s.tasks.get m' = some x') (hk : x.copySet = x'.copySet) : m = m' := by
  have hnodup : (s.tasks.map (fun e => e.2.copySet)).Nodup := List.pairwise_map.2 h
  exact congrArg Prod.fst (List.inj_on_of_nodup_map hnodup (Table.mem_of_get hm) (Table.mem_of_get hm') hk)

theorem taskOfItem_of {s : State} (hwf : s.tasks.wf = true) (h : s.tasks.Pairwise (fun a b => a.2.copySet ≠ b.2.copySet))
    {i : Item} {k m : Nat} {x : PullTask} (hi : i.object = .copySet k) (hm : s.tasks.get m = some x) (hk : x.copySet = k) :
    taskOfItem s i = some m := by
  cases hf : s.tasks.find? (fun e => i.object == .copySet e.2.copySet) with
  | none =>
    have hno := List.find?_eq_none.1 hf (m, x) (Table.mem_of_get hm)
    simp [hi, hk] at hno
  | some e =>
    have hset : k = e.2.copySet := by simpa [hi] using List.find?_some hf
    have hget := Table.get_of_mem hwf (List.mem_of_find?_eq_some hf)
    rw [taskOfItem, hf, Option.map_some, task_unique h hget hm (hset.symm.trans hk.symm)]

theorem taskOfItem_none {s : State} {i : Item} (h : ∀ k, i.object = .copySet k → ∀ e ∈ s.tasks, e.2.copySet ≠ k) :
    taskOfItem s i = none := by
  rw [taskOfItem, List.find?_eq_none.2 fun e he => ?_, Option.map_none]
  intro heq
  exact h e.2.copySet (by simpa using heq) e he rfl

theorem TasksAfter.set {s t : State} {done : List Item} {i : Item} {k : Nat} (h : TasksAfter s t done)
    (hwf : s.tasks.wf = true) (hpair : s.tasks.Pairwise (fun a b => a.2.copySet ≠ b.2.copySet)) (hi : i.object = .copySet k)
    (hnew : ItemObject.copySet k ∉ done.map Item.object) : TasksAfter s (freeTaskOfSet k t) (done ++ [i]) := by
  have hpull : ∀ l : List Nat, l.diff ((done ++ [i]).filterMap (taskOfItem s)) =
      (l.diff (done.filterMap (taskOfItem s))).diff (taskOfItem s i).toList := fun l => by
    rw [List.filterMap_append, List.diff_append]
    cases hti : taskOfItem s i <;> simp [hti]
  have hget : ∀ m x, t.tasks.get m = some x → s.tasks.get m = some x := fun m x hm => by
    rw [h.tasks, Option.bind_eq_some_iff] at hm
    obtain ⟨y, hy, hyx⟩ := hm
    split at hyx
    · cases hyx
    · exact hy.trans hyx
  have hothers : ∀ m, (∀ x, s.tasks.get m = some x → x.copySet ≠ k) → t.tasks.get m = (s.tasks.get m).bind (fun x =>
      if .copySet x.copySet ∈ (done ++ [i]).map Item.object then none else some x) := fun m hm => by
    rw [h.tasks m]
    cases hx : s.tasks.get m with
    | none => rfl
    | some x =>
      have hne := hm x hx
      simp only [Option.bind_some, mem_objects_append, hi, ItemObject.copySet.injEq, hne, or_false]
  cases hf : taskOfSet t k with
  | none =>
    have hno : ∀ m x, s.tasks.get m = some x → x.copySet ≠ k := fun m x hm hk => by
      have htm : t.tasks.get m = some x := by
        rw [h.tasks, hm, Option.bind_some, hk, if_neg hnew]
      have hmem : m ∈ t.tasks.select (fun _ t => t.copySet == k) := (Table.mem_select h.canonical).2 ⟨x, htm, by simp [hk]⟩
      rw [taskOfSet, List.head?_eq_none_iff] at hf
      rw [hf] at hmem
      cases hmem
    have hsame : freeTaskOfSet k t = t := by simp only [freeTaskOfSet, hf]
    rw [hsame]
    refine ⟨fun m => hothers m (hno m), ?_, h.canonical⟩
    have hnone : taskOfItem s i = none := taskOfItem_none fun k' hk' e he => by
      rw [hi] at hk'
      cases hk'
      exact hno e.1 e.2 (Table.get_of_mem hwf he)
    rw [hpull, hnone]
    exact h.pullQueue
  | some m =>
    obtain ⟨x, htm, hx⟩ := (Table.mem_select h.canonical).1 (List.mem_of_head? hf)
    have hk : x.copySet = k := by simpa using hx
    have hsm := hget m x htm
    have hfree : freeTaskOfSet k t = freeTask m t := by simp only [freeTaskOfSet, hf]
    rw [hfree]
    refine ⟨fun m' => ?_, ?_, Table.wf_del h.canonical m⟩
    · by_cases hm : m' = m
      · subst hm
        rw [hsm, Option.bind_some, if_pos (mem_objects_append.2 (.inr (by rw [hi, hk])))]
        exact Table.get_del_same ..
      · refine (Table.get_del_other _ hm).trans (hothers m' fun x' hx' hk' => hm ?_)
        exact task_unique hpair hx' hsm (hk'.trans hk.symm)
    · rw [hpull, taskOfItem_of hwf hpair hi hsm hk, ← h.pullQueue]
      exact (diff_one _ _).symm

theorem TasksAfter.other {s t : State} {done : List Item} {i : Item} (h : TasksAfter s t done)
    (hi : ∀ k, i.object ≠ .copySet k) : TasksAfter s t (done ++ [i]) := by
  have hnone : taskOfItem s i = none := taskOfItem_none fun k hk => absurd hk (hi k)
  refine ⟨fun k => ?_, ?_, h.canonical⟩
  · rw [h.tasks k]
    refine congrArg _ (funext fun x => ?_)
    simp only [mem_objects_append, Ne.symm (hi x.copySet), or_false]
  · rw [List.filterMap_append, List.filterMap_cons, hnone]
    exact h.pullQueue.trans (by simp)

end Sys2Proof.Machine
end

section
/-! SUPPORT. The parcels and groups of cancelled items (R117, R120, R126). -/

namespace Sys2Proof.Machine

-- One declaration at a time: the check's memory does not hold many side by side.
set_option Elab.async false

/-! ### Contents without cancelled objects -/

theorem without_nil (c : Contents) : c.without [] = some c := by
  cases c with
  | cartridges cs => simp [Contents.without]
  | volumes k vs => simp [Contents.without]

/-- Objects taken out one after another are taken out together. -/
theorem without_append (c : Contents) (xs ys : List ItemObject) :
    (c.without xs).bind (fun d => d.without ys) = c.without (xs ++ ys) := by
  cases c with
  | volumes k vs =>
    by_cases h : ItemObject.copySet k ∈ xs
    · simp [Contents.without, h]
    · simp [Contents.without, h]
  | cartridges cs =>
    have hleft : cs.filter (fun c => ItemObject.cart c ∉ xs ++ ys) =
        (cs.filter (fun c => ItemObject.cart c ∉ xs)).filter (fun c => ItemObject.cart c ∉ ys) := by
      rw [List.filter_filter]
      refine List.filter_congr fun c _ => ?_
      rw [Bool.eq_iff_iff]
      simp [and_comm]
    simp only [Contents.without, hleft]
    by_cases h : cs.filter (fun c => ItemObject.cart c ∉ xs) = []
    · simp only [h, List.filter_nil]
      by_cases hcs : cs = []
      · simp [hcs]
      · simp [hcs]
    · have hcs : cs ≠ [] := fun hcs => h (by rw [hcs]; rfl)
      simp only [h, if_false, Option.bind_some, ne_eq, not_false_eq_true, hcs, and_true]

/-- Serials that stand once stand once without some objects. -/
theorem without_nodup {c d : Contents} {xs : List ItemObject} (h : c.without xs = some d)
    (hc : ∀ cs, c = .cartridges cs → cs.Nodup) : ∀ cs, d = .cartridges cs → cs.Nodup := by
  rintro cs rfl
  cases c with
  | volumes k vs =>
    simp only [Contents.without] at h
    split at h <;> cases h
  | cartridges cs' =>
    simp only [Contents.without] at h
    split at h
    · cases h
    · cases h
      exact (hc cs' rfl).filter _

theorem without_single_not_holds {c : Contents} {x : ItemObject} (h : c.holds x = false) : c.without [x] = some c := by
  cases c with
  | volumes k vs =>
    have hne : ItemObject.copySet k ≠ x := by
      rintro rfl
      simp [Contents.holds] at h
    simp [Contents.without, hne]
  | cartridges cs =>
    have hall : cs.filter (fun c => ItemObject.cart c ∉ [x]) = cs := by
      refine List.filter_eq_self.2 fun c hc => ?_
      have hne : ItemObject.cart c ≠ x := by
        rintro rfl
        simp [Contents.holds, hc] at h
      simpa using hne
    simp only [Contents.without, hall]
    rw [if_neg fun hn => hn.2 hn.1]

/-! ### Parcels removed -/

/-- Whether parcel `m` of a state is lost where `L` gives what is left of each parcel's contents. -/
def lost (s : State) (L : Nat → Parcel → Option Contents) (m : Nat) : Bool :=
  match s.parcels.get m with
  | some p => (L m p).isNone
  | none => false

/-- A group's record without its lost parcels; none where it had parcels and has lost them all (R117). -/
def groupLeft (s : State) (L : Nat → Parcel → Option Contents) (r : DispatchGroup) : Option DispatchGroup :=
  let left := r.parcels.filter (fun m => !lost s L m)
  if left = [] ∧ r.parcels ≠ [] then none else some { r with parcels := left }

/-- The lost parcels that were READY in a begun group, whose reserved places are given back (R126). -/
def placesBack (s : State) (L : Nat → Parcel → Option Contents) : Nat :=
  countOf (fun e => e.2.state == .ready && lost s L e.1
    && ((s.groups.get e.2.group).map DispatchGroup.begun == some true)) s.parcels

/-- The parcels, groups, dispatch queue and reserved capacity where `L` gives what is left of each parcel's contents, and `R` the
orders whose parcels were released (R117, R118, R120, R126). -/
structure ParcelsAfter (s t : State) (L : Nat → Parcel → Option Contents) (R : Nat → Bool) : Prop where
  parcels : ∀ m, t.parcels.get m = (s.parcels.get m).bind (fun p => (L m p).map (fun c =>
    { p with contents := c, state := if R p.order then .ready else p.state }))
  groups : ∀ g, t.groups.get g = (s.groups.get g).bind (groupLeft s L)
  queue : (∀ o, R o = false) → t.dispatchQueue = s.dispatchQueue.filter (fun m => !lost s L m)
  reservedCap : t.reservedCap = s.reservedCap - placesBack s L
  parcelsWf : t.parcels.wf = true
  groupsWf : t.groups.wf = true

theorem ParcelsAfter.congr {s t : State} {L L' : Nat → Parcel → Option Contents} {R : Nat → Bool} (h : ParcelsAfter s t L R)
    (heq : ∀ m p, s.parcels.get m = some p → L m p = L' m p) : ParcelsAfter s t L' R := by
  have hlost : lost s L = lost s L' := by
    funext m
    unfold lost
    cases hp : s.parcels.get m with
    | none => rfl
    | some p => simp only [heq m p hp]
  have hleft : groupLeft s L = groupLeft s L' := by
    funext r
    rw [groupLeft, groupLeft, hlost]
  have hplaces : placesBack s L = placesBack s L' := by rw [placesBack, placesBack, hlost]
  refine ⟨fun m => ?_, fun g => hleft ▸ h.groups g, fun hR => hlost ▸ h.queue hR, hplaces ▸ h.reservedCap, h.parcelsWf,
    h.groupsWf⟩
  rw [h.parcels m]
  cases hp : s.parcels.get m with
  | none => rfl
  | some p => simp only [Option.bind_some, heq m p hp]

theorem ParcelsAfter.same {s t u : State} {L : Nat → Parcel → Option Contents} {R : Nat → Bool} (h : ParcelsAfter s t L R)
    (hu : u = { u with
      parcels := t.parcels, groups := t.groups, dispatchQueue := t.dispatchQueue, reservedCap := t.reservedCap }) :
    ParcelsAfter s u L R := by
  rw [hu]
  exact ⟨h.parcels, h.groups, h.queue, h.reservedCap, h.parcelsWf, h.groupsWf⟩

/-- What is left of the parcels once parcel `m` was given other contents, or none. -/
def cutAt (m : Nat) (c : Option Contents) (L : Nat → Parcel → Option Contents) : Nat → Parcel → Option Contents :=
  fun m' p => if m' = m then c else L m' p

/-- A state's groups and parcels as the part keeps them: each once, a group's parcels its own (R117). -/
structure Grouped (s : State) : Prop where
  parcels : s.parcels.wf = true
  groups : s.groups.wf = true
  queue : s.dispatchQueue.Nodup
  members : ∀ g r, s.groups.get g = some r → r.parcels.Nodup ∧ ∀ m ∈ r.parcels, ∃ p, s.parcels.get m = some p ∧ p.group = g

theorem countOf_one {α : Type} {t : Table α} {m : Nat} {v : α} (h : t.wf = true) (hv : t.get m = some v)
    (q : Nat × α → Bool) : countOf (fun e => e.1 == m && q e) t = (q (m, v)).toNat := by
  have hone : t.filter (fun e => e.1 == m) = [(m, v)] := by
    refine Table.ext_get (Table.wf_filter h _) (by simp [Table.wf]) fun n => ?_
    rw [Table.get_filter h, Table.get_cons]
    by_cases hn : n = m
    · subst hn
      simp [hv]
    · cases hg : t.get n with
      | none => simp [hn]
      | some w => simp [hn, Option.filter]
  have hcount : countOf (fun e => e.1 == m && q e) t = countOf q (t.filter (fun e => e.1 == m)) := by
    rw [countOf_filter]
    exact countOf_congr fun e _ => Bool.and_comm ..
  rw [hcount, hone, countOf, List.filter_cons]
  cases q (m, v) <;> rfl

theorem lost_cutAt_none {s : State} {L : Nat → Parcel → Option Contents} {m : Nat} {p : Parcel}
    (hm : s.parcels.get m = some p) (n : Nat) : lost s (cutAt m none L) n = (n == m || lost s L n) := by
  unfold lost cutAt
  by_cases h : n = m
  · subst h
    simp [hm]
  · cases s.parcels.get n <;> simp [h]

theorem lost_cutAt_some {s : State} {L : Nat → Parcel → Option Contents} {m : Nat} {p : Parcel} {c d : Contents}
    (hm : s.parcels.get m = some p) (hL : L m p = some c) : lost s (cutAt m (some d) L) = lost s L := by
  funext n
  unfold lost cutAt
  by_cases h : n = m
  · subst h
    simp [hm, hL]
  · cases s.parcels.get n <;> simp [h]

theorem filter_lost_cutAt {s : State} {L : Nat → Parcel → Option Contents} {m : Nat} {p : Parcel} {l : List Nat}
    (hm : s.parcels.get m = some p) (hl : l.Nodup) :
    l.filter (fun n => !lost s (cutAt m none L) n) = (l.filter (fun n => !lost s L n)).erase m := by
  rw [(hl.filter _).erase_eq_filter, List.filter_filter]
  refine List.filter_congr fun n _ => ?_
  rw [lost_cutAt_none hm, Bool.not_or]
  rfl

theorem placesBack_cutAt {s : State} {L : Nat → Parcel → Option Contents} {m : Nat} {p : Parcel} {c : Contents}
    (hwf : s.parcels.wf = true) (hm : s.parcels.get m = some p) (hL : L m p = some c) :
    placesBack s (cutAt m none L) = placesBack s L + (p.state == .ready
      && ((s.groups.get p.group).map DispatchGroup.begun == some true)).toNat := by
  have hkept : lost s L m = false := by simp [lost, hm, hL]
  rw [← countOf_one hwf hm (fun e => e.2.state == .ready && ((s.groups.get e.2.group).map DispatchGroup.begun == some true)),
    placesBack, placesBack, countOf_or]
  · refine countOf_congr fun e _ => ?_
    rw [lost_cutAt_none hm]
    cases e.1 == m <;> cases e.2.state == .ready <;> cases lost s L e.1 <;> simp
  · intro e he
    simp only [Bool.and_eq_true] at he
    have hne : e.1 ≠ m := fun h => by
      rw [h, hkept] at he
      exact absurd he.1.2 Bool.false_ne_true
    simp [hne]

/-- A parcel of a group, removed (R117, R120, R126). -/
theorem ParcelsAfter.remove {s t : State} {L : Nat → Parcel → Option Contents} {R : Nat → Bool} {m : Nat} {p : Parcel}
    {c : Contents} (h : ParcelsAfter s t L R) (hs : Grouped s) (hm : s.parcels.get m = some p) (hL : L m p = some c)
    (hR : R p.order = false) (hin : ∃ g, s.groups.get p.group = some g ∧ m ∈ g.parcels) :
    ParcelsAfter s (removeParcel m t) (cutAt m none L) R := by
  obtain ⟨rg, hg, hmem⟩ := hin
  have hget : t.parcels.get m = some { p with contents := c } := by
    rw [h.parcels, hm, Option.bind_some, hL, Option.map_some, hR]
    rfl
  have hkept : lost s L m = false := by simp [lost, hm, hL]
  have hleft : t.groups.get p.group = some { rg with parcels := rg.parcels.filter (fun n => !lost s L n) } := by
    have hne : rg.parcels.filter (fun n => !lost s L n) ≠ [] :=
      List.ne_nil_of_mem (List.mem_filter.2 ⟨hmem, by rw [hkept]; rfl⟩)
    rw [h.groups, hg, Option.bind_some, groupLeft]
    exact if_neg fun hn => hne hn.1
  have hbegun : groupBegun t p.group = rg.begun := by
    rw [groupBegun, hleft]
    rfl
  have hfilter := filter_lost_cutAt (L := L) hm (hs.members _ _ hg).1
  have hremove : removeParcel m t = { t with
      parcels := t.parcels.del m
      dispatchQueue := t.dispatchQueue.erase m
      reservedCap := if p.state = .ready ∧ rg.begun = true then t.reservedCap - 1 else t.reservedCap
      groups := if rg.parcels.filter (fun n => !lost s (cutAt m none L) n) = [] then t.groups.del p.group
        else t.groups.put p.group { rg with parcels := rg.parcels.filter (fun n => !lost s (cutAt m none L) n) } } := by
    simp only [removeParcel, hget, leaveGroup, hleft, hbegun, hfilter, List.isEmpty_iff]
    split <;> rfl
  rw [hremove]
  refine ⟨fun n => ?_, fun g => ?_, fun hnone => ?_, ?_, Table.wf_del h.parcelsWf m, ?_⟩
  · by_cases hn : n = m
    · subst hn
      rw [hm, Option.bind_some, cutAt, if_pos rfl]
      exact Table.get_del_same ..
    · refine (Table.get_del_other _ hn).trans ((h.parcels n).trans ?_)
      simp only [cutAt, if_neg hn]
  · by_cases hgr : g = p.group
    · subst hgr
      rw [hg, Option.bind_some, groupLeft]
      dsimp only
      split
      · rename_i hnil
        rw [if_pos ⟨hnil, List.ne_nil_of_mem hmem⟩]
        exact Table.get_del_same ..
      · rename_i hnil
        rw [if_neg fun hn => hnil hn.1]
        exact Table.get_put_same ..
    · have hother : (if rg.parcels.filter (fun n => !lost s (cutAt m none L) n) = [] then t.groups.del p.group
          else t.groups.put p.group { rg with
            parcels := rg.parcels.filter (fun n => !lost s (cutAt m none L) n) }).get g = t.groups.get g := by
        split
        · exact Table.get_del_other _ hgr
        · exact Table.get_put_other _ _ hgr
      refine hother.trans ((h.groups g).trans ?_)
      cases hr : s.groups.get g with
      | none => rfl
      | some r =>
        have hsame : r.parcels.filter (fun n => !lost s L n) = r.parcels.filter (fun n => !lost s (cutAt m none L) n) := by
          refine List.filter_congr fun n hn => ?_
          have hne : n ≠ m := by
            rintro rfl
            obtain ⟨p', hp', hgroup⟩ := (hs.members _ _ hr).2 n hn
            rw [hm] at hp'
            cases hp'
            exact hgr hgroup.symm
          rw [lost_cutAt_none hm, beq_eq_false_iff_ne.2 hne, Bool.false_or]
        simp only [Option.bind_some, groupLeft, hsame]
  · rw [filter_lost_cutAt hm hs.queue, ← h.queue hnone]
  · rw [placesBack_cutAt hs.parcels hm hL, hg, h.reservedCap]
    simp only [Option.map_some]
    by_cases hst : p.state = .ready
    · cases hb : rg.begun <;> simp [hst, Nat.sub_sub]
    · have hbeq : (p.state == .ready) = false := beq_eq_false_iff_ne.2 hst
      simp [hst, hbeq]
  · dsimp only
    split
    · exact Table.wf_del h.groupsWf _
    · exact Table.wf_put h.groupsWf _ _

/-- A parcel whose contents shrink and are not lost (R120). -/
theorem ParcelsAfter.shrink {s t : State} {L : Nat → Parcel → Option Contents} {R : Nat → Bool} {m : Nat} {p : Parcel}
    {c d : Contents} (h : ParcelsAfter s t L R) (hm : s.parcels.get m = some p) (hL : L m p = some c) (hR : R p.order = false) :
    ParcelsAfter s (t.putParcel m { p with contents := d }) (cutAt m (some d) L) R := by
  have hlost := lost_cutAt_some (d := d) hm hL
  have hleft : groupLeft s (cutAt m (some d) L) = groupLeft s L := by
    funext r
    rw [groupLeft, groupLeft, hlost]
  refine ⟨fun n => ?_, fun g => hleft ▸ h.groups g, fun hnone => hlost ▸ h.queue hnone, ?_, Table.wf_put h.parcelsWf _ _,
    h.groupsWf⟩
  · by_cases hn : n = m
    · subst hn
      rw [hm, Option.bind_some, cutAt, if_pos rfl, Option.map_some, hR]
      exact Table.get_put_same ..
    · refine (Table.get_put_other _ _ hn).trans ((h.parcels n).trans ?_)
      simp only [cutAt, if_neg hn]
  · rw [placesBack, hlost]
    exact h.reservedCap

/-! ### One object taken out of its parcels -/

/-- An object taken out of a parcel: the parcel keeps the rest, and is removed where nothing is left (R120). -/
def cutParcel (x : ItemObject) (m : Nat) (t : State) : State :=
  match t.parcels.get m with
  | some p =>
    match p.contents.without [x] with
    | some c => t.putParcel m { p with contents := c }
    | none => removeParcel m t
  | none => t

theorem ParcelsAfter.cut {s t : State} {L : Nat → Parcel → Option Contents} {R : Nat → Bool} {m : Nat} {p : Parcel}
    {c : Contents} (h : ParcelsAfter s t L R) (hs : Grouped s) (hm : s.parcels.get m = some p) (hL : L m p = some c)
    (hR : R p.order = false) (hin : ∃ g, s.groups.get p.group = some g ∧ m ∈ g.parcels) (x : ItemObject) :
    ParcelsAfter s (cutParcel x m t) (cutAt m (c.without [x]) L) R := by
  have hget : t.parcels.get m = some { p with contents := c } := by
    rw [h.parcels, hm, Option.bind_some, hL, Option.map_some, hR]
    rfl
  simp only [cutParcel, hget]
  cases c.without [x] with
  | none => exact h.remove hs hm hL hR hin
  | some d => exact h.shrink hm hL hR

/-- The parcels that an object is taken out of, as the loop over them sees each. -/
structure Cuttable (s : State) (L : Nat → Parcel → Option Contents) (R : Nat → Bool) (x : ItemObject) (m : Nat) : Prop where
  live : ∃ p c, s.parcels.get m = some p ∧ L m p = some c ∧ c.holds x = true ∧ (∀ cs, c = .cartridges cs → cs.Nodup)
    ∧ R p.order = false ∧ ∃ g, s.groups.get p.group = some g ∧ m ∈ g.parcels

/-- An object taken out of some parcels, one after another. -/
theorem ParcelsAfter.cutAll {s : State} {R : Nat → Bool} {x : ItemObject} {f : State → Nat → State} (hs : Grouped s)
    (hf : ∀ u m p, u.parcels.get m = some p → p.contents.holds x = true → (∀ cs, p.contents = .cartridges cs → cs.Nodup) →
      f u m = cutParcel x m u) (ms : List Nat) (hms : ms.Nodup) {t : State} {L : Nat → Parcel → Option Contents}
    (h : ParcelsAfter s t L R) (hcut : ∀ m ∈ ms, Cuttable s L R x m) :
    ParcelsAfter s (ms.foldl f t) (fun m p => if m ∈ ms then (L m p).bind (fun c => c.without [x]) else L m p) R := by
  induction ms generalizing t L with
  | nil => exact h.congr fun m p _ => (if_neg List.not_mem_nil).symm
  | cons m ms ih =>
    obtain ⟨p, c, hm, hL, hholds, hnodup, hR, hin⟩ := (hcut m List.mem_cons_self).live
    rw [List.nodup_cons] at hms
    have hget : t.parcels.get m = some { p with contents := c } := by
      rw [h.parcels, hm, Option.bind_some, hL, Option.map_some, hR]
      rfl
    rw [List.foldl_cons, hf t m _ hget hholds hnodup]
    refine (ih hms.2 (h.cut hs hm hL hR hin x) fun n hn => ?_).congr fun n q hq => ?_
    · have hne : n ≠ m := fun heq => hms.1 (heq ▸ hn)
      obtain ⟨q, d, hq, hLq, rest⟩ := (hcut n (List.mem_cons_of_mem m hn)).live
      exact ⟨q, d, hq, (if_neg hne).trans hLq, rest⟩
    · by_cases hne : n = m
      · subst hne
        rw [hm] at hq
        cases hq
        rw [if_neg hms.1, if_pos List.mem_cons_self, cutAt, if_pos rfl, hL, Option.bind_some]
      · simp only [cutAt, List.mem_cons, hne, false_or, if_false]

/-- The model's loop over a cancelled object's parcels (R120). -/
def cutObject (o : Nat) (x : ItemObject) (t : State) : State :=
  match x with
  | .job _ => t
  | .cart serial => (itemParcels t o x).foldl (fun acc n => takeCartFromParcel serial n acc) t
  | .copySet _ => (itemParcels t o x).foldl (fun acc m => removeParcel m acc) t

theorem takeCartFromParcel_eq {u : State} {m serial : Nat} {p : Parcel} (hm : u.parcels.get m = some p)
    (hx : p.contents.holds (.cart serial) = true) (hnodup : ∀ cs, p.contents = .cartridges cs → cs.Nodup) :
    takeCartFromParcel serial m u = cutParcel (.cart serial) m u := by
  cases hc : p.contents with
  | volumes k vs => simp [hc, Contents.holds] at hx
  | cartridges cs =>
    have hmem : serial ∈ cs := by simpa [hc, Contents.holds] using hx
    have herase : cs.filter (fun c => ItemObject.cart c ∉ [ItemObject.cart serial]) = cs.erase serial := by
      rw [(hnodup cs hc).erase_eq_filter]
      refine List.filter_congr fun c _ => ?_
      rw [Bool.eq_iff_iff]
      simp
    have hne : cs ≠ [] := List.ne_nil_of_mem hmem
    simp only [takeCartFromParcel, cutParcel, hm, hc, Contents.without, herase, List.isEmpty_iff]
    by_cases hnil : cs.erase serial = []
    · rw [if_pos hnil, if_pos ⟨hnil, hne⟩]
    · rw [if_neg hnil, if_neg fun h => hnil h.1]

theorem removeParcel_eq {u : State} {m k : Nat} {p : Parcel} (hm : u.parcels.get m = some p)
    (hx : p.contents.holds (.copySet k) = true) : removeParcel m u = cutParcel (.copySet k) m u := by
  cases hc : p.contents with
  | cartridges cs => simp [hc, Contents.holds] at hx
  | volumes k' vs =>
    have hk : k' = k := by simpa [hc, Contents.holds] using hx
    simp [cutParcel, hm, hc, Contents.without, hk]

/-- An object of an order taken out of the order's parcels (R120). -/
theorem ParcelsAfter.object {s t : State} {L : Nat → Parcel → Option Contents} {R : Nat → Bool} {o : Nat}
    (h : ParcelsAfter s t L R) (hs : Grouped s) (hR : R o = false)
    (hlive : ∀ m p, s.parcels.get m = some p → p.order = o →
      (∀ c cs, L m p = some c → c = .cartridges cs → cs.Nodup) ∧ ∃ g, s.groups.get p.group = some g ∧ m ∈ g.parcels)
    (x : ItemObject) :
    ParcelsAfter s (cutObject o x t) (fun m p => if p.order = o then (L m p).bind (fun c => c.without [x]) else L m p) R := by
  have hmem : ∀ m, m ∈ itemParcels t o x ↔ ∃ p c, s.parcels.get m = some p ∧ p.order = o ∧ L m p = some c
      ∧ c.holds x = true := by
    intro m
    rw [itemParcels, Table.mem_select h.parcelsWf]
    constructor
    · rintro ⟨q, hq, hp⟩
      rw [h.parcels, Option.bind_eq_some_iff] at hq
      obtain ⟨p, hp', hq⟩ := hq
      obtain ⟨c, hc, rfl⟩ := Option.map_eq_some_iff.1 hq
      simp only [Bool.and_eq_true, beq_iff_eq] at hp
      exact ⟨p, c, hp', hp.1, hc, hp.2⟩
    · rintro ⟨p, c, hp, ho, hL, hx⟩
      refine ⟨_, by rw [h.parcels, hp, Option.bind_some, hL, Option.map_some], ?_⟩
      simp [ho, hx]
  have hcut : ∀ m ∈ itemParcels t o x, Cuttable s L R x m := fun m hm => by
    obtain ⟨p, c, hp, ho, hL, hx⟩ := (hmem m).1 hm
    obtain ⟨hnodup, hin⟩ := hlive m p hp ho
    exact ⟨p, c, hp, hL, hx, fun cs hcs => hnodup c cs hL hcs, ho ▸ hR, hin⟩
  have hms : (itemParcels t o x).Nodup := Table.select_nodup h.parcelsWf _
  have hkept : ∀ m p, s.parcels.get m = some p →
      (if m ∈ itemParcels t o x then (L m p).bind (fun c => c.without [x]) else L m p) =
        if p.order = o then (L m p).bind (fun c => c.without [x]) else L m p := by
    intro m p hp
    by_cases hm : m ∈ itemParcels t o x
    · obtain ⟨p', _, hp', ho, _⟩ := (hmem m).1 hm
      rw [hp] at hp'
      cases hp'
      rw [if_pos hm, if_pos ho]
    · rw [if_neg hm]
      split
      · rename_i ho
        cases hL : L m p with
        | none => rfl
        | some c =>
          have hx : c.holds x = false := by
            rw [← Bool.not_eq_true]
            exact fun hx => hm ((hmem m).2 ⟨p, c, hp, ho, hL, hx⟩)
          exact (without_single_not_holds hx).symm
      · rfl
  refine ParcelsAfter.congr ?_ hkept
  cases x with
  | cart serial =>
    exact h.cutAll hs (fun u m p hm hx hnodup => takeCartFromParcel_eq hm hx hnodup) _ hms hcut
  | copySet k => exact h.cutAll hs (fun u m p hm hx _ => removeParcel_eq hm hx) _ hms hcut
  | job k =>
    refine h.congr fun m p hp => (if_neg fun hm => ?_).symm
    obtain ⟨_, c, _, _, _, hx⟩ := (hmem m).1 hm
    cases c <;> cases hx

end Sys2Proof.Machine
end

section
/-! SUPPORT. The cancellation of one order's items, one after another (R119, R120). -/

namespace Sys2Proof.Machine

-- One declaration at a time: the check's memory does not hold many side by side.
set_option Elab.async false

/-! ### One object -/

theorem removeParcel_frame (m : Nat) (t : State) :
    removeParcel m t = { t with
      parcels := (removeParcel m t).parcels, groups := (removeParcel m t).groups
      dispatchQueue := (removeParcel m t).dispatchQueue, reservedCap := (removeParcel m t).reservedCap } := by
  unfold removeParcel leaveGroup
  split
  · rfl
  · split
    · split <;> rfl
    · rfl

theorem takeCartFromParcel_frame (serial m : Nat) (t : State) :
    takeCartFromParcel serial m t = { t with
      parcels := (takeCartFromParcel serial m t).parcels, groups := (takeCartFromParcel serial m t).groups
      dispatchQueue := (takeCartFromParcel serial m t).dispatchQueue
      reservedCap := (takeCartFromParcel serial m t).reservedCap } := by
  unfold takeCartFromParcel
  split
  · split
    · split
      · exact removeParcel_frame m t
      · rfl
    · rfl
  · rfl

theorem foldl_parcels {f : State → Nat → State}
    (hf : ∀ u m, f u m = { u with
      parcels := (f u m).parcels, groups := (f u m).groups, dispatchQueue := (f u m).dispatchQueue
      reservedCap := (f u m).reservedCap }) (ms : List Nat) (t : State) :
    ms.foldl f t = { t with
      parcels := (ms.foldl f t).parcels, groups := (ms.foldl f t).groups, dispatchQueue := (ms.foldl f t).dispatchQueue
      reservedCap := (ms.foldl f t).reservedCap } := by
  induction ms generalizing t with
  | nil => rfl
  | cons m ms ih => rw [List.foldl_cons, ih, hf]

/-- Taking an object out of parcels writes parcels, groups, the dispatch queue and the reserved capacity only. -/
theorem cutObject_frame (o : Nat) (x : ItemObject) (t : State) :
    cutObject o x t = { t with
      parcels := (cutObject o x t).parcels, groups := (cutObject o x t).groups
      dispatchQueue := (cutObject o x t).dispatchQueue, reservedCap := (cutObject o x t).reservedCap } := by
  unfold cutObject
  split
  · rfl
  · exact foldl_parcels (fun u m => takeCartFromParcel_frame _ m u) _ t
  · exact foldl_parcels (fun u m => removeParcel_frame m u) _ t

theorem freeTaskOfSet_frame (k : Nat) (t : State) :
    freeTaskOfSet k t = { t with tasks := (freeTaskOfSet k t).tasks, pullQueue := (freeTaskOfSet k t).pullQueue } := by
  unfold freeTaskOfSet
  split <;> rfl

theorem cancelObject_cart (o serial : Nat) (t : State) :
    cancelObject o (.cart serial) t = toUnwiped serial (cutObject o (.cart serial) t) := rfl

theorem cancelObject_set (o k : Nat) (t : State) :
    cancelObject o (.copySet k) t = makeAvailable k (freeTaskOfSet k (cutObject o (.copySet k) t)) := rfl

/-- What cancelling an object writes (R120). -/
theorem cancelObject_frame (o : Nat) (x : ItemObject) (t : State) :
    cancelObject o x t = { t with
      jobs := (cancelObject o x t).jobs, jobQueue := (cancelObject o x t).jobQueue, starved := (cancelObject o x t).starved
      reserved := (cancelObject o x t).reserved, passQueue := (cancelObject o x t).passQueue
      blocked := (cancelObject o x t).blocked, stays := (cancelObject o x t).stays, marks := (cancelObject o x t).marks
      carts := (cancelObject o x t).carts, unwiped := (cancelObject o x t).unwiped
      copySets := (cancelObject o x t).copySets, pendingOffers := (cancelObject o x t).pendingOffers
      tasks := (cancelObject o x t).tasks, pullQueue := (cancelObject o x t).pullQueue
      parcels := (cancelObject o x t).parcels, groups := (cancelObject o x t).groups
      dispatchQueue := (cancelObject o x t).dispatchQueue, reservedCap := (cancelObject o x t).reservedCap } := by
  cases x with
  | job k =>
    have h := cancelJob_frame k t
    exact h.trans (by rw [cancelObject, h])
  | cart serial => rw [cancelObject_cart, toUnwiped_frame, cutObject_frame]
  | copySet k => rw [cancelObject_set, makeAvailable_frame, freeTaskOfSet_frame, cutObject_frame]

/-! ### The items of an order -/

/-- What cancelling the items `done` of a state does to jobs, cartridges, sets, tasks and parcels (R120). -/
structure ItemsAfter (s t : State) (done : List Item) (joined : List Nat) (L : Nat → Parcel → Option Contents)
    (R : Nat → Bool) : Prop where
  jobs : JobsAfter s t done joined
  carts : CartsAfter s t done
  sets : SetsAfter s t done
  tasks : TasksAfter s t done
  parcels : ParcelsAfter s t L R

theorem ItemsAfter.join {s t u : State} {done : List Item} {joined : List Nat} {L : Nat → Parcel → Option Contents}
    {R : Nat → Bool} (h : ItemsAfter s t done joined L R) (more : List Nat)
    (hu : u = { t with
      orders := u.orders, patrons := u.patrons, heldTotal := u.heldTotal, titles := u.titles
      passQueue := more.foldl appendNew t.passQueue }) : ItemsAfter s u done (joined ++ more) L R := by
  rw [hu]
  exact ⟨h.jobs.join more rfl, h.carts.same rfl, h.sets.same rfl, h.tasks.same rfl, h.parcels.same rfl⟩

theorem ItemsAfter.same {s t u : State} {done : List Item} {joined : List Nat} {L : Nat → Parcel → Option Contents}
    {R : Nat → Bool} (h : ItemsAfter s t done joined L R)
    (hu : u = { t with orders := u.orders, patrons := u.patrons, heldTotal := u.heldTotal, titles := u.titles }) :
    ItemsAfter s u done joined L R := by
  have h' := h.join [] hu
  rwa [List.append_nil] at h'

/-- What the cancellation of an item asks of the state at its order's turn: no job, set or parcel is shared, and no starved job
waits for a blank that it gives back. -/
structure Sound (s : State) (o : Nat) (L : Nat → Parcel → Option Contents) (R : Nat → Bool) : Prop where
  grouped : Grouped s
  tasksWf : s.tasks.wf = true
  tasks : s.tasks.Pairwise (fun a b => a.2.copySet ≠ b.2.copySet)
  unreleased : R o = false
  live : ∀ m p, s.parcels.get m = some p → p.order = o →
    (∀ c cs, L m p = some c → c = .cartridges cs → cs.Nodup) ∧ ∃ g, s.groups.get p.group = some g ∧ m ∈ g.parcels

theorem ItemsAfter.object {s t : State} {done : List Item} {joined : List Nat} {L : Nat → Parcel → Option Contents}
    {R : Nat → Bool} {o : Nat} {i : Item} (h : ItemsAfter s t done joined L R) (hs : Sound s o L R)
    (hnew : i.object ∉ done.map Item.object)
    (hclaim : ∀ k j, i.object = .job k → s.jobs.get k = some j → j.state = .queued → s.starved.get j.cls = []) :
    ItemsAfter s (cancelObject o i.object t) (done ++ [i]) (joined ++ releasedOne s done i)
      (fun m p => if p.order = o then (L m p).bind (fun c => c.without [i.object]) else L m p) R := by
  have hcut := h.parcels.object hs.grouped hs.unreleased hs.live i.object
  cases hi : i.object with
  | job k =>
    rw [hi] at hcut hnew
    have hframe := cancelJob_frame k t
    refine ⟨h.jobs.job hi hnew fun j => hclaim k j hi, (h.carts.same ?_).other (by simp [hi]),
      (h.sets.same ?_).other (by simp [hi]), (h.tasks.same ?_).other (by simp [hi]), hcut.same ?_⟩
    all_goals rw [cancelObject, hframe]
    rfl
  | cart serial =>
    rw [hi] at hcut
    rw [cancelObject_cart]
    have hframe := cutObject_frame o (.cart serial) t
    have hframe' := toUnwiped_frame serial (cutObject o (.cart serial) t)
    refine ⟨(h.jobs.same ?_).other (by simp [hi]), (h.carts.same ?_).cart hi, (h.sets.same ?_).other (by simp [hi]),
      (h.tasks.same ?_).other (by simp [hi]), hcut.same ?_⟩
    · rw [hframe', hframe]
    · rw [hframe]
    · rw [hframe', hframe]
    · rw [hframe', hframe]
    · rw [hframe']
  | copySet k =>
    rw [hi] at hcut hnew
    rw [cancelObject_set]
    have hframe := cutObject_frame o (.copySet k) t
    have hframe' := freeTaskOfSet_frame k (cutObject o (.copySet k) t)
    have hframe'' := makeAvailable_frame k (freeTaskOfSet k (cutObject o (.copySet k) t))
    have htasks := (h.tasks.same (u := cutObject o (.copySet k) t) (by rw [hframe])).set hs.tasksWf hs.tasks hi hnew
    refine ⟨(h.jobs.same ?_).other (by simp [hi]), (h.carts.same ?_).other (by simp [hi]), (h.sets.same ?_).set hi,
      htasks.same ?_, hcut.same ?_⟩
    · rw [hframe'', hframe', hframe]
    · rw [hframe'', hframe', hframe]
    · rw [hframe', hframe]
    · rw [hframe'']
    · rw [hframe'', hframe']

theorem Sound.without {s : State} {o : Nat} {L : Nat → Parcel → Option Contents} {R : Nat → Bool} (h : Sound s o L R)
    (xs : List ItemObject) :
    Sound s o (fun m p => if p.order = o then (L m p).bind (fun c => c.without xs) else L m p) R := by
  refine ⟨h.grouped, h.tasksWf, h.tasks, h.unreleased, fun m p hm ho => ⟨fun d cs hd => ?_, (h.live m p hm ho).2⟩⟩
  rw [if_pos ho, Option.bind_eq_some_iff] at hd
  obtain ⟨c, hc, hd⟩ := hd
  exact without_nodup hd (fun cs' hcs' => (h.live m p hm ho).1 c cs' hc hcs') cs

/-- The pending offers, while no title was written. -/
theorem OffersAfter.object {s t : State} {done : List Item} {joined : List Nat} {L : Nat → Parcel → Option Contents}
    {R : Nat → Bool} {o : Nat} {i : Item} (h : OffersAfter s t done) (hitems : ItemsAfter s t done joined L R)
    (htitles : t.titles = s.titles) : OffersAfter s (cancelObject o i.object t) (done ++ [i]) := by
  have hother : ∀ u : State, u.pendingOffers = t.pendingOffers → OffersAfter s u done := fun u hu => hu.trans h
  cases hi : i.object with
  | job k =>
    refine OffersAfter.other (hother _ ?_) (by simp [hi])
    rw [cancelObject, cancelJob_frame]
  | cart serial =>
    refine OffersAfter.other (hother _ ?_) (by simp [hi])
    rw [cancelObject_cart, toUnwiped_frame, cutObject_frame]
  | copySet k =>
    rw [cancelObject_set]
    refine OffersAfter.set (hother _ ?_) (hitems.sets.same ?_) ?_ hi
    · rw [freeTaskOfSet_frame, cutObject_frame]
    · rw [freeTaskOfSet_frame, cutObject_frame]
    · rw [freeTaskOfSet_frame, cutObject_frame]
      exact htitles

theorem cancelItem_frame (o n : Nat) (i : Item) (t : State) :
    cancelItem o n i t = { cancelObject o i.object t with
      orders := t.orders.modify o (fun r => r.dropItem i.place)
      patrons := (lowerHeld n 1 t).patrons
      heldTotal := (lowerHeld n 1 t).heldTotal } := by
  have hobject := cancelObject_frame o i.object t
  rw [cancelItem, lowerHeld_frame, removeItem]
  have hpatrons : ∀ u : State, u.patrons = t.patrons → u.heldTotal = t.heldTotal →
      (lowerHeld n 1 u).patrons = (lowerHeld n 1 t).patrons ∧ (lowerHeld n 1 u).heldTotal = (lowerHeld n 1 t).heldTotal := by
    intro u hp hh
    simp only [lowerHeld, hp, hh]
    split
    · exact ⟨congrArg (fun ts => Table.put ts n _) hp, rfl⟩
    · exact ⟨hp, hh⟩
  have hkept : (cancelObject o i.object t).patrons = t.patrons ∧ (cancelObject o i.object t).heldTotal = t.heldTotal
      ∧ (cancelObject o i.object t).orders = t.orders := by
    rw [hobject]
    exact ⟨rfl, rfl, rfl⟩
  obtain ⟨h1, h2⟩ := hpatrons { cancelObject o i.object t with
    orders := (cancelObject o i.object t).orders.modify o (fun r => r.dropItem i.place) } hkept.1 hkept.2.1
  rw [h1, h2, hkept.2.2]

/-- The items of an order cancelled one after another (R119, R120). -/
theorem ItemsAfter.items {s : State} {R : Nat → Bool} {o n : Nat} (gone : List Item) {t : State} {done : List Item}
    {joined : List Nat} {L : Nat → Parcel → Option Contents} (h : ItemsAfter s t done joined L R) (hs : Sound s o L R)
    (hnodup : ((done ++ gone).map Item.object).Nodup)
    (hclaim : ∀ i ∈ gone, ∀ k j, i.object = .job k → s.jobs.get k = some j → j.state = .queued → s.starved.get j.cls = []) :
    ItemsAfter s (gone.foldl (fun acc i => cancelItem o n i acc) t) (done ++ gone) (joined ++ releasedBy s done gone)
      (fun m p => if p.order = o then (L m p).bind (fun c => c.without (gone.map Item.object)) else L m p) R := by
  induction gone generalizing t done joined L with
  | nil =>
    simp only [List.append_nil, List.foldl_nil, releasedBy, List.map_nil, without_nil]
    refine ⟨h.jobs, h.carts, h.sets, h.tasks, h.parcels.congr fun m p _ => ?_⟩
    split <;> simp
  | cons i gone ih =>
    have hnew : i.object ∉ done.map Item.object := fun hmem => by
      rw [List.map_append, List.nodup_append] at hnodup
      exact hnodup.2.2 _ hmem _ (by simp) rfl
    have hone := (h.object hs hnew (hclaim i List.mem_cons_self)).same (u := cancelItem o n i t) (by
      rw [cancelItem_frame])
    have hrest := ih hone (hs.without [i.object]) (by simpa using hnodup) fun x hx => hclaim x (List.mem_cons_of_mem i hx)
    have hjoined : joined ++ releasedBy s done (i :: gone) =
        (joined ++ releasedOne s done i) ++ releasedBy s (done ++ [i]) gone := by
      rw [List.append_assoc, ← releasedBy_single, ← releasedBy_append, List.singleton_append]
    rw [List.foldl_cons, hjoined, List.append_cons]
    refine ⟨hrest.jobs, hrest.carts, hrest.sets, hrest.tasks, hrest.parcels.congr fun m p _ => ?_⟩
    by_cases ho : p.order = o
    · simp only [if_pos ho, Option.bind_assoc, without_append, List.map_cons, List.singleton_append]
    · simp only [if_neg ho]

/-- The pending offers after an order's items, while no title was written. -/
theorem OffersAfter.items {s : State} {R : Nat → Bool} {o n : Nat} (gone : List Item) {t : State} {done : List Item}
    {joined : List Nat} {L : Nat → Parcel → Option Contents} (h : OffersAfter s t done) (hi : ItemsAfter s t done joined L R)
    (hs : Sound s o L R) (hnodup : ((done ++ gone).map Item.object).Nodup)
    (hclaim : ∀ i ∈ gone, ∀ k j, i.object = .job k → s.jobs.get k = some j → j.state = .queued → s.starved.get j.cls = [])
    (htitles : t.titles = s.titles) :
    OffersAfter s (gone.foldl (fun acc i => cancelItem o n i acc) t) (done ++ gone) := by
  induction gone generalizing t done joined L with
  | nil => simpa using h
  | cons i gone ih =>
    have hnew : i.object ∉ done.map Item.object := fun hmem => by
      rw [List.map_append, List.nodup_append] at hnodup
      exact hnodup.2.2 _ hmem _ (by simp) rfl
    have hone := (hi.object hs hnew (hclaim i List.mem_cons_self)).same (u := cancelItem o n i t) (by
      rw [cancelItem_frame])
    have hoffers : OffersAfter s (cancelItem o n i t) (done ++ [i]) := by
      rw [cancelItem_frame]
      exact h.object (o := o) hi htitles
    rw [List.foldl_cons, List.append_cons]
    refine ih hoffers hone (hs.without [i.object]) (by simpa using hnodup)
      (fun x hx => hclaim x (List.mem_cons_of_mem i hx)) ?_
    rw [cancelItem_frame, cancelObject_frame]
    exact htitles

end Sys2Proof.Machine
end

section
/-! SUPPORT. The release of a cancelled order's group (R118, R121), and what of its items a cancellation takes (R120). -/

namespace Sys2Proof.Machine

-- One declaration at a time: the check's memory does not hold many side by side.
set_option Elab.async false

/-! ### Objects that stay in their parcels -/

theorem holds_of_without {c d : Contents} {xs : List ItemObject} {x : ItemObject} (h : c.without xs = some d)
    (hd : d.holds x = true) : c.holds x = true := by
  cases c with
  | volumes k vs =>
    simp only [Contents.without] at h
    split at h <;> cases h
    exact hd
  | cartridges cs =>
    simp only [Contents.without] at h
    split at h
    · cases h
    · cases h
      cases x with
      | cart serial =>
        simp only [Contents.holds, decide_eq_true_iff] at hd ⊢
        exact List.mem_of_mem_filter hd
      | job k => exact hd
      | copySet k => exact hd

theorem without_of_holds {c : Contents} {xs : List ItemObject} {x : ItemObject} (h : c.holds x = true) (hx : x ∉ xs) :
    ∃ d, c.without xs = some d ∧ d.holds x = true := by
  cases c with
  | volumes k vs =>
    cases x with
    | copySet k' =>
      have hk : k = k' := by simpa [Contents.holds] using h
      exact ⟨_, if_neg (hk ▸ hx), h⟩
    | job n => cases h
    | cart serial => cases h
  | cartridges cs =>
    cases x with
    | cart serial =>
      have hmem : serial ∈ cs := by simpa [Contents.holds] using h
      have hleft : serial ∈ cs.filter (fun c => ItemObject.cart c ∉ xs) := List.mem_filter.2 ⟨hmem, by simpa using hx⟩
      exact ⟨_, if_neg fun hn => List.ne_nil_of_mem hleft hn.1, by simpa [Contents.holds] using ⟨hmem, hx⟩⟩
    | job n => cases h
    | copySet k => cases h

/-! ### An order's parcels in a later state -/

/-- What is left of the parcels once the orders `os` were cancelled. -/
def leftAt (s : State) (os : List Nat) : Nat → Parcel → Option Contents :=
  fun _ p => leftOf s os p

theorem leftOf_not_mem {s : State} {os : List Nat} {p : Parcel} (h : p.order ∉ os) : leftOf s os p = some p.contents :=
  if_neg h

theorem leftOf_mem {s : State} {os : List Nat} {p : Parcel} (h : p.order ∈ os) :
    leftOf s os p = p.contents.without ((goneOf s p.order).map Item.object) :=
  if_pos h

/-- The record of a parcel that is not lost. -/
theorem ParcelsAfter.get_iff {s t : State} {L : Nat → Parcel → Option Contents} {R : Nat → Bool} (h : ParcelsAfter s t L R)
    {m : Nat} {q : Parcel} : t.parcels.get m = some q ↔ ∃ p c, s.parcels.get m = some p ∧ L m p = some c
      ∧ q = { p with contents := c, state := if R p.order then .ready else p.state } := by
  rw [h.parcels, Option.bind_eq_some_iff]
  constructor
  · rintro ⟨p, hp, hq⟩
    obtain ⟨c, hc, rfl⟩ := Option.map_eq_some_iff.1 hq
    exact ⟨p, c, hp, hc, rfl⟩
  · rintro ⟨p, c, hp, hc, rfl⟩
    exact ⟨p, hp, by rw [hc]; rfl⟩

/-- The parcels of an order that is yet to be cancelled are as they were. -/
theorem ParcelsAfter.untouched {s t : State} {os : List Nat} {R : Nat → Bool} {o : Nat} (h : ParcelsAfter s t (leftAt s os) R)
    (ho : o ∉ os) (hR : R o = false) {m : Nat} {p : Parcel} (hp : p.order = o) :
    t.parcels.get m = some p ↔ s.parcels.get m = some p := by
  rw [h.get_iff]
  constructor
  · rintro ⟨q, c, hq, hc, rfl⟩
    have hqo : q.order = o := hp
    have hcontents : c = q.contents := by
      rw [leftAt, leftOf_not_mem (hqo ▸ ho)] at hc
      exact (Option.some.inj hc).symm
    have hR' : R q.order = false := hqo ▸ hR
    rw [hq, hcontents, hR']
    rfl
  · intro hm
    have hR' : R p.order = false := hp ▸ hR
    refine ⟨p, p.contents, hm, leftOf_not_mem (hp ▸ ho), ?_⟩
    rw [hR']
    rfl

/-- Whether an item may be cancelled does not change while other orders are. -/
theorem cancellable_eq {s t : State} {o : Nat} (hs : s.parcels.wf = true) (ht : t.parcels.wf = true)
    (h : ∀ m p, p.order = o → (t.parcels.get m = some p ↔ s.parcels.get m = some p)) (i : Item) :
    cancellable t o i = s.parcels.all (fun e =>
      !(e.2.order == o && e.2.contents.holds i.object) || (e.2.state != .packing && e.2.state != .dispatched)) := by
  rw [Bool.eq_iff_iff, cancellable, List.all_eq_true, List.all_eq_true]
  constructor
  · intro hall e he
    by_cases hmine : e.2.order = o ∧ e.2.contents.holds i.object = true
    · have hget := (h e.1 e.2 hmine.1).2 (Table.get_of_mem hs he)
      have hitem : e.1 ∈ itemParcels t o i.object :=
        (Table.mem_select ht).2 ⟨e.2, hget, by simp [hmine.1, hmine.2]⟩
      have hst := hall e.1 hitem
      simpa [parcelState, hget, hmine.1, hmine.2] using hst
    · simp only [Bool.or_eq_true, Bool.not_eq_true', ← Bool.not_eq_true, Bool.and_eq_true, beq_iff_eq]
      exact .inl hmine
  · intro hall m hm
    obtain ⟨p, hp, hmine⟩ := (Table.mem_select ht).1 hm
    simp only [Bool.and_eq_true, beq_iff_eq] at hmine
    have hst := hall (m, p) (Table.mem_of_get ((h m p hmine.1).1 hp))
    simpa [parcelState, hp, hmine.1, hmine.2] using hst

/-- The items that the model cancels are those taken of the order as it stood. -/
theorem gone_eq {s t : State} {o : Nat} {r : Order} (hs : s.parcels.wf = true) (ht : t.parcels.wf = true)
    (h : ∀ m p, p.order = o → (t.parcels.get m = some p ↔ s.parcels.get m = some p)) :
    (r.items.filter (fun i => !i.dispatched)).filter (cancellable t o) = r.taken s o := by
  rw [List.filter_filter, Order.taken]
  refine List.filter_congr fun i _ => ?_
  rw [cancellable_eq hs ht h, Bool.and_comm]

/-! ### The release of the order's group -/

/-- An order's parcels as the part keeps them: each in its group, a group's parcels one order's, and one group for a TOGETHER
order (R117). -/
structure OrderParcels (s : State) (o : Nat) (r : Order) : Prop where
  record : s.orders.get o = some r
  inGroup : ∀ m p, s.parcels.get m = some p → p.order = o → ∃ g, s.groups.get p.group = some g ∧ m ∈ g.parcels
  oneOrder : ∀ m p m' p', s.parcels.get m = some p → s.parcels.get m' = some p' → p.group = p'.group → p.order = p'.order
  oneGroup : r.mode = .together → ∀ m p m' p', s.parcels.get m = some p → s.parcels.get m' = some p' → p.order = o →
    p'.order = o → p.group = p'.group

/-- The order's record once its items were cancelled. -/
def Order.cancelled (r : Order) (s : State) (o : Nat) : Order :=
  { r with items := r.items.filter (fun i => i ∉ r.taken s o) }

theorem goneOf_eq {s : State} {o : Nat} {r : Order} (h : s.orders.get o = some r) : goneOf s o = r.taken s o := by
  simp only [goneOf, h]

theorem keptOf_eq {s : State} {o : Nat} {r : Order} (h : s.orders.get o = some r) :
    keptOf s o = r.items.filter (fun i => !i.dispatched && decide (i ∉ r.taken s o)) := by
  simp only [keptOf, h]

/-- The state of an order's parcels once its items were cancelled, and before its group is released. -/
structure OrderCut (s t : State) (os : List Nat) (R : Nat → Bool) (o : Nat) (r : Order) : Prop where
  parcels : ParcelsAfter s t (leftAt s (os ++ [o])) R
  fresh : o ∉ os
  unreleased : R o = false
  grouped : Grouped s
  order : OrderParcels s o r
  objects : ∀ i ∈ r.items, i.dispatched = false → i ∉ r.taken s o → i.object ∉ (r.taken s o).map Item.object
  record : t.orders.get o = some (r.cancelled s o)

theorem OrderCut.left {s t : State} {os : List Nat} {R : Nat → Bool} {o : Nat} {r : Order} (h : OrderCut s t os R o r)
    {m : Nat} {p : Parcel} (hp : p.order = o) :
    leftAt s (os ++ [o]) m p = p.contents.without ((r.taken s o).map Item.object) := by
  rw [leftAt, leftOf_mem (by simp [hp]), hp, goneOf_eq h.order.record]

theorem OrderCut.get {s t : State} {os : List Nat} {R : Nat → Bool} {o : Nat} {r : Order} (h : OrderCut s t os R o r)
    {m : Nat} {q : Parcel} (hq : q.order = o) : t.parcels.get m = some q ↔ ∃ p c, s.parcels.get m = some p ∧ p.order = o
      ∧ p.contents.without ((r.taken s o).map Item.object) = some c ∧ q = { p with contents := c } := by
  rw [h.parcels.get_iff]
  constructor
  · rintro ⟨p, c, hp, hc, rfl⟩
    have hpo : p.order = o := hq
    have hR : R p.order = false := hpo ▸ h.unreleased
    rw [h.left hpo] at hc
    exact ⟨p, c, hp, hpo, hc, by rw [hR]; rfl⟩
  · rintro ⟨p, c, hp, hpo, hc, rfl⟩
    have hR : R p.order = false := hpo ▸ h.unreleased
    exact ⟨p, c, hp, (h.left hpo).trans hc, by rw [hR]; rfl⟩

/-- A kept item has its parcels still. -/
theorem OrderCut.hasParcels {s t : State} {os : List Nat} {R : Nat → Bool} {o : Nat} {r : Order} (h : OrderCut s t os R o r)
    {i : Item} (hi : i.object ∉ (r.taken s o).map Item.object) :
    hasParcels t o i = s.parcels.any (fun e => e.2.order == o && e.2.contents.holds i.object) := by
  rw [Bool.eq_iff_iff, hasParcels_iff, List.any_eq_true]
  constructor
  · rintro ⟨e, he, ho, hx⟩
    obtain ⟨p, c, hp, hpo, hc, heq⟩ := (h.get ho).1 (Table.get_of_mem h.parcels.parcelsWf he)
    rw [heq] at hx
    exact ⟨(e.1, p), Table.mem_of_get hp, by simp [hpo, holds_of_without hc hx]⟩
  · rintro ⟨e, he, hx⟩
    simp only [Bool.and_eq_true, beq_iff_eq] at hx
    obtain ⟨d, hd, hdx⟩ := without_of_holds hx.2 hi
    have hget := (h.get (q := { e.2 with contents := d }) (m := e.1) hx.1).2
      ⟨e.2, d, Table.get_of_mem h.grouped.parcels he, hx.1, hd, rfl⟩
    exact ⟨(e.1, _), Table.mem_of_get hget, hx.1, hdx⟩

theorem mem_cancelled {s : State} {o : Nat} {r : Order} {i : Item} :
    i ∈ (r.cancelled s o).items ↔ i ∈ r.items ∧ i ∉ r.taken s o := by
  simp [Order.cancelled]

/-- The group of a cancelled order is due for release where `releases` says so. -/
theorem OrderCut.due {s t : State} {os : List Nat} {R : Nat → Bool} {o : Nat} {r : Order} (h : OrderCut s t os R o r) :
    releaseDueFor t o (r.cancelled s o) = releases s o := by
  have hitems : (r.cancelled s o).items.all (fun i => i.dispatched || (i.ready && Machine.hasParcels t o i)) =
      (keptOf s o).all (fun i => i.ready && s.parcels.any (fun e => e.2.order == o && e.2.contents.holds i.object)) := by
    rw [keptOf_eq h.order.record, Bool.eq_iff_iff, List.all_eq_true, List.all_eq_true]
    constructor
    · intro hall i hi
      simp only [List.mem_filter, Bool.and_eq_true, Bool.not_eq_true', decide_eq_true_iff] at hi
      obtain ⟨hmem, hopen, hkept⟩ := hi
      have hone := hall i (mem_cancelled.2 ⟨hmem, hkept⟩)
      rwa [hopen, Bool.false_or, h.hasParcels (h.objects i hmem hopen hkept)] at hone
    · intro hall i hi
      obtain ⟨hmem, hkept⟩ := mem_cancelled.1 hi
      cases hopen : i.dispatched with
      | true => rfl
      | false =>
        rw [Bool.false_or, h.hasParcels (h.objects i hmem hopen hkept)]
        exact hall i (List.mem_filter.2 ⟨hmem, by simp [hopen, hkept]⟩)
  have hforming : t.parcels.any (fun e => e.2.order == o && e.2.state == .forming) =
      s.parcels.any (fun e => e.2.order == o && e.2.state == .forming && (leftOf s [o] e.2).isSome) := by
    have hleft : ∀ p : Parcel, p.order = o → leftOf s [o] p = p.contents.without ((r.taken s o).map Item.object) :=
      fun p hp => by rw [leftOf_mem (by simp [hp]), hp, goneOf_eq h.order.record]
    rw [Bool.eq_iff_iff, List.any_eq_true, List.any_eq_true]
    simp only [Bool.and_eq_true, beq_iff_eq]
    constructor
    · rintro ⟨e, he, ho, hst⟩
      obtain ⟨p, c, hp, hpo, hc, heq⟩ := (h.get ho).1 (Table.get_of_mem h.parcels.parcelsWf he)
      rw [heq] at hst
      exact ⟨(e.1, p), Table.mem_of_get hp, ⟨hpo, hst⟩, by simp [hleft p hpo, hc]⟩
    · rintro ⟨e, he, ⟨ho, hst⟩, hsome⟩
      obtain ⟨c, hc⟩ := Option.isSome_iff_exists.1 hsome
      rw [hleft e.2 ho] at hc
      have hget := (h.get (q := { e.2 with contents := c }) (m := e.1) ho).2
        ⟨e.2, c, Table.get_of_mem h.grouped.parcels he, ho, hc, rfl⟩
      exact ⟨(e.1, _), Table.mem_of_get hget, ho, hst⟩
  have hmode : (r.cancelled s o).mode = r.mode := rfl
  simp only [releaseDueFor, releases, h.order.record, hitems, hforming, hmode]

/-- The parcels of a group that are left. -/
def leftIn (s : State) (L : Nat → Parcel → Option Contents) (rg : DispatchGroup) : List Nat :=
  rg.parcels.filter (fun m => !lost s L m)

/-- The group of a cancelled order that is released: all of the order's parcels that are left are the group's. -/
theorem OrderCut.group {s t : State} {os : List Nat} {R : Nat → Bool} {o : Nat} {r : Order} (h : OrderCut s t os R o r)
    (hdue : releases s o = true) : ∃ g rg, s.groups.get g = some rg
      ∧ t.groups.get g = some { rg with parcels := leftIn s (leftAt s (os ++ [o])) rg } ∧ liveGroup t o = some g
      ∧ (∃ m p, s.parcels.get m = some p ∧ p.order = o ∧ p.group = g)
      ∧ ∀ m p c, s.parcels.get m = some p → leftAt s (os ++ [o]) m p = some c →
        (m ∈ leftIn s (leftAt s (os ++ [o])) rg ↔ p.order = o) := by
  have htogether : r.mode = .together := by
    have hd := hdue
    simp only [releases, h.order.record, Bool.and_eq_true, beq_iff_eq] at hd
    exact hd.1.1
  have hforming : ∃ e ∈ t.parcels, (e.2.order == o) = true := by
    have hd := h.due.trans hdue
    simp only [releaseDueFor, Bool.and_eq_true, List.any_eq_true] at hd
    obtain ⟨e, he, ho, _⟩ := hd.2
    exact ⟨e, he, ho⟩
  obtain ⟨e, hfind⟩ := Option.isSome_iff_exists.1 (List.find?_isSome.2 hforming)
  have hmem := List.mem_of_find?_eq_some hfind
  have ho : e.2.order = o := by simpa using List.find?_some hfind
  obtain ⟨p1, c1, hp1, hpo1, hc1, heq1⟩ := (h.get ho).1 (Table.get_of_mem h.parcels.parcelsWf hmem)
  obtain ⟨rg, hrg, hin⟩ := h.order.inGroup e.1 p1 hp1 hpo1
  have hsame : ∀ m p, s.parcels.get m = some p → p.order = o → p.group = p1.group := fun m p hp hpo =>
    h.order.oneGroup htogether m p e.1 p1 hp hp1 hpo hpo1
  have hkept : ∀ m p c, s.parcels.get m = some p → leftAt s (os ++ [o]) m p = some c →
      (m ∈ leftIn s (leftAt s (os ++ [o])) rg ↔ p.order = o) := by
    intro m p c hp hc
    have hlost : lost s (leftAt s (os ++ [o])) m = false := by simp [lost, hp, hc]
    rw [leftIn, List.mem_filter, hlost]
    constructor
    · rintro ⟨hm, _⟩
      obtain ⟨p', hp', hgroup⟩ := (h.grouped.members _ _ hrg).2 m hm
      rw [hp] at hp'
      cases hp'
      rw [h.order.oneOrder m p e.1 p1 hp hp1 hgroup, hpo1]
    · intro hpo
      obtain ⟨rg', hrg', hm⟩ := h.order.inGroup m p hp hpo
      rw [hsame m p hp hpo, hrg] at hrg'
      cases hrg'
      exact ⟨hm, rfl⟩
  refine ⟨p1.group, rg, hrg, ?_, ?_, ⟨e.1, p1, hp1, hpo1, rfl⟩, hkept⟩
  · have hne : leftIn s (leftAt s (os ++ [o])) rg ≠ [] :=
      List.ne_nil_of_mem ((hkept e.1 p1 c1 hp1 ((h.left hpo1).trans hc1)).2 hpo1)
    rw [h.parcels.groups, hrg, Option.bind_some, groupLeft]
    exact if_neg fun hn => hne hn.1
  · rw [liveGroup, hfind, Option.map_some, heq1]

/-- A parcel made READY where its number is one of some. -/
def readied (ms : List Nat) (m : Nat) (p : Parcel) : Parcel :=
  if m ∈ ms then { p with state := .ready } else p

/-- The order's group released, where that is due (R118, R121). -/
theorem OrderCut.released {s t : State} {os : List Nat} {R : Nat → Bool} {o : Nat} {r : Order} (h : OrderCut s t os R o r) :
    ParcelsAfter s (releaseTogether o t) (leftAt s (os ++ [o])) (fun x => R x || (x == o && releases s o)) := by
  cases hdue : releases s o with
  | false =>
    have hsame : releaseTogether o t = t := by
      unfold releaseTogether
      split
      · rename_i r' g hr' _
        rw [h.record] at hr'
        cases hr'
        rw [h.due, hdue]
        rfl
      · rfl
    have hR : (fun x => R x || (x == o && false)) = R := funext fun x => by simp
    rw [hsame, hR]
    exact h.parcels
  | true =>
    obtain ⟨g, rg, hrg, htg, hlive, _, hkept⟩ := h.group hdue
    have hrelease : releaseTogether o t = { t with
        parcels := t.parcels.mapAll (readied (leftIn s (leftAt s (os ++ [o])) rg))
        dispatchQueue := queueGroup t rg.band (leftIn s (leftAt s (os ++ [o])) rg) } := by
      simp only [releaseTogether, h.record, hlive, h.due, hdue, if_true, releaseGroup, htg, readyParcels]
      rfl
    rw [hrelease]
    refine ⟨fun m => ?_, h.parcels.groups, fun hnone => ?_, h.parcels.reservedCap,
      Table.wf_mapAll h.parcels.parcelsWf _, h.parcels.groupsWf⟩
    · refine (Table.get_mapAll ..).trans ?_
      rw [h.parcels.parcels]
      cases hp : s.parcels.get m with
      | none => rfl
      | some p =>
        simp only [Option.bind_some, Option.map_map]
        cases hc : leftAt s (os ++ [o]) m p with
        | none => rfl
        | some c =>
          have hiff := hkept m p c hp hc
          simp only [Option.map_some, Function.comp_apply, readied, hiff]
          by_cases hpo : p.order = o
          · simp [hpo]
          · simp [hpo]
    · have hfalse := hnone o
      simp at hfalse

/-- The group of a parcel that is left is left, with the parcels of it that are left. -/
theorem ParcelsAfter.group_left {s t : State} {os : List Nat} {R : Nat → Bool} (h : ParcelsAfter s t (leftAt s os) R)
    (hs : Grouped s)
    (hone : ∀ m p m' p', s.parcels.get m = some p → s.parcels.get m' = some p' → p.group = p'.group → p.order = p'.order)
    (hin : ∀ m p, s.parcels.get m = some p → p.order ∈ os → ∃ g, s.groups.get p.group = some g ∧ m ∈ g.parcels)
    {m : Nat} {p : Parcel} {rg : DispatchGroup} (hm : s.parcels.get m = some p) (hkept : lost s (leftAt s os) m = false)
    (hrg : s.groups.get p.group = some rg) :
    t.groups.get p.group = some { rg with parcels := leftIn s (leftAt s os) rg } := by
  rw [h.groups, hrg, Option.bind_some, groupLeft]
  refine if_neg fun ⟨hnil, hne⟩ => ?_
  obtain ⟨m0, hm0⟩ := List.exists_mem_of_ne_nil _ hne
  obtain ⟨p0, hp0, hgroup⟩ := (hs.members _ _ hrg).2 m0 hm0
  have hlost : lost s (leftAt s os) m0 = true := by
    have hno := List.filter_eq_nil_iff.1 hnil m0 hm0
    simpa using hno
  have horder : p0.order ∈ os := by
    by_contra hno
    simp [lost, hp0, leftAt, leftOf_not_mem hno] at hlost
  obtain ⟨rg', hrg', hmem⟩ := hin m p hm (hone m0 p0 m p hp0 hm hgroup ▸ horder)
  rw [hrg] at hrg'
  cases hrg'
  exact List.filter_eq_nil_iff.1 hnil m hmem (by rw [hkept]; rfl)

/-- A parcel that is left belongs to an URGENT group where it did. -/
theorem ParcelsAfter.inBand {s t : State} {os : List Nat} {R : Nat → Bool} (h : ParcelsAfter s t (leftAt s os) R)
    (hs : Grouped s)
    (hone : ∀ m p m' p', s.parcels.get m = some p → s.parcels.get m' = some p' → p.group = p'.group → p.order = p'.order)
    (hin : ∀ m p, s.parcels.get m = some p → p.order ∈ os → ∃ g, s.groups.get p.group = some g ∧ m ∈ g.parcels)
    {m : Nat} (hkept : lost s (leftAt s os) m = false) (b : Band) : inBandOf t b m ↔ inBandOf s b m := by
  constructor
  · rintro ⟨q, rg', hq, hrg', hb⟩
    obtain ⟨p, c, hp, hc, rfl⟩ := h.get_iff.1 hq
    have hsome : ∃ rg, s.groups.get p.group = some rg := by
      rw [h.groups, Option.bind_eq_some_iff] at hrg'
      exact ⟨_, hrg'.choose_spec.1⟩
    obtain ⟨rg, hrg⟩ := hsome
    rw [show t.groups.get p.group = _ from h.group_left hs hone hin hp hkept hrg] at hrg'
    exact ⟨p, rg, hp, hrg, by rw [← hb, ← Option.some.inj hrg']⟩
  · rintro ⟨p, rg, hp, hrg, hb⟩
    obtain ⟨c, hc⟩ : ∃ c, leftAt s os m p = some c := by
      rw [lost, hp] at hkept
      exact Option.isSome_iff_exists.1 (by simpa using hkept)
    have hleft := h.group_left hs hone hin hp hkept hrg
    exact ⟨_, _, h.get_iff.2 ⟨p, c, hp, hc, rfl⟩, hleft, hb⟩

/-- The parcels of a released group stand in the dispatch queue at the tail of its band (R118, R125). -/
theorem OrderCut.joins {s t : State} {os : List Nat} {R : Nat → Bool} {o g : Nat} {r : Order} {rg : DispatchGroup}
    (h : OrderCut s t os R o r) (hdue : releases s o = true) (hR : ∀ x, R x = false)
    (hg : ∀ e ∈ s.parcels, e.2.order = o → e.2.group = g) (hrg : s.groups.get g = some rg)
    (hin : ∀ m p, s.parcels.get m = some p → p.order ∈ os ++ [o] → ∃ g, s.groups.get p.group = some g ∧ m ∈ g.parcels) :
    JoinedAtTail { s with dispatchQueue := s.dispatchQueue.filter (fun m => !lost s (leftAt s (os ++ [o])) m) } rg.band
      (leftIn s (leftAt s (os ++ [o])) rg) (releaseTogether o t).dispatchQueue := by
  obtain ⟨g', rg', hrg', htg, hlive, ⟨m1, p1, hp1, hpo1, hgroup1⟩, _⟩ := h.group hdue
  have hgg : g' = g := hgroup1.symm.trans (hg _ (Table.mem_of_get hp1) hpo1)
  subst hgg
  rw [hrg] at hrg'
  cases hrg'
  have hqueue : (releaseTogether o t).dispatchQueue = queueGroup t rg.band (leftIn s (leftAt s (os ++ [o])) rg) := by
    simp only [releaseTogether, h.record, hlive, h.due, hdue, if_true, releaseGroup, htg, readyParcels]
  have hkept : ∀ m ∈ t.dispatchQueue, (urgentQueued t m = true ↔ inBandOf s .urgent m) := by
    intro m hm
    rw [h.parcels.queue hR, List.mem_filter] at hm
    rw [urgentQueued_iff]
    exact h.parcels.inBand h.grouped h.order.oneOrder hin (by simpa using hm.2) .urgent
  rw [hqueue]
  cases hband : rg.band with
  | normal =>
    refine ⟨t.dispatchQueue, [], ⟨?_, fun _ => rfl, Band.noConfusion⟩, (List.append_nil _).symm⟩
    exact (h.parcels.queue hR).symm.trans (List.append_nil _).symm
  | urgent =>
    refine ⟨t.dispatchQueue.takeWhile (urgentQueued t), t.dispatchQueue.dropWhile (urgentQueued t),
      ⟨?_, Band.noConfusion, fun _ => ⟨fun m hm => ?_, fun m hm hu => ?_⟩⟩, rfl⟩
    · exact (h.parcels.queue hR).symm.trans (List.takeWhile_append_dropWhile ..).symm
    · exact (hkept m (List.takeWhile_subset _ hm)).1 (List.mem_takeWhile_imp hm)
    · have hmem : m ∈ t.dispatchQueue.dropWhile (urgentQueued t) := List.mem_of_mem_head? hm
      have hstop := List.head?_dropWhile_not (urgentQueued t) t.dispatchQueue
      rw [Option.mem_def.1 hm] at hstop
      have htrue := (hkept m ((List.dropWhile_sublist _).subset hmem)).2 hu
      simp [htrue] at hstop

end Sys2Proof.Machine
end

section
/-! SUPPORT. One order cancelled and settled (R119 to R121). -/

namespace Sys2Proof.Machine

-- One declaration at a time: the check's memory does not hold many side by side.
set_option Elab.async false

/-! ### What each part of a cancellation writes -/

/-- Two states that differ in the fields only that the cancellation of orders writes. -/
def OnlyCancelled (s t : State) : Prop :=
  t = { s with
    jobs := t.jobs, jobQueue := t.jobQueue, starved := t.starved, reserved := t.reserved, passQueue := t.passQueue
    blocked := t.blocked, stays := t.stays, marks := t.marks, carts := t.carts, unwiped := t.unwiped
    copySets := t.copySets, pendingOffers := t.pendingOffers, tasks := t.tasks, pullQueue := t.pullQueue
    parcels := t.parcels, groups := t.groups, dispatchQueue := t.dispatchQueue, reservedCap := t.reservedCap
    orders := t.orders, patrons := t.patrons, heldTotal := t.heldTotal, titles := t.titles }

theorem OnlyCancelled.refl (s : State) : OnlyCancelled s s := rfl

theorem OnlyCancelled.trans {s t u : State} (h : OnlyCancelled s t) (h' : OnlyCancelled t u) : OnlyCancelled s u := by
  unfold OnlyCancelled at *
  rw [h', h]

theorem cancelItem_only (o n : Nat) (i : Item) (t : State) : OnlyCancelled t (cancelItem o n i t) := by
  rw [OnlyCancelled, cancelItem_frame, cancelObject_frame]

theorem cancelItems_only (o n : Nat) (gone : List Item) (t : State) :
    OnlyCancelled t (gone.foldl (fun acc i => cancelItem o n i acc) t) := by
  induction gone generalizing t with
  | nil => exact .refl t
  | cons i gone ih => exact (cancelItem_only o n i t).trans (ih _)

/-- The release of a group writes the parcels and the dispatch queue only. -/
theorem releaseTogether_only (o : Nat) (t : State) :
    releaseTogether o t = { t with
      parcels := (releaseTogether o t).parcels, dispatchQueue := (releaseTogether o t).dispatchQueue } := by
  unfold releaseTogether
  split
  · split
    · unfold releaseGroup
      split <;> rfl
    · rfl
  · rfl

/-! ### The order's record and the patron's -/

theorem cancelItems_orders (o n : Nat) (gone : List Item) {t : State} {r : Order} (h : t.orders.get o = some r)
    (hwf : t.orders.wf = true) :
    (gone.foldl (fun acc i => cancelItem o n i acc) t).orders =
      t.orders.put o { r with items := r.items.filter (fun x => x.place ∉ gone.map Item.place) } := by
  induction gone generalizing t r with
  | nil =>
    have hall : r.items.filter (fun x => x.place ∉ ([] : List Item).map Item.place) = r.items := by simp
    rw [hall]
    exact (Table.put_self hwf h).symm
  | cons i gone ih =>
    have hone : (cancelItem o n i t).orders = t.orders.put o (r.dropItem i.place) := by
      rw [cancelItem_frame]
      exact Table.modify_some _ h
    have hget : (cancelItem o n i t).orders.get o = some (r.dropItem i.place) := by
      rw [hone]
      exact Table.get_put_same ..
    have hwf' : (cancelItem o n i t).orders.wf = true := by
      rw [hone]
      exact Table.wf_put hwf _ _
    rw [List.foldl_cons, ih hget hwf', hone, Table.put_put]
    simp only [Order.dropItem, List.filter_filter, List.map_cons, List.mem_cons, not_or]
    refine congrArg (fun l => t.orders.put o { r with items := l }) (List.filter_congr fun x _ => ?_)
    rw [Bool.eq_iff_iff]
    simp [and_comm]

theorem cancelItems_patrons (o n : Nat) (gone : List Item) {t : State} {q : Patron} (h : t.patrons.get n = some q)
    (hwf : t.patrons.wf = true) :
    (gone.foldl (fun acc i => cancelItem o n i acc) t).patrons = t.patrons.put n { q with held := q.held - gone.length }
      ∧ (gone.foldl (fun acc i => cancelItem o n i acc) t).heldTotal = t.heldTotal - gone.length := by
  induction gone generalizing t q with
  | nil => exact ⟨(Table.put_self hwf h).symm, rfl⟩
  | cons i gone ih =>
    have hone : (cancelItem o n i t).patrons = t.patrons.put n { q with held := q.held - 1 }
        ∧ (cancelItem o n i t).heldTotal = t.heldTotal - 1 := by
      rw [cancelItem_frame, lowerHeld_eq 1 h]
      exact ⟨rfl, rfl⟩
    have hget : (cancelItem o n i t).patrons.get n = some { q with held := q.held - 1 } := by
      rw [hone.1]
      exact Table.get_put_same ..
    have hwf' : (cancelItem o n i t).patrons.wf = true := by
      rw [hone.1]
      exact Table.wf_put hwf _ _
    obtain ⟨hp, ht⟩ := ih hget hwf'
    rw [List.foldl_cons, hp, ht, hone.1, hone.2, Table.put_put, List.length_cons, Nat.sub_sub, Nat.sub_sub,
      Nat.add_comm 1 gone.length]
    exact ⟨rfl, rfl⟩

theorem cancelItems_titles (o n : Nat) (gone : List Item) (t : State) :
    (gone.foldl (fun acc i => cancelItem o n i acc) t).titles = t.titles := by
  induction gone generalizing t with
  | nil => rfl
  | cons i gone ih =>
    rw [List.foldl_cons, ih, cancelItem_frame, cancelObject_frame]

/-- The items that stay in an order are those whose places were not taken. -/
theorem filter_places {r : Order} {gone : List Item} (hplaces : r.items.Pairwise (fun a b => a.place ≠ b.place))
    (hgone : ∀ i ∈ gone, i ∈ r.items) :
    r.items.filter (fun x => x.place ∉ gone.map Item.place) = r.items.filter (fun x => x ∉ gone) := by
  refine List.filter_congr fun x hx => ?_
  have hnodup : (r.items.map Item.place).Nodup := List.pairwise_map.2 hplaces
  have hiff : x.place ∈ gone.map Item.place ↔ x ∈ gone := by
    constructor
    · intro hm
      obtain ⟨y, hy, hxy⟩ := List.mem_map.1 hm
      rwa [List.inj_on_of_nodup_map hnodup hx (hgone y hy) hxy.symm]
    · exact fun hm => List.mem_map_of_mem hm
  simp only [hiff]

/-- With restore, an order's entries return and the patron joins the pass queue (R121). -/
theorem restoreEntries_eq {t : State} {n : Nat} {q : Patron} (h : t.patrons.get n = some q) (hq : q.state ≠ .closing)
    (entries : List WishEntry) :
    restoreEntries n entries t = { t with
      patrons := t.patrons.put n { q with wishes := entriesBack entries q.wishes }
      titles := titlesJoined n (entries.take (64 - q.wishes.length)) t.titles
      passQueue := appendNew t.passQueue n } := by
  rw [restoreEntries, returnEntries_eq h]
  have hopen : notClosing { t with
      patrons := t.patrons.put n { q with wishes := entriesBack entries q.wishes }
      titles := titlesJoined n (entries.take (64 - q.wishes.length)) t.titles } n = true := by
    simp [notClosing, hq]
  rw [appendPassOpen, hopen]
  rfl

/-! ### Counts -/

theorem taken_subset {s : State} {o : Nat} {r : Order} {i : Item} (h : i ∈ r.taken s o) :
    i ∈ r.items ∧ i.dispatched = false := by
  simp only [Order.taken, List.mem_filter, Bool.and_eq_true, Bool.not_eq_true'] at h
  exact ⟨h.1, h.2.1⟩

/-- The undispatched items of an order are taken or kept. -/
theorem open_length {s : State} {o : Nat} {r : Order} (h : s.orders.get o = some r) :
    (r.items.filter (fun i => !i.dispatched)).length - (r.taken s o).length = (keptOf s o).length := by
  have htaken : r.taken s o = (r.items.filter (fun i => !i.dispatched)).filter (fun i => decide (i ∈ r.taken s o)) := by
    rw [List.filter_filter]
    conv_lhs => rw [Order.taken]
    refine List.filter_congr fun i hi => ?_
    rw [Bool.eq_iff_iff]
    simp only [Order.taken, List.mem_filter, hi, true_and, decide_eq_true_iff, Bool.and_eq_true]
    tauto
  have hkept : keptOf s o = (r.items.filter (fun i => !i.dispatched)).filter (fun i => !decide (i ∈ r.taken s o)) := by
    rw [keptOf_eq h, List.filter_filter]
    refine List.filter_congr fun i _ => ?_
    rw [Bool.and_comm, decide_not]
  have hsum := List.length_eq_length_filter_add (l := r.items.filter (fun i => !i.dispatched))
    (fun i => decide (i ∈ r.taken s o))
  rw [← htaken, ← hkept] at hsum
  omega

end Sys2Proof.Machine
end

section
/-! SUPPORT. The orders of a patron cancelled one after another (R119 to R121). -/

namespace Sys2Proof.Machine

-- One declaration at a time: the check's memory does not hold many side by side.
set_option Elab.async false

/-! ### What some orders' cancellation leaves -/

/-- An order's record once it was cancelled and settled; none where nothing undispatched remains (R104). -/
def orderLeft (s : State) (o : Nat) (r : Order) : Option Order :=
  let left := r.items.filter (fun i => i ∉ r.taken s o)
  if left.all Item.dispatched then none else some { r with items := left }

/-- A patron's wish list and the titles once the entries of some orders returned, each order's as one block (R40, R121). -/
def restoredBy (s : State) (n : Nat) (os : List Nat) (start : List WishEntry × Table Title) : List WishEntry × Table Title :=
  os.foldl (fun acc o =>
    (entriesBack ((goneOf s o).flatMap Item.entries) acc.1,
      titlesJoined n (((goneOf s o).flatMap Item.entries).take (64 - acc.1.length)) acc.2)) start

/-- A patron's record once some of its items were cancelled. -/
def Patron.cancelled (p : Patron) (count : Nat) (wishes : List WishEntry) : Patron :=
  { p with held := p.held - count, wishes := wishes }

/-- The wish list once some orders were cancelled. -/
def wishesAfter (s : State) (n : Nat) (p : Patron) (restore : Bool) (os : List Nat) : List WishEntry :=
  if restore then (restoredBy s n os (p.wishes, s.titles)).1 else p.wishes

/-- The titles once some orders were cancelled. -/
def titlesAfter (s : State) (n : Nat) (p : Patron) (restore : Bool) (os : List Nat) : Table Title :=
  if restore then (restoredBy s n os (p.wishes, s.titles)).2 else s.titles

/-- The orders whose groups a cancellation releases. -/
def releasedOrders (s : State) (os : List Nat) (o : Nat) : Bool :=
  decide (o ∈ os) && releases s o

/-- A state in which the orders `os` of patron `n`, with record `p`, were cancelled and settled, and no loans created. -/
structure CancelRun (s t : State) (n : Nat) (p : Patron) (restore : Bool) (os : List Nat) : Prop where
  items : ItemsAfter s t (goneItems s os) (joinersOf s n restore [] os) (leftAt s os) (releasedOrders s os)
  offers : restore = false ∨ os.length ≤ 1 → OffersAfter s t (goneItems s os)
  orders : ∀ o, t.orders.get o = if o ∈ os then (s.orders.get o).bind (orderLeft s o) else s.orders.get o
  ordersWf : t.orders.wf = true
  patrons : t.patrons = if p.state = .closing ∧ p.held ≤ (goneItems s os).length ∧ os ≠ [] then s.patrons.del n
    else s.patrons.put n (p.cancelled (goneItems s os).length (wishesAfter s n p restore os))
  heldTotal : t.heldTotal = s.heldTotal - (goneItems s os).length
  titles : t.titles = titlesAfter s n p restore os
  joins : ∀ o g rg, os = [o] → releases s o = true → (∀ e ∈ s.parcels, e.2.order = o → e.2.group = g) →
    s.groups.get g = some rg →
    JoinedAtTail { s with dispatchQueue := s.dispatchQueue.filter (fun m => !removes s os m) } rg.band
      (rg.parcels.filter (fun m => !removes s os m)) t.dispatchQueue
  frame : OnlyCancelled s t

theorem goneItems_append (s : State) (os : List Nat) (o : Nat) : goneItems s (os ++ [o]) = goneItems s os ++ goneOf s o := by
  simp [goneItems]

theorem joinersOf_append (s : State) (n : Nat) (restore : Bool) (done : List Item) (os : List Nat) (o : Nat) :
    joinersOf s n restore done (os ++ [o]) = joinersOf s n restore done os
      ++ (releasedBy s (done ++ goneItems s os) (goneOf s o) ++ (if restore then [n] else [])) := by
  induction os generalizing done with
  | nil => simp [joinersOf, goneItems]
  | cons o' os ih =>
    have hgone : goneItems s (o' :: os) = goneOf s o' ++ goneItems s os := rfl
    simp only [List.cons_append, joinersOf, ih, hgone, List.append_assoc]

theorem restoredBy_append (s : State) (n : Nat) (os : List Nat) (o : Nat) (start : List WishEntry × Table Title) :
    restoredBy s n (os ++ [o]) start =
      (entriesBack ((goneOf s o).flatMap Item.entries) (restoredBy s n os start).1,
        titlesJoined n (((goneOf s o).flatMap Item.entries).take (64 - (restoredBy s n os start).1.length))
          (restoredBy s n os start).2) := by
  rw [restoredBy, List.foldl_append]
  rfl

/-- Before any order. -/
theorem CancelRun.start {s : State} {n : Nat} {p : Patron} (hwf : s.tablesWf = true) (hp : s.patrons.get n = some p)
    (restore : Bool) : CancelRun s s n p restore [] := by
  simp only [State.tablesWf, Bool.and_eq_true] at hwf
  obtain ⟨⟨⟨⟨⟨⟨⟨⟨⟨hpatrons, _⟩, _⟩, _⟩, _⟩, horders⟩, htasks⟩, hparcels⟩, hgroups⟩, _⟩ := hwf
  have hlost : lost s (leftAt s []) = fun _ => false := by
    funext m
    unfold lost
    cases s.parcels.get m <;> rfl
  have hplaces : placesBack s (leftAt s []) = 0 := by
    rw [placesBack, hlost, countOf, List.length_eq_zero_iff, List.filter_eq_nil_iff]
    simp
  refine ⟨⟨.start s, .start s, .start s, .start htasks, ⟨fun m => ?_, fun g => ?_, fun _ => ?_, ?_, hparcels, hgroups⟩⟩,
    fun _ => rfl, fun o => rfl, horders, ?_, rfl, ?_, fun o g rg hos => (by cases hos), .refl s⟩
  · cases s.parcels.get m <;> rfl
  · cases s.groups.get g with
    | none => rfl
    | some r =>
      have hall : r.parcels.filter (fun m => !lost s (leftAt s []) m) = r.parcels := by simp [hlost]
      simp only [Option.bind_some, groupLeft, hall]
      rw [if_neg fun h => h.2 h.1]
  · simp [hlost]
  · rw [hplaces]
    rfl
  · have hwishes : wishesAfter s n p restore [] = p.wishes := by
      unfold wishesAfter
      split <;> rfl
    rw [if_neg fun h => h.2.2 rfl, hwishes]
    exact (Table.put_self hpatrons hp).symm
  · unfold titlesAfter
    split <;> rfl

/-! ### One more order -/

/-- What the cancellation of one more order, `o` with record `r`, asks: its records as the part keeps them, and no object, unit or
blank shared with what was cancelled before. -/
structure CancelStage (s : State) (n : Nat) (p : Patron) (restore : Bool) (os : List Nat) (o : Nat) (r : Order) : Prop where
  grouped : Grouped s
  tasksWf : s.tasks.wf = true
  tasks : s.tasks.Pairwise (fun a b => a.2.copySet ≠ b.2.copySet)
  serials : ∀ m q cs, s.parcels.get m = some q → q.contents = .cartridges cs → cs.Nodup
  patronsWf : s.patrons.wf = true
  found : s.patrons.get n = some p
  unlocked : restore = true → p.state ≠ .closing
  fresh : o ∉ os
  order : OrderParcels s o r
  mine : r.patron = n
  places : r.items.Pairwise (fun a b => a.place ≠ b.place)
  objects : ((goneItems s os ++ r.taken s o).map Item.object).Nodup
  kept : ∀ i ∈ r.items, i.dispatched = false → i ∉ r.taken s o → i.object ∉ (r.taken s o).map Item.object
  claims : ∀ i ∈ r.taken s o, ∀ k j, i.object = .job k → s.jobs.get k = some j → j.state = .queued →
    s.starved.get j.cls = []
  held : (goneItems s os).length + (r.taken s o).length ≤ p.held

/-- The state once an order's items were cancelled, and with restore its entries returned, before the order is settled. -/
def orderCancelled (restore : Bool) (o n : Nat) (gone : List Item) (t : State) : State :=
  let u := gone.foldl (fun acc i => cancelItem o n i acc) t
  if restore then restoreEntries n (gone.flatMap Item.entries) u else u

section
variable {s t : State} {n : Nat} {p : Patron} {restore : Bool} {os : List Nat} {o : Nat} {r : Order}

theorem CancelStage.unreleased (h : CancelStage s n p restore os o r) : releasedOrders s os o = false := by
  simp [releasedOrders, h.fresh]

theorem CancelStage.sound (h : CancelStage s n p restore os o r) : Sound s o (leftAt s os) (releasedOrders s os) := by
  refine ⟨h.grouped, h.tasksWf, h.tasks, h.unreleased, fun m q hm ho => ⟨fun c cs hc hcs => ?_, h.order.inGroup m q hm ho⟩⟩
  rw [leftAt, leftOf_not_mem (ho ▸ h.fresh)] at hc
  cases hc
  exact h.serials m q cs hm hcs

theorem CancelStage.left (h : CancelStage s n p restore os o r) (m : Nat) (q : Parcel) :
    (if q.order = o then (leftAt s os m q).bind (fun c => c.without ((r.taken s o).map Item.object)) else leftAt s os m q) =
      leftAt s (os ++ [o]) m q := by
  by_cases ho : q.order = o
  · rw [if_pos ho, leftAt, leftAt, leftOf_not_mem (ho ▸ h.fresh), leftOf_mem (by simp [ho]), ho, goneOf_eq h.order.record]
    rfl
  · rw [if_neg ho, leftAt, leftAt, leftOf, leftOf]
    simp [ho]

theorem CancelStage.released (s : State) (os : List Nat) (o : Nat) :
    (fun x => releasedOrders s os x || (x == o && releases s o)) = releasedOrders s (os ++ [o]) := by
  funext x
  by_cases hx : x = o
  · subst hx
    simp only [releasedOrders, List.mem_append, List.mem_singleton, or_true, decide_true, beq_self_eq_true, Bool.true_and]
    cases decide (x ∈ os) <;> simp
  · simp [releasedOrders, hx]

theorem CancelStage.run_record (hs : CancelStage s n p restore os o r) (h : CancelRun s t n p restore os) :
    t.orders.get o = some r := by
  rw [h.orders, if_neg hs.fresh, hs.order.record]

/-- The patron's record in mid-run, where the items still to cancel say that it is live. -/
theorem CancelStage.run_patron (hs : CancelStage s n p restore os o r) (h : CancelRun s t n p restore os)
    (hlive : ¬ (p.state = .closing ∧ p.held ≤ (goneItems s os).length ∧ os ≠ [])) :
    t.patrons.get n = some (p.cancelled (goneItems s os).length (wishesAfter s n p restore os)) ∧ t.patrons.wf = true := by
  rw [h.patrons, if_neg hlive]
  exact ⟨Table.get_put_same .., Table.wf_put hs.patronsWf _ _⟩

/-- What the model does to one more order. -/
theorem CancelStage.cancelOrder_eq (hs : CancelStage s n p restore os o r) (h : CancelRun s t n p restore os) :
    cancelOrder restore o t = (settleOrder o n (orderCancelled restore o n (r.taken s o) t),
      ⟨o, (goneOf s o).length, (keptOf s o).length⟩) := by
  have hgone : (r.items.filter (fun i => !i.dispatched)).filter (cancellable t o) = r.taken s o :=
    gone_eq hs.grouped.parcels h.items.parcels.parcelsWf fun m q hq =>
      h.items.parcels.untouched hs.fresh hs.unreleased hq
  simp only [cancelOrder, hs.run_record h, hgone, hs.mine, orderCancelled, open_length hs.order.record,
    goneOf_eq hs.order.record]

/-- The parts of a run once one more order's items were cancelled and its entries returned. -/
theorem CancelStage.items (hs : CancelStage s n p restore os o r) (h : CancelRun s t n p restore os) :
    ItemsAfter s (orderCancelled restore o n (r.taken s o) t) (goneItems s (os ++ [o]))
      (joinersOf s n restore [] (os ++ [o])) (leftAt s (os ++ [o])) (releasedOrders s os) := by
  have hitems := h.items.items (n := n) (r.taken s o) hs.sound hs.objects hs.claims
  have hleft : ItemsAfter s ((r.taken s o).foldl (fun acc i => cancelItem o n i acc) t) (goneItems s (os ++ [o]))
      (joinersOf s n restore [] os ++ releasedBy s (goneItems s os) (goneOf s o)) (leftAt s (os ++ [o]))
      (releasedOrders s os) := by
    rw [goneItems_append, goneOf_eq hs.order.record]
    exact ⟨hitems.jobs, hitems.carts, hitems.sets, hitems.tasks, hitems.parcels.congr fun m q _ => hs.left m q⟩
  rw [joinersOf_append, ← List.append_assoc, List.nil_append]
  refine hleft.join _ ?_
  unfold orderCancelled
  cases restore with
  | false => rfl
  | true =>
    have hopen := hs.unlocked rfl
    obtain ⟨hpatron, hwf⟩ := hs.run_patron h fun hc => hopen hc.1
    have hget := (cancelItems_patrons o n (r.taken s o) hpatron hwf).1
    have hq : ((r.taken s o).foldl (fun acc i => cancelItem o n i acc) t).patrons.get n = some
        { p.cancelled (goneItems s os).length (wishesAfter s n p true os) with
          held := (p.cancelled (goneItems s os).length (wishesAfter s n p true os)).held - (r.taken s o).length } := by
      rw [hget]
      exact Table.get_put_same ..
    simp only [if_true]
    rw [restoreEntries_eq hq hopen]
    rfl

theorem CancelStage.count (hs : CancelStage s n p restore os o r) :
    (goneItems s (os ++ [o])).length = (goneItems s os).length + (r.taken s o).length := by
  rw [goneItems_append, List.length_append, goneOf_eq hs.order.record]

/-- A patron whose record was freed has no item left to cancel. -/
theorem CancelStage.dead (hs : CancelStage s n p restore os o r)
    (hdead : p.state = .closing ∧ p.held ≤ (goneItems s os).length ∧ os ≠ []) :
    orderCancelled restore o n (r.taken s o) t = t ∧ r.taken s o = [] ∧ restore = false := by
  have hnone : r.taken s o = [] := List.length_eq_zero_iff.1 (by have := hs.held; omega)
  have hlocked : restore = false := by
    cases restore with
    | false => rfl
    | true => exact absurd hdead.1 (hs.unlocked rfl)
  subst hlocked
  rw [hnone]
  exact ⟨rfl, rfl, rfl⟩

/-- The patron, the total of held units and the titles once one more order's items were cancelled and its entries returned. -/
theorem CancelStage.people (hs : CancelStage s n p restore os o r) (h : CancelRun s t n p restore os)
    (hlive : ¬ (p.state = .closing ∧ p.held ≤ (goneItems s os).length ∧ os ≠ [])) :
    (orderCancelled restore o n (r.taken s o) t).patrons =
        s.patrons.put n (p.cancelled (goneItems s (os ++ [o])).length (wishesAfter s n p restore (os ++ [o])))
      ∧ (orderCancelled restore o n (r.taken s o) t).heldTotal = s.heldTotal - (goneItems s (os ++ [o])).length
      ∧ (orderCancelled restore o n (r.taken s o) t).titles = titlesAfter s n p restore (os ++ [o]) := by
  obtain ⟨hpatron, hwf⟩ := hs.run_patron h hlive
  obtain ⟨hpatrons, hheld⟩ := cancelItems_patrons o n (r.taken s o) hpatron hwf
  have htitles := cancelItems_titles o n (r.taken s o) t
  have hbase : t.patrons = s.patrons.put n (p.cancelled (goneItems s os).length (wishesAfter s n p restore os)) := by
    rw [h.patrons, if_neg hlive]
  have htotal : s.heldTotal - (goneItems s os).length - (r.taken s o).length =
      s.heldTotal - (goneItems s (os ++ [o])).length := by rw [hs.count, Nat.sub_sub]
  have hunits : p.held - (goneItems s os).length - (r.taken s o).length = p.held - (goneItems s (os ++ [o])).length := by
    rw [hs.count, Nat.sub_sub]
  rw [hbase, Table.put_put] at hpatrons
  rw [h.heldTotal, htotal] at hheld
  rw [h.titles] at htitles
  unfold orderCancelled
  cases restore with
  | false =>
    refine ⟨hpatrons.trans ?_, hheld, htitles⟩
    simp only [Patron.cancelled, hunits]
    rfl
  | true =>
    have hget : ((r.taken s o).foldl (fun acc i => cancelItem o n i acc) t).patrons.get n = some
        { p.cancelled (goneItems s os).length (wishesAfter s n p true os) with
          held := (p.cancelled (goneItems s os).length (wishesAfter s n p true os)).held - (r.taken s o).length } := by
      rw [hpatrons]
      exact Table.get_put_same ..
    simp only [if_true]
    rw [restoreEntries_eq hget (hs.unlocked rfl)]
    refine ⟨?_, hheld, ?_⟩
    · dsimp only
      rw [hpatrons, Table.put_put]
      simp only [Patron.cancelled, hunits, wishesAfter, if_true, restoredBy_append, goneOf_eq hs.order.record]
    · dsimp only
      rw [htitles]
      simp only [Patron.cancelled, titlesAfter, wishesAfter, if_true, restoredBy_append, goneOf_eq hs.order.record]

theorem restoreEntries_kept (n : Nat) (entries : List WishEntry) (u : State) :
    (restoreEntries n entries u).orders = u.orders ∧ (restoreEntries n entries u).pendingOffers = u.pendingOffers := by
  rw [restoreEntries_frame]
  exact ⟨rfl, rfl⟩

theorem CancelStage.records (hs : CancelStage s n p restore os o r) (h : CancelRun s t n p restore os) :
    (orderCancelled restore o n (r.taken s o) t).orders = t.orders.put o (r.cancelled s o) := by
  have hitems := cancelItems_orders o n (r.taken s o) (hs.run_record h) h.ordersWf
  rw [filter_places hs.places fun i hi => (taken_subset hi).1] at hitems
  unfold orderCancelled
  dsimp only
  split
  · rw [(restoreEntries_kept _ _ _).1]
    exact hitems
  · exact hitems

/-- An order with its items cancelled, before its group is released. -/
theorem CancelStage.cut (hs : CancelStage s n p restore os o r) (h : CancelRun s t n p restore os) :
    OrderCut s (orderCancelled restore o n (r.taken s o) t) os (releasedOrders s os) o r := by
  refine ⟨(hs.items h).parcels, hs.fresh, hs.unreleased, hs.grouped, hs.order, hs.kept, ?_⟩
  rw [hs.records h]
  exact Table.get_put_same ..

theorem CancelRun.only (h : CancelRun s t n p restore os) : OnlyCancelled s (orderCancelled restore o n (r.taken s o) t) := by
  refine h.frame.trans ((cancelItems_only o n (r.taken s o) t).trans ?_)
  unfold orderCancelled
  dsimp only
  split
  · rw [OnlyCancelled, restoreEntries_frame]
  · exact .refl _

/-- The pending offers once one more order was cancelled, where no title was written before. -/
theorem CancelStage.offers (hs : CancelStage s n p restore os o r) (h : CancelRun s t n p restore os)
    (hone : restore = false ∨ (os ++ [o]).length ≤ 1) :
    OffersAfter s (orderCancelled restore o n (r.taken s o) t) (goneItems s (os ++ [o])) := by
  have htitles : t.titles = s.titles := by
    rw [h.titles]
    rcases hone with hone | hone
    · rw [hone]
      rfl
    · rw [List.length_append, List.length_singleton] at hone
      have hnil : os = [] := List.length_eq_zero_iff.1 (by omega)
      rw [hnil, titlesAfter]
      split <;> rfl
  have hbefore := h.offers (hone.imp id fun hlen => by rw [List.length_append] at hlen; omega)
  have hitems := hbefore.items (n := n) (r.taken s o) h.items hs.sound hs.objects hs.claims htitles
  rw [goneItems_append, goneOf_eq hs.order.record]
  unfold orderCancelled
  dsimp only
  split
  · rw [OffersAfter, (restoreEntries_kept _ _ _).2]
    exact hitems
  · exact hitems

/-- The state that an order's settlement leaves where no loans are created: its group released, the order and the patron freed
where they are done (R121). -/
def settledQuietly (o n : Nat) (u : State) : State :=
  freeIfDone n (completeOrder o (releaseTogether o u))

theorem completeOrder_orders {u : State} {r' : Order} (h : u.orders.get o = some r') :
    (completeOrder o u).orders = if r'.items.all Item.dispatched = true then u.orders.del o else u.orders := by
  simp only [completeOrder, h]
  split <;> rfl

theorem freeIfDone_patrons {u : State} {q : Patron} (h : u.patrons.get n = some q) :
    (freeIfDone n u).patrons = if q.state = .closing ∧ q.held = 0 then u.patrons.del n else u.patrons := by
  simp only [freeIfDone, h]
  split <;> rfl

theorem settledQuietly_frame (o n : Nat) (u : State) :
    settledQuietly o n u = { u with
      parcels := (releaseTogether o u).parcels, dispatchQueue := (releaseTogether o u).dispatchQueue
      orders := (settledQuietly o n u).orders, patrons := (settledQuietly o n u).patrons } := by
  rw [settledQuietly, freeIfDone_frame, completeOrder_frame, releaseTogether_only]

theorem settledQuietly_orders {u : State} {r' : Order} (h : u.orders.get o = some r') :
    (settledQuietly o n u).orders = if r'.items.all Item.dispatched = true then u.orders.del o else u.orders := by
  have hsame : (releaseTogether o u).orders = u.orders := by rw [releaseTogether_only]
  have hget : (releaseTogether o u).orders.get o = some r' := by rw [hsame, h]
  rw [settledQuietly, freeIfDone_frame]
  dsimp only
  rw [completeOrder_orders hget, hsame]

theorem settledQuietly_patrons (u : State) : (settledQuietly o n u).patrons = (freeIfDone n u).patrons := by
  have hsame : (completeOrder o (releaseTogether o u)).patrons = u.patrons := by
    rw [completeOrder_frame, releaseTogether_only]
  simp only [settledQuietly, freeIfDone, hsame]
  split
  · split
    · rfl
    · exact hsame
  · exact hsame

/-- The records of the orders after one more of them. -/
theorem CancelStage.orders (hs : CancelStage s n p restore os o r) (h : CancelRun s t n p restore os) (x : Nat) :
    (settledQuietly o n (orderCancelled restore o n (r.taken s o) t)).orders.get x =
      if x ∈ os ++ [o] then (s.orders.get x).bind (orderLeft s x) else s.orders.get x := by
  rw [settledQuietly_orders (hs.cut h).record, hs.records h, Table.put_del]
  by_cases hx : x = o
  · subst hx
    have hmem : x ∈ os ++ [x] := by simp
    rw [if_pos hmem, hs.order.record, Option.bind_some, orderLeft]
    split
    · rename_i hall
      rw [Table.get_del_same]
      exact (if_pos hall).symm
    · rename_i hall
      rw [Table.get_put_same]
      exact (if_neg hall).symm
  · have hother : (if (r.cancelled s o).items.all Item.dispatched = true then t.orders.del o
        else t.orders.put o (r.cancelled s o)).get x = t.orders.get x := by
      split
      · exact Table.get_del_other _ hx
      · exact Table.get_put_other _ _ hx
    rw [hother, h.orders]
    simp only [List.mem_append, List.mem_singleton, hx, or_false]

/-- The patron's record after one more order. -/
theorem CancelStage.patrons (hs : CancelStage s n p restore os o r) (h : CancelRun s t n p restore os) :
    (settledQuietly o n (orderCancelled restore o n (r.taken s o) t)).patrons =
      if p.state = .closing ∧ p.held ≤ (goneItems s (os ++ [o])).length ∧ os ++ [o] ≠ [] then s.patrons.del n
      else s.patrons.put n (p.cancelled (goneItems s (os ++ [o])).length (wishesAfter s n p restore (os ++ [o]))) := by
  have hne : os ++ [o] ≠ [] := by simp
  rw [settledQuietly_patrons]
  by_cases hdead : p.state = .closing ∧ p.held ≤ (goneItems s os).length ∧ os ≠ []
  · obtain ⟨hsame, hnone, _⟩ := hs.dead (t := t) hdead
    have hpatrons : t.patrons = s.patrons.del n := by rw [h.patrons, if_pos hdead]
    have hmore : p.held ≤ (goneItems s (os ++ [o])).length := by
      rw [hs.count]
      omega
    rw [hsame, if_pos ⟨hdead.1, hmore, hne⟩]
    simp only [freeIfDone, hpatrons, Table.get_del_same]
  · obtain ⟨hpatrons, _, _⟩ := hs.people h hdead
    have hget : (orderCancelled restore o n (r.taken s o) t).patrons.get n =
        some (p.cancelled (goneItems s (os ++ [o])).length (wishesAfter s n p restore (os ++ [o]))) := by
      rw [hpatrons]
      exact Table.get_put_same ..
    rw [freeIfDone_patrons hget, hpatrons, Table.put_del]
    simp only [Patron.cancelled, Nat.sub_eq_zero_iff_le, hne, ne_eq, not_false_eq_true, and_true]

/-- One more order of the run, where its settlement creates no loans. -/
theorem CancelStage.step (hs : CancelStage s n p restore os o r) (h : CancelRun s t n p restore os) :
    CancelRun s (settledQuietly o n (orderCancelled restore o n (r.taken s o) t)) n p restore (os ++ [o]) := by
  have hitems := hs.items h
  have hparcels := (hs.cut h).released
  have horders := hs.orders h
  have hpatrons := hs.patrons h
  have hoffers := hs.offers h
  have hrecords := hs.records h
  have hjoins : ∀ o' g rg, os ++ [o] = [o'] → releases s o' = true →
      (∀ e ∈ s.parcels, e.2.order = o' → e.2.group = g) → s.groups.get g = some rg →
      JoinedAtTail { s with dispatchQueue := s.dispatchQueue.filter (fun m => !removes s (os ++ [o]) m) } rg.band
        (rg.parcels.filter (fun m => !removes s (os ++ [o]) m))
        (releaseTogether o (orderCancelled restore o n (r.taken s o) t)).dispatchQueue := by
    intro o' g rg hone hrel hg hrg
    obtain ⟨rfl, rfl⟩ : os = [] ∧ o = o' := by
      cases os with
      | nil => exact ⟨rfl, by simpa using hone⟩
      | cons a l => simp at hone
    refine (hs.cut h).joins hrel (fun x => by simp [releasedOrders]) hg hrg fun m q hq hqo => ?_
    exact hs.order.inGroup m q hq (by simpa using hqo)
  have hfinal := settledQuietly_orders (n := n) (hs.cut h).record
  have hpeople : (orderCancelled restore o n (r.taken s o) t).heldTotal = s.heldTotal - (goneItems s (os ++ [o])).length
      ∧ (orderCancelled restore o n (r.taken s o) t).titles = titlesAfter s n p restore (os ++ [o]) := by
    by_cases hdead : p.state = .closing ∧ p.held ≤ (goneItems s os).length ∧ os ≠ []
    · obtain ⟨hsame, hnone, hlocked⟩ := hs.dead (t := t) hdead
      rw [hsame, hs.count, hnone, h.heldTotal, h.titles, hlocked]
      exact ⟨rfl, rfl⟩
    · exact (hs.people h hdead).2
  have honly := h.only (o := o) (r := r)
  have hframe := settledQuietly_frame o n (orderCancelled restore o n (r.taken s o) t)
  rw [CancelStage.released] at hparcels
  generalize orderCancelled restore o n (r.taken s o) t = u at *
  have hwf : (settledQuietly o n u).orders.wf = true := by
    rw [hfinal, hrecords, Table.put_del]
    split
    · exact Table.wf_del h.ordersWf _
    · exact Table.wf_put h.ordersWf _ _
  refine ⟨⟨hitems.jobs.same ?_, hitems.carts.same ?_, hitems.sets.same ?_, hitems.tasks.same ?_, hparcels.same ?_⟩,
    fun hone => ?_, horders, hwf, hpatrons, ?_, ?_, fun o' g rg hone hrel hg hrg => ?_, honly.trans ?_⟩
  · rw [hframe]
  · rw [hframe]
  · rw [hframe]
  · rw [hframe]
  · rw [hframe, releaseTogether_only]
  · have hu := hoffers hone
    rw [OffersAfter, hframe]
    exact hu
  · rw [hframe]
    exact hpeople.1
  · rw [hframe]
    exact hpeople.2
  · rw [hframe]
    exact hjoins o' g rg hone hrel hg hrg
  · rw [OnlyCancelled, hframe]

end

end Sys2Proof.Machine
end

section
/-! SUPPORT. The run of a cancellation over a patron's orders (R119 to R121), and the groups whose loans it creates (R131). -/

namespace Sys2Proof.Machine

-- One declaration at a time: the check's memory does not hold many side by side.
set_option Elab.async false

/-! ### The records as the part keeps them -/

theorem CancelReady.grouped {s : State} {n : Nat} {os : List Nat} (h : CancelReady s n os) : Grouped s := by
  have hwf := h.tables
  simp only [State.tablesWf, Bool.and_eq_true] at hwf
  obtain ⟨⟨⟨_, hparcels⟩, hgroups⟩, _⟩ := hwf
  refine ⟨hparcels, hgroups, h.queue, fun g r hr => ?_⟩
  exact h.groups (g, r) (Table.mem_of_get hr)

theorem CancelReady.group_of {s : State} {n : Nat} {os : List Nat} (h : CancelReady s n os) {m : Nat} {p : Parcel}
    (hp : s.parcels.get m = some p) (ho : p.order ∈ os) : ∃ g, s.groups.get p.group = some g ∧ m ∈ g.parcels :=
  h.inGroup (m, p) (Table.mem_of_get hp) ho

theorem CancelReady.same_order {s : State} {n : Nat} {os : List Nat} (h : CancelReady s n os) {m m' : Nat} {p p' : Parcel}
    (hp : s.parcels.get m = some p) (hp' : s.parcels.get m' = some p') (hg : p.group = p'.group) : p.order = p'.order :=
  h.oneOrder (m, p) (Table.mem_of_get hp) (m', p') (Table.mem_of_get hp') hg

theorem goneOf_mem {s : State} {o : Nat} {i : Item} (h : i ∈ goneOf s o) :
    ∃ r, s.orders.get o = some r ∧ i ∈ r.taken s o := by
  unfold goneOf at h
  split at h
  · rename_i r hr
    exact ⟨r, hr, h⟩
  · cases h

/-- No two items that a cancellation takes share their object. -/
theorem CancelReady.objects_nodup {s : State} {n : Nat} {os : List Nat} (h : CancelReady s n os) :
    ((goneItems s os).map Item.object).Nodup := by
  have hshared : ∀ o ∈ os, ∀ o' ∈ os, ∀ i ∈ goneOf s o, ∀ i' ∈ goneOf s o',
      i.object = i'.object → o = o' ∧ i.place = i'.place := by
    intro o ho o' ho' i hi i' hi' heq
    obtain ⟨r, hr, hi⟩ := goneOf_mem hi
    obtain ⟨r', hr', hi'⟩ := goneOf_mem hi'
    exact h.objects o ho r hr i (taken_subset hi).1 (taken_subset hi).2 o' ho' r' hr' i' (taken_subset hi').1
      (taken_subset hi').2 heq
  rw [goneItems, List.map_flatMap, List.nodup_flatMap]
  constructor
  · intro o ho
    obtain ⟨r, hr, _, hplaces⟩ := h.orders.2 o ho
    have hpair : (goneOf s o).Pairwise (fun a b => a.place ≠ b.place) := by
      rw [goneOf_eq hr]
      exact hplaces.filter _
    exact List.pairwise_map.2 (hpair.imp_of_mem fun ha hb hne heq => hne (hshared o ho o ho _ ha _ hb heq).2)
  · refine h.orders.1.imp_of_mem fun ho ho' hne => ?_
    intro x hx hx'
    obtain ⟨i, hi, hxi⟩ := List.mem_map.1 hx
    obtain ⟨i', hi', hxi'⟩ := List.mem_map.1 hx'
    exact hne (hshared _ ho _ ho' i hi i' hi' (hxi.trans hxi'.symm)).1

/-- What the next order of a run asks is so where the records are as the part keeps them. -/
theorem CancelReady.stage {s : State} {n o : Nat} {p : Patron} {restore : Bool} {os before after : List Nat}
    (h : CancelReady s n os) (hos : os = before ++ o :: after) (hp : s.patrons.get n = some p)
    (hrestore : restore = true → p.state ≠ .closing) : ∃ r, CancelStage s n p restore before o r := by
  have hmem : o ∈ os := by simp [hos]
  obtain ⟨r, hr, hmine, hplaces⟩ := h.orders.2 o hmem
  have hwf := h.tables
  simp only [State.tablesWf, Bool.and_eq_true] at hwf
  obtain ⟨⟨⟨⟨⟨⟨⟨⟨⟨hpatrons, _⟩, _⟩, _⟩, _⟩, _⟩, htasks⟩, _⟩, _⟩, _⟩ := hwf
  have hsplit : goneItems s os = (goneItems s before ++ r.taken s o) ++ goneItems s after := by
    rw [hos, List.append_assoc, ← goneOf_eq hr]
    simp [goneItems]
  have hnodup := h.objects_nodup
  rw [hsplit, List.map_append] at hnodup
  refine ⟨r, h.grouped, htasks, h.tasks, fun m q cs hq hcs => h.serials (m, q) (Table.mem_of_get hq) cs hcs, hpatrons, hp,
    hrestore, fun ho => ?_, ⟨hr, fun m q hq ho => h.group_of hq (ho ▸ hmem), fun m q m' q' hq hq' hg => h.same_order hq hq' hg,
      fun ht m q m' q' hq hq' ho ho' => ?_⟩, hmine, hplaces, hnodup.of_append_left, fun i hi hopen hkept hshared => ?_,
    fun i hi k j hk hj hst => ?_, ?_⟩
  · have hone := h.orders.1
    rw [hos, List.nodup_append] at hone
    exact hone.2.2 o ho o (by simp) rfl
  · exact h.oneGroup o hmem r hr ht (m, q) (Table.mem_of_get hq) (m', q') (Table.mem_of_get hq') ho ho'
  · obtain ⟨i', hi', heq⟩ := List.mem_map.1 hshared
    have hplace := (h.objects o hmem r hr i hi hopen o hmem r hr i' (taken_subset hi').1 (taken_subset hi').2 heq.symm).2
    have hnodup' : (r.items.map Item.place).Nodup := List.pairwise_map.2 hplaces
    rw [List.inj_on_of_nodup_map hnodup' hi (taken_subset hi').1 hplace] at hkept
    exact hkept hi'
  · refine (h.noClaim j.cls).resolve_right fun hno => hno (k, j) ?_ rfl
    refine List.mem_filterMap.2 ⟨i, ?_, ?_⟩
    · rw [hsplit]
      exact List.mem_append_left _ (List.mem_append_right _ hi)
    · simp only [hk, hj, hst, if_true]
  · obtain ⟨p', hp', hheld⟩ := h.held
    rw [hp] at hp'
    cases hp'
    rw [hsplit, List.length_append, List.length_append] at hheld
    omega

/-! ### The groups whose loans are created -/

/-- The parcels of a group of order `o` that two cancellations with `o` leave are the same. -/
theorem leftIn_same {s : State} {os os' : List Nat} {o : Nat} {rg : DispatchGroup} (ho : o ∈ os) (ho' : o ∈ os')
    (hall : ∀ m ∈ rg.parcels, ∃ p, s.parcels.get m = some p ∧ p.order = o) :
    leftIn s (leftAt s os) rg = leftIn s (leftAt s os') rg := by
  refine List.filter_congr fun m hm => ?_
  obtain ⟨p, hp, hpo⟩ := hall m hm
  simp only [lost, hp, leftAt, leftOf_mem (hpo ▸ ho), leftOf_mem (hpo ▸ ho')]

section
variable {s u : State} {n o : Nat} {os : List Nat} {R : Nat → Bool}

/-- A group that the settlement of an order finds finished is one that the cancellation leaves with DISPATCHED parcels alone. -/
theorem finished_lastSent (h : CancelReady s n os) (ho : o ∈ os) {before : List Nat}
    (hu : ParcelsAfter s u (leftAt s (before ++ [o])) R) {g : Nat} (hg : g ∈ finishedGroups u o) : g ∈ lastSent s os := by
  obtain ⟨r', hr', htest⟩ := (Table.mem_select hu.groupsWf).1 hg
  simp only [Bool.and_eq_true, Bool.not_eq_true', beq_iff_eq, allDispatched, List.all_eq_true] at htest
  obtain ⟨⟨⟨hbegun, _⟩, hsent⟩, hhead⟩ := htest
  rw [hu.groups, Option.bind_eq_some_iff] at hr'
  obtain ⟨r, hr, hr'⟩ := hr'
  have hleft : r' = { r with parcels := leftIn s (leftAt s (before ++ [o])) r } := by
    rw [groupLeft] at hr'
    split at hr' <;> cases hr'
    rfl
  subst hleft
  obtain ⟨q0, hq0, hq0o⟩ := Option.map_eq_some_iff.1 hhead
  obtain ⟨m0, hm0, hq0⟩ := Option.bind_eq_some_iff.1 hq0
  obtain ⟨p0, c0, hp0, _, rfl⟩ := hu.get_iff.1 hq0
  have hm0 := List.mem_of_mem_head? hm0
  have hmembers := (h.grouped.members g r hr).2
  obtain ⟨p0', hp0', hgroup0⟩ := hmembers m0 (List.mem_of_mem_filter hm0)
  rw [hp0] at hp0'
  cases hp0'
  have hall : ∀ m ∈ r.parcels, ∃ p, s.parcels.get m = some p ∧ p.order = o := fun m hm => by
    obtain ⟨p, hp, hgroup⟩ := hmembers m hm
    exact ⟨p, hp, (h.same_order hp hp0 (hgroup.trans hgroup0.symm)).trans hq0o⟩
  have hsame := leftIn_same (s := s) (os := before ++ [o]) (os' := os) (by simp) ho hall
  refine (Table.mem_select h.grouped.groups).2 ⟨r, hr, ?_⟩
  have hlist : r.parcels.filter (fun m => !removes s os m) = leftIn s (leftAt s (before ++ [o])) r := hsame.symm
  simp only [hlist, Bool.and_eq_true, List.any_eq_true, List.all_eq_true, beq_iff_eq]
  refine ⟨⟨hbegun, m0, hm0, ?_⟩, fun m hm => ?_⟩
  · have horder : p0.order ∈ os := by
      have : p0.order = o := hq0o
      exact this ▸ ho
    simp [hp0, horder]
  · obtain ⟨q, hq, hst⟩ := Option.map_eq_some_iff.1 (hsent m hm)
    obtain ⟨p, c, hp, _, rfl⟩ := hu.get_iff.1 hq
    have hst' : p.state = .dispatched := by
      by_cases hR : R p.order = true
      · simp [hR] at hst
      · simpa [hR] using hst
    rw [hp, Option.map_some, hst']

/-- A begun group that the cancellation of one order leaves with DISPATCHED parcels alone is found finished. -/
theorem lastSent_finished (h : CancelReady s n [o]) {r : Order} (hr : s.orders.get o = some r)
    (hu : ParcelsAfter s u (leftAt s [o]) (releasedOrders s [o])) {g : Nat} (hg : g ∈ lastSent s [o]) :
    g ∈ finishedGroups u o := by
  obtain ⟨rg, hrg, htest⟩ := (Table.mem_select h.grouped.groups).1 hg
  simp only [Bool.and_eq_true, List.any_eq_true, List.all_eq_true, beq_iff_eq] at htest
  obtain ⟨⟨hbegun, m1, hm1, hany⟩, hsent⟩ := htest
  have hsent : ∀ m ∈ leftIn s (leftAt s [o]) rg, (s.parcels.get m).map Parcel.state = some .dispatched := hsent
  have hm1 : m1 ∈ leftIn s (leftAt s [o]) rg := hm1
  have hmembers := (h.grouped.members g rg hrg).2
  obtain ⟨p1, hp1, hgroup1⟩ := hmembers m1 (List.mem_of_mem_filter hm1)
  have hp1o : p1.order = o := by simpa [hp1] using hany
  have hunreleased : releases s o = false := by
    rw [← Bool.not_eq_true]
    intro hrel
    simp only [releases, hr, Bool.and_eq_true, beq_iff_eq, List.any_eq_true] at hrel
    obtain ⟨⟨ht, _⟩, e, he, ⟨heo, hst⟩, hleft⟩ := hrel
    have hget := Table.get_of_mem h.grouped.parcels he
    have hgroup : e.2.group = p1.group := h.oneGroup o (by simp) r hr ht e he (m1, p1) (Table.mem_of_get hp1) heo hp1o
    obtain ⟨rg', hrg', hin⟩ := h.group_of hget (by simp [heo])
    rw [hgroup, hgroup1, hrg] at hrg'
    cases hrg'
    have hlost : lost s (leftAt s [o]) e.1 = false := by
      simpa [lost, hget, leftAt] using hleft
    have hmem : e.1 ∈ leftIn s (leftAt s [o]) rg := List.mem_filter.2 ⟨hin, by rw [hlost]; rfl⟩
    have hdispatched := hsent e.1 hmem
    rw [hget, Option.map_some, hst] at hdispatched
    cases hdispatched
  have hR : ∀ x, releasedOrders s [o] x = false := fun x => by
    by_cases hx : x = o
    · simp [releasedOrders, hx, hunreleased]
    · simp [releasedOrders, hx]
  have hget : ∀ m ∈ leftIn s (leftAt s [o]) rg, ∃ p c, s.parcels.get m = some p ∧ p.order = o ∧ p.state = .dispatched
      ∧ u.parcels.get m = some { p with contents := c } := by
    intro m hm
    have hst := hsent m hm
    obtain ⟨hin, hkept⟩ := List.mem_filter.1 hm
    obtain ⟨p, hp, hgroup⟩ := hmembers m hin
    rw [hp, Option.map_some, Option.some.injEq] at hst
    simp only [lost, hp, Bool.not_eq_true', Option.isNone_eq_false_iff, Option.isSome_iff_exists] at hkept
    obtain ⟨c, hc⟩ := hkept
    refine ⟨p, c, hp, (h.same_order hp hp1 (hgroup.trans hgroup1.symm)).trans hp1o, hst, ?_⟩
    exact hu.get_iff.2 ⟨p, c, hp, hc, by rw [hR]; rfl⟩
  have hug : u.groups.get g = some { rg with parcels := leftIn s (leftAt s [o]) rg } := by
    rw [hu.groups, hrg, Option.bind_some, groupLeft]
    exact if_neg fun hn => List.ne_nil_of_mem hm1 hn.1
  refine (Table.mem_select hu.groupsWf).2 ⟨_, hug, ?_⟩
  simp only [Bool.and_eq_true, Bool.not_eq_true', beq_iff_eq, allDispatched, List.all_eq_true, hbegun, true_and]
  refine ⟨⟨?_, fun m hm => ?_⟩, ?_⟩
  · rw [← Bool.not_eq_true, List.isEmpty_iff]
    exact List.ne_nil_of_mem hm1
  · obtain ⟨p, c, _, _, hst, hm⟩ := hget m hm
    rw [parcelState, hm, Option.map_some, hst]
  · obtain ⟨m0, hm0⟩ : ∃ m0, (leftIn s (leftAt s [o]) rg).head? = some m0 :=
      Option.isSome_iff_exists.1 (List.isSome_head?.2 (List.ne_nil_of_mem hm1))
    obtain ⟨p, c, _, hpo, _, hm⟩ := hget m0 (List.mem_of_mem_head? hm0)
    rw [hm0, Option.bind_some, hm, Option.map_some, hpo]

theorem finishedGroups_nodup (hu : u.groups.wf = true) : (finishedGroups u o).Nodup :=
  Table.select_nodup hu _

/-- One order's one finished group. -/
theorem finishedGroups_single (h : CancelReady s n [o]) {r : Order} (hr : s.orders.get o = some r)
    (hu : ParcelsAfter s u (leftAt s [o]) (releasedOrders s [o])) {g : Nat} (hg : lastSent s [o] = [g]) :
    finishedGroups u o = [g] := by
  have hiff : ∀ x, x ∈ finishedGroups u o ↔ x ∈ [g] := fun x => by
    rw [← hg]
    exact ⟨fun hx => finished_lastSent h (by simp) (before := []) hu hx, lastSent_finished h hr hu⟩
  exact List.perm_singleton.1 ((List.perm_ext_iff_of_nodup (finishedGroups_nodup hu.groupsWf) (List.nodup_singleton g)).2 hiff)

end

/-! ### The run -/

theorem settleOrder_quiet {o n : Nat} {u : State} (h : finishedGroups (releaseTogether o u) o = []) :
    settleOrder o n u = settledQuietly o n u := by
  simp only [settleOrder, h, List.foldl_nil, settledQuietly]

/-- The counts that the cancellation of some orders answers with. -/
def cancelCounts (s : State) (os : List Nat) : List CancelCount :=
  os.map (fun o => ⟨o, (goneOf s o).length, (keptOf s o).length⟩)

/-- A run over the orders that are left, where no order's settlement creates loans. -/
theorem CancelRun.finish {s : State} {n : Nat} {p : Patron} {restore : Bool} {os : List Nat} (h : CancelReady s n os)
    (hp : s.patrons.get n = some p) (hrestore : restore = true → p.state ≠ .closing) (hsent : lastSent s os = [])
    (after : List Nat) {before : List Nat} {t : State} (hos : os = before ++ after) (ht : CancelRun s t n p restore before) :
    CancelRun s (cancelOrders restore after t).1 n p restore os ∧ (cancelOrders restore after t).2 = cancelCounts s after := by
  induction after generalizing before t with
  | nil =>
    rw [List.append_nil] at hos
    subst hos
    exact ⟨ht, rfl⟩
  | cons o after ih =>
    obtain ⟨r, hs⟩ := h.stage hos hp hrestore
    have hparcels := (hs.cut ht).released
    rw [CancelStage.released] at hparcels
    have hmem : o ∈ os := by simp [hos]
    have hnone : finishedGroups (releaseTogether o (orderCancelled restore o n (r.taken s o) t)) o = [] := by
      refine List.eq_nil_iff_forall_not_mem.2 fun g hg => ?_
      have := finished_lastSent h hmem hparcels hg
      rw [hsent] at this
      cases this
    have hone := hs.cancelOrder_eq ht
    rw [settleOrder_quiet hnone] at hone
    obtain ⟨hrun, hcounts⟩ := ih (before := before ++ [o]) (by simp [hos]) (hs.step ht)
    simp only [cancelOrders, hone, hcounts]
    exact ⟨hrun, rfl⟩

end Sys2Proof.Machine
end

section
/-! SUPPORT. What a run of cancellations leaves, as `Cancelled` says it (R120, R121), and its parcel backlog (R113). -/

namespace Sys2Proof.Machine

-- One declaration at a time: the check's memory does not hold many side by side.
set_option Elab.async false

/-- A run leaves what `Cancelled` describes. -/
theorem CancelRun.cancelled {s t : State} {n : Nat} {p : Patron} {restore : Bool} {os : List Nat}
    (h : CancelRun s t n p restore os) : Cancelled s t os := by
  have hframe := h.frame
  obtain ⟨hjobs, hcarts, hsets, htasks, hparcels⟩ := h.items
  refine ⟨h.orders, hjobs.jobs, hjobs.jobQueue, hjobs.starved, hjobs.reserved, hcarts.carts, hcarts.unwiped, hsets.copySets,
    htasks.tasks, htasks.pullQueue, fun m => ?_, hparcels.groups, fun hnone => hparcels.queue fun o => ?_, h.joins,
    hparcels.reservedCap, h.heldTotal, hjobs.marks, ?_⟩
  · rw [hparcels.parcels]
    simp only [releasedOrders, Bool.and_eq_true, decide_eq_true_iff]
    rfl
  · by_cases ho : o ∈ os
    · simp [releasedOrders, hnone o ho]
    · simp [releasedOrders, ho]
  · rw [OnlyCancelled] at hframe
    rw [hframe]
    exact ⟨rfl, rfl, rfl, rfl, rfl, rfl, rfl, rfl, rfl, rfl, rfl, rfl, rfl⟩

/-! ### The backlog -/

/-- The backlog is empty where every ready item that is not dispatched has its parcels (R113). -/
theorem backlog_eq_nil_iff (s : State) : backlog s = [] ↔
    ∀ e ∈ s.orders, ∀ i ∈ e.2.items, i.ready = true → i.dispatched = false → hasParcel s e.1 i := by
  have hband : ∀ e : Nat × Order, e.2.band = .urgent ∨ e.2.band = .normal := fun e => by cases e.2.band <;> simp
  simp only [backlog, List.append_eq_nil_iff, List.flatMap_eq_nil_iff, List.mem_filter, beq_iff_eq, List.map_eq_nil_iff,
    List.filter_eq_nil_iff, Bool.and_eq_true, Bool.not_eq_true', ← hasParcels_iff, and_imp]
  constructor
  · rintro ⟨hu, hn⟩ e he i hi hr hd
    have hone : ¬ (Machine.hasParcels s e.1 i = false) := fun hp =>
      (hband e).elim (fun hb => hu e he hb i hi ⟨⟨hr, hd⟩, hp⟩) (fun hb => hn e he hb i hi ⟨⟨hr, hd⟩, hp⟩)
    simpa using hone
  · intro h
    have hone : ∀ e ∈ s.orders, ∀ i ∈ e.2.items,
        ¬ ((i.ready = true ∧ i.dispatched = false) ∧ Machine.hasParcels s e.1 i = false) :=
      fun e he i hi ⟨⟨hr, hd⟩, hp⟩ => by
        have := h e he i hi hr hd
        rw [hp] at this
        cases this
    exact ⟨fun e he _ i hi => hone e he i hi, fun e he _ i hi => hone e he i hi⟩

/-- An item that a cancellation keeps shares its object with none that it takes. -/
theorem CancelReady.kept_object {s : State} {n o : Nat} {os : List Nat} (h : CancelReady s n os) (ho : o ∈ os) {r : Order}
    (hr : s.orders.get o = some r) {i : Item} (hi : i ∈ r.items) (hopen : i.dispatched = false) (hkept : i ∉ r.taken s o) :
    i.object ∉ (goneOf s o).map Item.object := by
  obtain ⟨before, after, hos⟩ := List.append_of_mem ho
  obtain ⟨p, hp, _⟩ := h.held
  obtain ⟨r', hs⟩ := h.stage (restore := false) hos hp (by simp)
  have hrr : r' = r := by
    have := hs.order.record
    rw [hr] at this
    exact (Option.some.inj this).symm
  subst hrr
  rw [goneOf_eq hr]
  exact hs.kept i hi hopen hkept

/-- An item that a run keeps has its parcels still. -/
theorem CancelRun.hasParcel {s t : State} {n : Nat} {p : Patron} {restore : Bool} {os : List Nat}
    (h : CancelReady s n os) (ht : CancelRun s t n p restore os) {o : Nat} {i : Item} (hp : hasParcel s o i)
    (hkept : o ∈ os → i.object ∉ (goneOf s o).map Item.object) :
    ∃ m q c, s.parcels.get m = some q ∧ q.order = o ∧ q.contents.holds i.object = true ∧ c.holds i.object = true
      ∧ t.parcels.get m = some { q with contents := c, state := if releasedOrders s os q.order then .ready else q.state } := by
  obtain ⟨e, he, heo, hx⟩ := hp
  have hget := Table.get_of_mem h.grouped.parcels he
  have hleft : ∃ c, leftAt s os e.1 e.2 = some c ∧ c.holds i.object = true := by
    by_cases ho : o ∈ os
    · obtain ⟨c, hc, hcx⟩ := without_of_holds hx (hkept ho)
      exact ⟨c, by rw [leftAt, leftOf_mem (heo ▸ ho), heo, hc], hcx⟩
    · exact ⟨e.2.contents, leftOf_not_mem (heo ▸ ho), hx⟩
  obtain ⟨c, hc, hcx⟩ := hleft
  exact ⟨e.1, e.2, c, hget, heo, hx, hcx, ht.items.parcels.get_iff.2 ⟨e.2, c, hget, hc, rfl⟩⟩

/-- A record that a run leaves of an order is the order's, with its kept and its dispatched items. -/
theorem CancelRun.record {s t : State} {n : Nat} {p : Patron} {restore : Bool} {os : List Nat}
    (ht : CancelRun s t n p restore os) {o : Nat} {r' : Order} (hr' : t.orders.get o = some r') :
    ∃ r, s.orders.get o = some r ∧ r'.items ⊆ r.items ∧ (o ∈ os → ∀ i ∈ r'.items, i ∉ r.taken s o) := by
  rw [ht.orders] at hr'
  by_cases ho : o ∈ os
  · rw [if_pos ho, Option.bind_eq_some_iff] at hr'
    obtain ⟨r, hr, hr'⟩ := hr'
    simp only [orderLeft] at hr'
    split at hr'
    · cases hr'
    · cases hr'
      exact ⟨r, hr, fun _ hi => (List.mem_filter.1 hi).1, fun _ i hi => by simpa using (List.mem_filter.1 hi).2⟩
  · rw [if_neg ho] at hr'
    exact ⟨r', hr', fun _ hi => hi, fun hin => absurd hin ho⟩

/-- A run that began with an empty parcel backlog leaves it empty. -/
theorem CancelRun.backlog_nil {s t : State} {n : Nat} {p : Patron} {restore : Bool} {os : List Nat} (h : CancelReady s n os)
    (ht : CancelRun s t n p restore os) (hb : backlog s = []) : backlog t = [] := by
  rw [backlog_eq_nil_iff] at hb ⊢
  intro e he i hi hr hd
  obtain ⟨r, hrec, hsub, hkept⟩ := ht.record (Table.get_of_mem ht.ordersWf he)
  have hbefore := hb (e.1, r) (Table.mem_of_get hrec) i (hsub hi) hr hd
  obtain ⟨m, q, c, _, hqo, _, hcx, hget⟩ := ht.hasParcel h hbefore fun ho => h.kept_object ho hrec (hsub hi) hd (hkept ho i hi)
  exact ⟨(m, _), Table.mem_of_get hget, hqo, hcx⟩

end Sys2Proof.Machine
end

section
/-! SUPPORT. The loans of a group whose parcels are all DISPATCHED (R131, R132), as `GroupLent` says them. -/

namespace Sys2Proof.Machine

-- One declaration at a time: the check's memory does not hold many side by side.
set_option Elab.async false

/-! ### One loan after another -/

/-- An item as its loan leaves it (R132). -/
def Item.lent (i : Item) : Item :=
  { i with dispatched := true, entries := [] }

/-- An order's record once some of its items became loans. -/
def Order.lent (r : Order) (is : List Item) : Order :=
  { r with items := r.items.map (fun i => if i ∈ is then i.lent else i) }

/-- The loans of some items of an order, made one after another with the next numbers (R131, R132). -/
structure LoansMade (s t : State) (o : Nat) (r : Order) (is : List Item) : Prop where
  loans : ∀ k i, is[k]? = some i → t.loans.get (s.counters.loan + k) = s.loanMade r.patron i
  otherLoans : ∀ m, m < s.counters.loan ∨ s.counters.loan + is.length ≤ m → t.loans.get m = s.loans.get m
  carts : ∀ serial, t.carts.get serial =
    match is.findIdx? (fun i => i.object == .cart serial) with
    | some k => (s.carts.get serial).map (fun c => { c with state := .onLoan (s.counters.loan + k) })
    | none => s.carts.get serial
  copySets : ∀ set, t.copySets.get set =
    match is.findIdx? (fun i => i.object == .copySet set) with
    | some k => (s.copySets.get set).map (fun c => { c with state := .onLoan (s.counters.loan + k) })
    | none => s.copySets.get set
  orders : t.orders = s.orders.put o (r.lent is)
  others : t = { s with
    loans := t.loans, carts := t.carts, copySets := t.copySets, orders := t.orders
    counters := { s.counters with loan := s.counters.loan + is.length } }

theorem lent_nil (r : Order) : r.lent [] = r := by
  simp [Order.lent]

theorem LoansMade.start {s : State} {o : Nat} {r : Order} (hwf : s.orders.wf = true) (hr : s.orders.get o = some r) :
    LoansMade s s o r [] := by
  refine ⟨fun k i hi => by simp at hi, fun _ _ => rfl, fun _ => rfl, fun _ => rfl, ?_, rfl⟩
  rw [lent_nil]
  exact (Table.put_self hwf hr).symm

/-- An item becomes a loan in the order's record. -/
theorem lent_append {r : Order} {is : List Item} {i : Item} (hplaces : r.items.Pairwise (fun a b => a.place ≠ b.place))
    (hi : i ∈ r.items) : (r.lent is).setItem i.place Item.lent = r.lent (is ++ [i]) := by
  have hnodup : (r.items.map Item.place).Nodup := List.pairwise_map.2 hplaces
  simp only [Order.setItem, Order.lent, List.map_map]
  refine congrArg (fun l => { r with items := l }) (List.map_congr_left fun x hx => ?_)
  have hplace : (if x ∈ is then x.lent else x).place = x.place := by split <;> rfl
  simp only [Function.comp_apply, hplace, List.mem_append, List.mem_singleton]
  by_cases hxi : x = i
  · subst hxi
    by_cases hin : x ∈ is <;> simp [hin, Item.lent]
  · have hne : ¬ x.place = i.place := fun heq => hxi (List.inj_on_of_nodup_map hnodup hx hi heq)
    simp only [if_neg hne, hxi, or_false]

/-- The state once an item became the loan numbered as the counter says. -/
theorem lendItem_eq {t : State} {o : Nat} {r : Order} {i : Item} {obj : LoanObject} (acc : List Nat)
    (hobj : loanObject i = some obj) (hfree : t.loans.get t.counters.loan = none) (hmax : t.counters.loan < 16777215) :
    lendItem o r i (t, acc) =
      (onItem o i.place Item.lent (lendObject t.counters.loan obj { t with
        loans := t.loans.put t.counters.loan
          { patron := r.patron, object := obj, term := termFor t.settings obj, daysLeft := termFor t.settings obj
            renewals := 0, state := .out }
        counters := { t.counters with loan := t.counters.loan + 1 } }), acc ++ [t.counters.loan]) := by
  simp only [lendItem, hobj, freshNumber_free hfree, nextNumber_eq, if_pos hmax]
  rfl

theorem loanMade_eq {s : State} {i : Item} {obj : LoanObject} (patron : Nat) (h : loanObject i = some obj) :
    s.loanMade patron i = some
      { patron := patron, object := obj, term := termFor s.settings obj, daysLeft := termFor s.settings obj
        renewals := 0, state := .out } := by
  cases hi : i.object <;> simp only [loanObject, hi, reduceCtorEq, Option.some.injEq] at h
  · subst h
    simp only [State.loanMade, hi]
    rfl
  · subst h
    simp only [State.loanMade, hi]
    rfl

theorem findIdx_single (p : Item → Bool) (is : List Item) (i : Item) :
    (is ++ [i]).findIdx? p = (is.findIdx? p).or (if p i then some is.length else none) := by
  rw [List.findIdx?_append]
  cases hp : p i <;> simp [List.findIdx?_cons, hp]

theorem findIdx_new {is : List Item} {x : ItemObject} (h : x ∉ is.map Item.object) :
    is.findIdx? (fun i => i.object == x) = none := by
  rw [List.findIdx?_eq_none_iff]
  intro i hi
  rw [beq_eq_false_iff_ne]
  exact fun heq => h (heq ▸ List.mem_map_of_mem hi)

theorem loanObject_cart {i : Item} {c : Nat} {titles : List Nat} (h : loanObject i = some (.cartridge c titles)) :
    i.object = .cart c := by
  cases hi : i.object <;> simp only [loanObject, hi, reduceCtorEq, Option.some.injEq, LoanObject.cartridge.injEq] at h
  rw [h.1]

theorem loanObject_set {i : Item} {k : Nat} (h : loanObject i = some (.copySet k)) : i.object = .copySet k := by
  cases hi : i.object <;> simp only [loanObject, hi, reduceCtorEq, Option.some.injEq, LoanObject.copySet.injEq] at h
  rw [h]

theorem or_none {α : Type} (a : Option α) : a.or none = a := by
  cases a <;> rfl

/-- One more item of the order becomes a loan. -/
theorem LoansMade.step {s t : State} {o : Nat} {r : Order} {is : List Item} {i : Item} {obj : LoanObject} (acc : List Nat)
    (h : LoansMade s t o r is) (hplaces : r.items.Pairwise (fun a b => a.place ≠ b.place)) (hi : i ∈ r.items)
    (hobj : loanObject i = some obj) (hnew : i.object ∉ is.map Item.object)
    (hroom : s.loans.get (s.counters.loan + is.length) = none) (hmax : s.counters.loan + is.length < 16777215) :
    LoansMade s (lendItem o r i (t, acc)).1 o r (is ++ [i]) := by
  have hcounters : t.counters = { s.counters with loan := s.counters.loan + is.length } := congrArg State.counters h.others
  have hsettings : t.settings = s.settings := by
    have hkept := congrArg State.settings h.others
    exact hkept
  have hcount : t.counters.loan = s.counters.loan + is.length := by rw [hcounters]
  have hfree : t.loans.get t.counters.loan = none := by
    rw [hcount, h.otherLoans _ (.inr le_rfl), hroom]
  have hget : t.orders.get o = some (r.lent is) := by
    rw [h.orders]
    exact Table.get_put_same ..
  have horders : t.orders.modify o (fun x => x.setItem i.place Item.lent) = s.orders.put o (r.lent (is ++ [i])) := by
    rw [Table.modify_some _ hget, lent_append hplaces hi, h.orders, Table.put_put]
  have hcarts := h.carts
  have hsets := h.copySets
  have hmade : ∀ u : State, u.loans = t.loans.put (s.counters.loan + is.length)
      { patron := r.patron, object := obj, term := termFor s.settings obj, daysLeft := termFor s.settings obj
        renewals := 0, state := .out } →
      (∀ k x, (is ++ [i])[k]? = some x → u.loans.get (s.counters.loan + k) = s.loanMade r.patron x)
        ∧ ∀ m, m < s.counters.loan ∨ s.counters.loan + (is ++ [i]).length ≤ m → u.loans.get m = s.loans.get m := by
    intro u hu
    rw [hu]
    constructor
    · intro k x hk
      by_cases hlast : k = is.length
      · subst hlast
        have hx : x = i := by simpa using hk.symm
        rw [hx, loanMade_eq r.patron hobj]
        exact Table.get_put_same ..
      · have hlt : k < is.length := by
          have hlen := (List.getElem?_eq_some_iff.1 hk).1
          rw [List.length_append, List.length_singleton] at hlen
          omega
        rw [List.getElem?_append_left hlt] at hk
        exact (Table.get_put_other _ _ (by omega)).trans (h.loans k x hk)
    · intro m hm
      rw [List.length_append, List.length_singleton] at hm
      exact (Table.get_put_other _ _ (by omega)).trans (h.otherLoans m (by omega))
  rw [lendItem_eq acc hobj hfree (by omega)]
  obtain ⟨hloans, hothers⟩ := hmade (onItem o i.place Item.lent (lendObject t.counters.loan obj { t with
    loans := t.loans.put t.counters.loan
      { patron := r.patron, object := obj, term := termFor t.settings obj, daysLeft := termFor t.settings obj
        renewals := 0, state := .out }
    counters := { t.counters with loan := t.counters.loan + 1 } })) (by
      rw [← hcount, ← hsettings]
      cases obj <;> rfl)
  have hrest := h.others
  have hnext : s.counters.loan + (is ++ [i]).length = t.counters.loan + 1 := by
    rw [List.length_append, List.length_singleton, hcount, Nat.add_assoc]
  cases obj with
  | cartridge c titles =>
    have hi : i.object = .cart c := loanObject_cart hobj
    refine ⟨hloans, hothers, fun serial => ?_, fun set => ?_, horders, ?_⟩
    · rw [findIdx_single, hi]
      refine (Table.get_modify ..).trans ?_
      by_cases hc : serial = c
      · subst hc
        have hbefore := h.carts serial
        rw [findIdx_new (hi ▸ hnew)] at hbefore ⊢
        rw [if_pos rfl, hbefore, hcount]
        simp
      · have hne : (ItemObject.cart c == ItemObject.cart serial) = false := by simp [Ne.symm hc]
        rw [if_neg hc, hne]
        simp only [Bool.false_eq_true, if_false, or_none]
        exact h.carts serial
    · rw [findIdx_single, hi]
      have hne : (ItemObject.cart c == ItemObject.copySet set) = false := rfl
      rw [hne]
      simp only [Bool.false_eq_true, if_false, or_none]
      exact h.copySets set
    · rw [hnext, hrest]
      rfl
  | copySet c =>
    have hi : i.object = .copySet c := loanObject_set hobj
    refine ⟨hloans, hothers, fun serial => ?_, fun set => ?_, horders, ?_⟩
    · rw [findIdx_single, hi]
      have hne : (ItemObject.copySet c == ItemObject.cart serial) = false := rfl
      rw [hne]
      simp only [Bool.false_eq_true, if_false, or_none]
      exact h.carts serial
    · rw [findIdx_single, hi]
      refine (Table.get_modify ..).trans ?_
      by_cases hc : set = c
      · subst hc
        have hbefore := h.copySets set
        rw [findIdx_new (hi ▸ hnew)] at hbefore ⊢
        rw [if_pos rfl, hbefore, hcount]
        simp
      · have hne : (ItemObject.copySet c == ItemObject.copySet set) = false := by simp [Ne.symm hc]
        rw [if_neg hc, hne]
        simp only [Bool.false_eq_true, if_false, or_none]
        exact h.copySets set
    · rw [hnext, hrest]
      rfl

/-- The loans of a list of items, with the numbers they take (R131). -/
theorem LoansMade.items {s : State} {o : Nat} {r : Order} (hplaces : r.items.Pairwise (fun a b => a.place ≠ b.place))
    (more : List Item) {is : List Item} {t : State} (acc : List Nat) (h : LoansMade s t o r is)
    (hmem : ∀ i ∈ more, i ∈ r.items ∧ ∃ obj, loanObject i = some obj) (hnew : ((is ++ more).map Item.object).Nodup)
    (hroom : loanRoom s (is ++ more).length) :
    LoansMade s (more.foldl (fun acc i => lendItem o r i acc) (t, acc)).1 o r (is ++ more) := by
  induction more generalizing is t acc with
  | nil => rwa [List.append_nil]
  | cons i more ih =>
    obtain ⟨hi, obj, hobj⟩ := hmem i List.mem_cons_self
    have hlen : (is ++ i :: more).length = is.length + (more.length + 1) := by simp
    have hfresh : i.object ∉ is.map Item.object := fun hin => by
      rw [List.map_append, List.nodup_append] at hnew
      exact hnew.2.2 _ hin _ (by simp) rfl
    have hone := h.step acc hplaces hi hobj hfresh (hroom.1 is.length (by omega)) (by
      have := hroom.2
      omega)
    rw [List.append_cons]
    rw [List.foldl_cons]
    exact ih (lendItem o r i (t, acc)).2 hone (fun x hx => hmem x (List.mem_cons_of_mem i hx))
      (by rwa [List.append_assoc]) (by rwa [List.append_assoc])

/-! ### The group's loans -/

theorem groupItems_eq {s : State} {o g : Nat} {r : Order} (hwf : s.parcels.wf = true) :
    groupItems s o r g = lentItems s o g r := by
  refine List.filter_congr fun i _ => ?_
  refine congrArg _ ?_
  rw [Bool.eq_iff_iff, List.any_eq_true, List.any_eq_true]
  constructor
  · rintro ⟨m, hm, hg⟩
    obtain ⟨p, hp, hmine⟩ := (Table.mem_select hwf).1 hm
    simp only [Bool.and_eq_true, beq_iff_eq] at hmine
    refine ⟨(m, p), Table.mem_of_get hp, ?_⟩
    rw [hp] at hg
    simpa [hmine.1, hmine.2] using hg
  · rintro ⟨e, he, hmine⟩
    simp only [Bool.and_eq_true, beq_iff_eq] at hmine
    obtain ⟨⟨ho, hg⟩, hx⟩ := hmine
    have hget := Table.get_of_mem hwf he
    exact ⟨e.1, (Table.mem_select hwf).2 ⟨e.2, hget, by simp [ho, hx]⟩, by simp [hget, hg]⟩

theorem lent_loanObject {s : State} {o g : Nat} {r : Order} {i : Item} (h : i ∈ lentItems s o g r) :
    i ∈ r.items ∧ i.dispatched = false ∧ ∃ obj, loanObject i = some obj := by
  simp only [lentItems, List.mem_filter, Bool.and_eq_true, Bool.not_eq_true', List.any_eq_true, beq_iff_eq] at h
  obtain ⟨hi, hopen, e, _, _, hx⟩ := h
  refine ⟨hi, hopen, ?_⟩
  cases ho : i.object with
  | job k =>
    rw [ho] at hx
    cases hc : e.2.contents <;> rw [hc] at hx <;> cases hx
  | cart serial => exact ⟨.cartridge serial (i.entries.map WishEntry.title), by simp only [loanObject, ho]⟩
  | copySet k => exact ⟨.copySet k, by simp only [loanObject, ho]⟩

/-- What the creation of a group's loans asks: the group and its order, each item once, and loan numbers (R131). -/
structure Lendable (s : State) (o g : Nat) (r : Order) (rg : DispatchGroup) : Prop where
  parcelsWf : s.parcels.wf = true
  ordersWf : s.orders.wf = true
  order : s.orders.get o = some r
  group : s.groups.get g = some rg
  head : ∃ m p, rg.parcels.head? = some m ∧ s.parcels.get m = some p ∧ p.order = o
  places : r.items.Pairwise (fun a b => a.place ≠ b.place)
  objects : ((lentItems s o g r).map Item.object).Nodup
  room : loanRoom s (lentItems s o g r).length

theorem Lendable.made {s : State} {o g : Nat} {r : Order} {rg : DispatchGroup} (h : Lendable s o g r rg) :
    ∃ t, (createLoans g s).1 = completeOrder o (freeGroup g rg.parcels t) ∧ LoansMade s t o r (lentItems s o g r) := by
  obtain ⟨m, p, hhead, hp, ho⟩ := h.head
  obtain ⟨rest, hparcels⟩ : ∃ rest, rg.parcels = m :: rest := by
    cases hrg : rg.parcels with
    | nil => simp [hrg] at hhead
    | cons a l =>
      rw [hrg, List.head?_cons, Option.some.injEq] at hhead
      exact ⟨l, by rw [hhead]⟩
  refine ⟨((lentItems s o g r).foldl (fun acc i => lendItem o r i acc) (s, [])).1, ?_, ?_⟩
  · simp only [createLoans, h.group, hparcels, hp, ho, h.order, groupItems_eq h.parcelsWf]
  · refine (LoansMade.start h.ordersWf h.order).items h.places _ [] (fun i hi => ?_) h.objects h.room
    obtain ⟨hmem, _, hobj⟩ := lent_loanObject hi
    exact ⟨hmem, hobj⟩

/-- What the creation of a group's loans leaves (R131, R132). -/
theorem Lendable.lent {s : State} {o g : Nat} {r : Order} {rg : DispatchGroup} (h : Lendable s o g r rg) :
    GroupLent s (createLoans g s).1 o g r rg := by
  obtain ⟨t, heq, hmade⟩ := h.made
  have hget : t.orders.get o = some (r.lent (lentItems s o g r)) := by
    rw [hmade.orders]
    exact Table.get_put_same ..
  have hall : (r.lent (lentItems s o g r)).items.all Item.dispatched = true ↔
      ∀ i ∈ r.items, i.dispatched = true ∨ i ∈ lentItems s o g r := by
    simp only [Order.lent, List.all_eq_true, List.forall_mem_map]
    refine forall₂_congr fun i _ => ?_
    by_cases hi : i ∈ lentItems s o g r
    · simp [hi, Item.lent]
    · simp [hi]
  have horders : (completeOrder o (freeGroup g rg.parcels t)).orders =
      if ∀ i ∈ r.items, i.dispatched = true ∨ i ∈ lentItems s o g r then s.orders.del o
      else s.orders.put o (r.lent (lentItems s o g r)) := by
    have hfreed : (freeGroup g rg.parcels t).orders.get o = some (r.lent (lentItems s o g r)) := hget
    rw [completeOrder_orders hfreed]
    simp only [hall]
    split
    · exact (congrArg (fun ts => Table.del ts o) hmade.orders).trans (Table.put_del ..)
    · exact hmade.orders
  have hframe := completeOrder_frame o (freeGroup g rg.parcels t)
  have hothers := hmade.others
  rw [heq]
  refine ⟨fun k i hi => ?_, fun m hm => ?_, fun serial => ?_, fun set => ?_, horders, ?_⟩
  · rw [hframe]
    exact hmade.loans k i hi
  · rw [hframe]
    exact hmade.otherLoans m hm
  · rw [hframe]
    exact hmade.carts serial
  · rw [hframe]
    exact hmade.copySets set
  · rw [hframe]
    generalize (completeOrder o (freeGroup g rg.parcels t)).orders = ts
    rw [freeGroup, hothers]

end Sys2Proof.Machine
end

section
/-! SUPPORT. The cancellation of one order that leaves a begun group with DISPATCHED parcels alone (R121, R131). -/

namespace Sys2Proof.Machine

-- One declaration at a time: the check's memory does not hold many side by side.
set_option Elab.async false

/-- The creation of loans neither reads nor writes the patrons, the titles and the pass queue's lists. -/
theorem GroupLent.people {s t : State} {o g : Nat} {r : Order} {rg : DispatchGroup} (h : GroupLent s t o g r rg)
    (P : Table Patron) (T : Table Title) (Q : List Nat) (B S : PerClass (List Nat)) :
    GroupLent { s with patrons := P, titles := T, passQueue := Q, blocked := B, stays := S }
      { t with patrons := P, titles := T, passQueue := Q, blocked := B, stays := S } o g r rg := by
  refine ⟨h.loans, h.otherLoans, h.carts, h.copySets, h.orders, ?_⟩
  exact congrArg (fun x : State => { x with patrons := P, titles := T, passQueue := Q, blocked := B, stays := S }) h.others

/-- An order whose group's loans were created is done, or has an item that is not dispatched. -/
theorem GroupLent.completeOrder {s t : State} {o g : Nat} {r : Order} {rg : DispatchGroup} (h : GroupLent s t o g r rg) :
    completeOrder o t = t := by
  have horders := h.orders
  by_cases hall : ∀ i ∈ r.items, i.dispatched = true ∨ i ∈ lentItems s o g r
  · rw [if_pos hall] at horders
    simp only [Machine.completeOrder, horders, Table.get_del_same]
  · rw [if_neg hall] at horders
    have hget : t.orders.get o = some (r.lent (lentItems s o g r)) := by
      rw [horders]
      exact Table.get_put_same ..
    have hopen : ¬ (r.lent (lentItems s o g r)).items.all Item.dispatched = true := fun hd => hall fun i hi => by
      by_cases hin : i ∈ lentItems s o g r
      · exact .inr hin
      · refine .inl (List.all_eq_true.1 hd i (List.mem_map.2 ⟨i, hi, if_neg hin⟩))
    simp only [Machine.completeOrder, hget, if_neg hopen]

theorem GroupLent.parcels {s t : State} {o g : Nat} {r : Order} {rg : DispatchGroup} (h : GroupLent s t o g r rg) :
    t.parcels = s.parcels.filter (fun e => e.1 ∉ rg.parcels) := by
  have hparcels := congrArg State.parcels h.others
  exact hparcels

/-- The creation of a group's loans leaves an empty parcel backlog empty. -/
theorem GroupLent.backlog_nil {s t : State} {o g : Nat} {r : Order} {rg : DispatchGroup} (h : GroupLent s t o g r rg)
    (hwf : s.orders.wf = true) (hpwf : s.parcels.wf = true) (hr : s.orders.get o = some r)
    (hmine : ∀ m ∈ rg.parcels, ∀ q, s.parcels.get m = some q → q.group = g ∧ q.order = o) (hb : backlog s = []) :
    backlog t = [] := by
  rw [backlog_eq_nil_iff] at hb ⊢
  have hstays : ∀ x ∈ s.parcels, x.2.group ≠ g ∨ x.2.order ≠ o → x ∈ t.parcels := by
    intro x hx hother
    rw [h.parcels]
    refine List.mem_filter.2 ⟨hx, ?_⟩
    have hout : x.1 ∉ rg.parcels := fun hin => by
      obtain ⟨hg, ho⟩ := hmine x.1 hin x.2 (Table.get_of_mem hpwf hx)
      exact hother.elim (fun hne => hne hg) fun hne => hne ho
    simpa using hout
  have horders := h.orders
  have htwf : t.orders.wf = true := by
    rw [horders]
    split
    · exact Table.wf_del hwf _
    · exact Table.wf_put hwf _ _
  intro e he i hi hready hopen
  have hget := Table.get_of_mem htwf he
  by_cases heo : e.1 = o
  · rw [heo, horders] at hget
    split at hget
    · rw [Table.get_del_same] at hget
      cases hget
    · rw [Table.get_put_same, Option.some.injEq] at hget
      rw [← hget, List.mem_map] at hi
      obtain ⟨x, hx, rfl⟩ := hi
      by_cases hlent : x ∈ lentItems s o g r
      · rw [if_pos hlent] at hopen
        cases hopen
      · rw [if_neg hlent] at hready hopen ⊢
        obtain ⟨y, hy, hyo, hyx⟩ := hb (o, r) (Table.mem_of_get hr) x hx hready hopen
        refine ⟨y, hstays y hy (.inl fun hyg => hlent ?_), hyo.trans heo.symm, hyx⟩
        refine List.mem_filter.2 ⟨hx, ?_⟩
        rw [hopen, Bool.not_false, Bool.true_and, List.any_eq_true]
        exact ⟨y, hy, by simp [show y.2.order = o from hyo, hyg, hyx]⟩
  · have hsame : t.orders.get e.1 = s.orders.get e.1 := by
      rw [horders]
      split
      · exact Table.get_del_other _ heo
      · exact Table.get_put_other _ _ heo
    rw [hsame] at hget
    obtain ⟨y, hy, hyo, hyx⟩ := hb (e.1, e.2) (Table.mem_of_get hget) i hi hready hopen
    exact ⟨y, hstays y hy (.inr fun hne => heo (hyo.symm.trans hne)), hyo, hyx⟩

theorem loanRoom_mono {s t : State} {k k' : Nat} (h : loanRoom s k) (hk : k' ≤ k) (hl : t.loans = s.loans)
    (hc : t.counters = s.counters) : loanRoom t k' := by
  refine ⟨fun m hm => ?_, ?_⟩
  · rw [hl, hc]
    exact h.1 m (by omega)
  · rw [hc]
    have := h.2
    omega

section
variable {s : State} {n o g : Nat} {p : Patron} {restore : Bool} {r : Order}

/-- The state before the loans of a cancelled order's finished group are created. -/
def beforeLoans (s : State) (restore : Bool) (o n : Nat) (r : Order) : State :=
  releaseTogether o (orderCancelled restore o n (r.taken s o) s)

theorem CancelStage.before (hs : CancelStage s n p restore [] o r) (h : CancelRun s s n p restore []) :
    (beforeLoans s restore o n r).orders.get o = some (r.cancelled s o) ∧ (beforeLoans s restore o n r).orders.wf = true := by
  have hsame : (beforeLoans s restore o n r).orders = (orderCancelled restore o n (r.taken s o) s).orders := by
    rw [beforeLoans, releaseTogether_only]
  rw [hsame, hs.records h]
  exact ⟨Table.get_put_same .., Table.wf_put h.ordersWf _ _⟩

/-- The loans of the finished group can be made. -/
theorem CancelReady.lendable (h : CancelReady s n [o]) (hs : CancelStage s n p restore [] o r)
    (hrun : CancelRun s s n p restore []) (hg : lastSent s [o] = [g]) (hroom : loanRoom s r.items.length) :
    ∃ rg, Lendable (beforeLoans s restore o n r) o g (r.cancelled s o) rg
      ∧ ParcelsAfter s (beforeLoans s restore o n r) (leftAt s [o]) (releasedOrders s [o])
      ∧ finishedGroups (beforeLoans s restore o n r) o = [g] := by
  have hparcels := (hs.cut hrun).released
  rw [CancelStage.released, List.nil_append] at hparcels
  have hfinished := finishedGroups_single h hs.order.record hparcels hg
  have hmem : g ∈ finishedGroups (beforeLoans s restore o n r) o := by
    rw [beforeLoans, hfinished]
    exact List.mem_singleton_self g
  obtain ⟨rg, hrg, htest⟩ := (Table.mem_select hparcels.groupsWf).1 hmem
  simp only [Bool.and_eq_true, beq_iff_eq] at htest
  obtain ⟨q, hq, hqo⟩ := Option.map_eq_some_iff.1 htest.2
  obtain ⟨m, hm, hget⟩ := Option.bind_eq_some_iff.1 hq
  obtain ⟨hrecord, hwf⟩ := hs.before hrun
  have honly := hrun.only (o := o) (r := r)
  have hkept : (beforeLoans s restore o n r).loans = s.loans ∧ (beforeLoans s restore o n r).counters = s.counters := by
    rw [beforeLoans, releaseTogether_only, honly]
    exact ⟨rfl, rfl⟩
  have hsub : (lentItems (beforeLoans s restore o n r) o g (r.cancelled s o)).Sublist r.items :=
    List.filter_sublist.trans List.filter_sublist
  refine ⟨rg, ⟨hparcels.parcelsWf, hwf, hrecord, hrg, ⟨m, q, hm, hget, hqo⟩, hs.places.filter _, ?_,
    loanRoom_mono hroom hsub.length_le hkept.1 hkept.2⟩, hparcels, hfinished⟩
  refine List.pairwise_map.2 ((hs.places.sublist hsub).imp_of_mem fun {a b} ha hb hne heq => hne ?_)
  obtain ⟨_, hopena, _⟩ := lent_loanObject ha
  obtain ⟨_, hopenb, _⟩ := lent_loanObject hb
  exact (h.objects o (by simp) r hs.order.record a (hsub.subset ha) hopena o (by simp) r hs.order.record b (hsub.subset hb)
    hopenb heq).2

/-- The parcels of the group are its own, and the order's. -/
theorem Lendable.members {w : State} {rg : DispatchGroup} {r' : Order} (hl : Lendable w o g r' rg) (h : CancelReady s n [o])
    (hw : ParcelsAfter s w (leftAt s [o]) (releasedOrders s [o])) :
    ∀ m ∈ rg.parcels, ∀ q, w.parcels.get m = some q → q.group = g ∧ q.order = o := by
  have hgroup := hl.group
  rw [hw.groups, Option.bind_eq_some_iff] at hgroup
  obtain ⟨r0, hr0, hleft⟩ := hgroup
  have hsub : ∀ m ∈ rg.parcels, m ∈ r0.parcels := by
    rw [groupLeft] at hleft
    split at hleft
    · cases hleft
    · cases hleft
      exact fun m hm => List.mem_of_mem_filter hm
  have hmember : ∀ m ∈ rg.parcels, ∀ q, w.parcels.get m = some q → ∃ q0, s.parcels.get m = some q0 ∧ q0.group = g
      ∧ q.group = g ∧ q.order = q0.order := by
    intro m hm q hq
    obtain ⟨q0, c, hq0, _, rfl⟩ := hw.get_iff.1 hq
    obtain ⟨q1, hq1, hg⟩ := (h.grouped.members g r0 hr0).2 m (hsub m hm)
    rw [hq0] at hq1
    cases hq1
    exact ⟨q0, hq0, hg, hg, rfl⟩
  obtain ⟨m0, q0, hhead, hq0, hq0o⟩ := hl.head
  obtain ⟨p0, hp0, hp0g, _, hp0o⟩ := hmember m0 (List.mem_of_mem_head? hhead) q0 hq0
  intro m hm q hq
  obtain ⟨p1, hp1, hp1g, hqg, hqo⟩ := hmember m hm q hq
  exact ⟨hqg, hqo.trans ((h.same_order hp1 hp0 (hp1g.trans hp0g.symm)).trans (hp0o.symm.trans hq0o))⟩

/-- The cancellation of the order, with the loans of its finished group: the run's state, and what the loans make of it. -/
theorem CancelReady.lends (h : CancelReady s n [o]) (hs : CancelStage s n p restore [] o r)
    (hrun : CancelRun s s n p restore []) (hg : lastSent s [o] = [g]) (hkept : keptOf s o ≠ [])
    (hroom : loanRoom s r.items.length) :
    ∃ t v r' rg, CancelRun s t n p restore [o] ∧ t.orders.get o = some r' ∧ t.groups.get g = some rg
      ∧ GroupLent t v o g r' rg ∧ cancelOrders restore [o] s = (v, cancelCounts s [o])
      ∧ (backlog s = [] → backlog v = []) := by
  obtain ⟨rg, hlend, hparcels, hfinished⟩ := h.lendable hs hrun hg hroom
  have hstep := hs.step hrun
  have horder := hs.cancelOrder_eq hrun
  have hopen : ¬ (r.cancelled s o).items.all Item.dispatched = true := by
    obtain ⟨i, hi⟩ := List.exists_mem_of_ne_nil _ hkept
    rw [keptOf_eq hs.order.record, List.mem_filter] at hi
    simp only [Bool.and_eq_true, Bool.not_eq_true', decide_eq_true_iff] at hi
    intro hall
    have := List.all_eq_true.1 hall i (mem_cancelled.2 ⟨hi.1, hi.2.2⟩)
    rw [hi.2.1] at this
    cases this
  have hquiet : completeOrder o (beforeLoans s restore o n r) = beforeLoans s restore o n r := by
    simp only [completeOrder, hlend.order, if_neg hopen]
  have hlent := hlend.lent
  have hrest := hlent.others
  have hpatrons : (freeIfDone n (createLoans g (beforeLoans s restore o n r)).1).patrons =
      (freeIfDone n (beforeLoans s restore o n r)).patrons := by
    have hsame := congrArg State.patrons hrest
    have hsame : (createLoans g (beforeLoans s restore o n r)).1.patrons = (beforeLoans s restore o n r).patrons := hsame
    simp only [freeIfDone, hsame]
    split
    · split
      · rfl
      · exact hsame
    · exact hsame
  have ht : settledQuietly o n (orderCancelled restore o n (r.taken s o) s) = freeIfDone n (beforeLoans s restore o n r) := by
    rw [settledQuietly]
    exact congrArg _ hquiet
  have hv : settleOrder o n (orderCancelled restore o n (r.taken s o) s) =
      freeIfDone n (createLoans g (beforeLoans s restore o n r)).1 := by
    have hfold : settleOrder o n (orderCancelled restore o n (r.taken s o) s) = freeIfDone n (completeOrder o
        ((finishedGroups (beforeLoans s restore o n r) o).foldl (fun acc g => (createLoans g acc).1)
          (beforeLoans s restore o n r))) := rfl
    rw [hfold, hfinished, List.foldl_cons, List.foldl_nil, hlent.completeOrder]
  have hmine := hlend.members h hparcels
  rw [ht] at hstep
  rw [hv] at horder
  generalize beforeLoans s restore o n r = w at *
  generalize (createLoans g w).1 = x at *
  have hgroup : GroupLent (freeIfDone n w) (freeIfDone n x) o g (r.cancelled s o) rg := by
    have hpeople := hlent.people (freeIfDone n w).patrons w.titles w.passQueue w.blocked w.stays
    have hx : freeIfDone n x = { x with
        patrons := (freeIfDone n w).patrons, titles := w.titles, passQueue := w.passQueue, blocked := w.blocked
        stays := w.stays } := by
      rw [freeIfDone_frame, hpatrons, hrest]
    rw [hx, freeIfDone_frame]
    exact hpeople
  have hkeeps := freeIfDone_frame n w
  have hw : (freeIfDone n w).orders = w.orders ∧ (freeIfDone n w).parcels = w.parcels
      ∧ (freeIfDone n w).groups = w.groups := by
    rw [hkeeps]
    exact ⟨rfl, rfl, rfl⟩
  have hfound : (freeIfDone n w).orders.get o = some (r.cancelled s o) := by rw [hw.1, hlend.order]
  refine ⟨freeIfDone n w, freeIfDone n x, r.cancelled s o, rg, hstep, hfound, ?_, hgroup, ?_, fun hb => ?_⟩
  · rw [hw.2.2, hlend.group]
  · simp only [cancelOrders, horder]
    rfl
  · refine hgroup.backlog_nil hstep.ordersWf hstep.items.parcels.parcelsWf hfound (fun m hm q hq => ?_)
      (hstep.backlog_nil h hb)
    rw [hw.2.1] at hq
    exact hmine m hm q hq

end

end Sys2Proof.Machine
end

section
/-! SUPPORT. ORDER-CANCEL of any orders (R119 to R121). -/

namespace Sys2Proof.Machine

-- One declaration at a time: the check's memory does not hold many side by side.
set_option Elab.async false

/-! ### The two ends of a cancellation -/

/-- A cancellation that creates no loans. -/
theorem CancelReady.runs {s : State} {n : Nat} {p : Patron} {restore : Bool} {os : List Nat} (h : CancelReady s n os)
    (hp : s.patrons.get n = some p) (hrestore : restore = true → p.state ≠ .closing) (hsent : lastSent s os = []) :
    ∃ t, CancelRun s t n p restore os ∧ cancelOrders restore os s = (t, cancelCounts s os)
      ∧ (backlog s = [] → backlog t = []) := by
  obtain ⟨hrun, hcounts⟩ := CancelRun.finish h hp hrestore hsent os (List.nil_append os).symm (.start h.tables hp restore)
  exact ⟨_, hrun, Prod.ext rfl hcounts, hrun.backlog_nil h⟩

/-- A cancellation of one order that creates the loans of a finished group. -/
theorem CancelReady.runs_lending {s : State} {n o g : Nat} {p : Patron} {restore : Bool} {r : Order} (h : CancelReady s n [o])
    (hp : s.patrons.get n = some p) (hrestore : restore = true → p.state ≠ .closing) (hg : lastSent s [o] = [g])
    (hkept : keptOf s o ≠ []) (hr : s.orders.get o = some r) (hroom : loanRoom s r.items.length) :
    ∃ t v r' rg, CancelRun s t n p restore [o] ∧ t.orders.get o = some r' ∧ t.groups.get g = some rg
      ∧ GroupLent t v o g r' rg ∧ cancelOrders restore [o] s = (v, cancelCounts s [o])
      ∧ (backlog s = [] → backlog v = []) := by
  obtain ⟨r1, hs⟩ := h.stage (before := []) (after := []) rfl hp hrestore
  have hrr : r1 = r := by
    have hrec := hs.order.record
    rw [hr] at hrec
    exact (Option.some.inj hrec).symm
  subst hrr
  exact h.lends hs (.start h.tables hp restore) hg hkept hroom

/-! ### The ports -/

theorem CancelReady.with_ports {s : State} {n : Nat} {os : List Nat} (h : CancelReady s n os) (P : PerLink Port) :
    CancelReady { s with ports := P } n os :=
  ⟨h.tables, h.held, h.orders, h.objects, h.tasks, h.serials, h.queue, h.inGroup, h.groups, h.oneOrder, h.oneGroup, h.noClaim⟩

theorem TailOf.of_ports {s : State} {P : PerLink Port} {b : Band} {front back : List Nat}
    (h : TailOf { s with ports := P } b front back) : TailOf s b front back :=
  ⟨h.parts, h.normal, h.urgent⟩

theorem Cancelled.of_ports {s t : State} {P : PerLink Port} {os : List Nat} (h : Cancelled { s with ports := P } t os) :
    Cancelled s t os := by
  refine ⟨h.orders, h.jobs, h.jobQueue, h.starved, h.reserved, h.carts, h.unwiped, h.copySets, h.tasks, h.pullQueue, h.parcels,
    h.groups, h.notReleased, fun o g r hos hrel hall hg => ?_, h.reservedCap, h.heldTotal, h.marks, h.others⟩
  obtain ⟨front, back, htail, hqueue⟩ := h.released o g r hos hrel hall hg
  exact ⟨front, back, ⟨htail.parts, htail.normal, htail.urgent⟩, hqueue⟩

theorem CancelRun.ports {s t : State} {n : Nat} {p : Patron} {restore : Bool} {os : List Nat}
    (h : CancelRun s t n p restore os) : t.ports = s.ports := by
  have hports := congrArg State.ports h.frame
  exact hports

theorem GroupLent.kept {s t : State} {o g : Nat} {r : Order} {rg : DispatchGroup} (h : GroupLent s t o g r rg) :
    t.ports = s.ports ∧ t.patrons = s.patrons := by
  have hports := congrArg State.ports h.others
  have hpatrons := congrArg State.patrons h.others
  exact ⟨hports, hpatrons⟩

theorem serveBacklog_kept (s : State) :
    (serveBacklog s).ports = s.ports ∧ (serveBacklog s).patrons = s.patrons ∧ (serveBacklog s).orders = s.orders := by
  have h := serveBacklog_frame s
  rw [OnlyParcels] at h
  rw [h]
  exact ⟨rfl, rfl, rfl⟩

/-- H once some of a patron's items were cancelled; 0 once its record is freed. -/
theorem CancelRun.held {s t : State} {n : Nat} {p : Patron} {restore : Bool} {os : List Nat}
    (h : CancelRun s t n p restore os) : heldOf t n = p.held - (goneItems s os).length := by
  rw [heldOf, h.patrons]
  split
  · rename_i hdead
    rw [Table.get_del_same, Nat.sub_eq_zero_of_le hdead.2.1]
    rfl
  · rw [Table.get_put_same]
    rfl

/-! ### The answer -/

theorem anyLeft_counts (s : State) (os : List Nat) : anyLeft (cancelCounts s os) = true ↔ os.flatMap (keptOf s) ≠ [] := by
  rw [anyLeft, cancelCounts, List.any_map, List.any_eq_true, ne_eq, List.flatMap_eq_nil_iff]
  simp only [Function.comp_apply, decide_eq_true_iff, List.length_pos_iff, ne_eq]
  push Not
  rfl

theorem cancelFields_counts (v s : State) (n : Nat) (os : List Nat) :
    cancelFields v n (cancelCounts s os) =
      os.flatMap (fun o => [f3 o, f2 (goneOf s o).length, f2 (keptOf s o).length, fFlag (v.orders.get o).isNone])
        ++ [f1 (heldOf v n)] := by
  rw [cancelFields, cancelCounts, List.flatMap_map]

theorem reads_orderCancel {n o flag : Nat} (h : Fits [2, 3, 1] [n, o, flag]) :
    ReadsFor n .order .orderCancel (writeFields [2, 3, 1] [n, o, flag]) (takeOrderCancel n o flag) :=
  readsFor_fields h (by decide) rfl (threeFields_writeFields _ h) fun _ => rfl

theorem takeOrderCancel_eq {s : State} {n o flag : Nat} {p : Patron} {os : List Nat} (hp : findPatron s n = some p)
    (hos : (o ≠ 0 ∧ os = [o]) ∨ (o = 0 ∧ os = s.orders.select (fun _ r => r.patron == n)))
    (hmine : o ≠ 0 → ∃ r, s.orders.get o = some r ∧ r.patron = n) :
    takeOrderCancel n o flag s =
      ⟨serveBacklog (cancelOrders (decide (flag ≠ 0 ∧ p.state ≠ .closing)) os s).1,
        if anyLeft (cancelOrders (decide (flag ≠ 0 ∧ p.state ≠ .closing)) os s).2 then .partly else .done,
        cancelFields (serveBacklog (cancelOrders (decide (flag ≠ 0 ∧ p.state ≠ .closing)) os s).1) n
          (cancelOrders (decide (flag ≠ 0 ∧ p.state ≠ .closing)) os s).2⟩ := by
  have hown : ¬ (o ≠ 0 ∧ (s.orders.get o).map Order.patron ≠ some n) := fun ⟨ho, hne⟩ => by
    obtain ⟨r, hr, hrn⟩ := hmine ho
    exact hne (by rw [hr, Option.map_some, hrn])
  have horders : (if o = 0 then ordersOf s n else [o]) = os := by
    rcases hos with ⟨ho, rfl⟩ | ⟨ho, rfl⟩
    · rw [if_neg ho]
    · rw [if_pos ho]
      rfl
  simp only [takeOrderCancel, hp, if_neg hown, horders, cancelAll]

end Sys2Proof.Machine
end

section
/-! SUPPORT. ORDER-CANCEL of any orders, as the obligation says it (R119 to R121). -/

namespace Sys2Proof.Machine

-- One declaration at a time: the check's memory does not hold many side by side.
set_option Elab.async false

/-- Whether ORDER-CANCEL returns the entries to the wish list (R121). -/
def restores (flag : Nat) (p : Patron) : Bool :=
  decide (flag ≠ 0 ∧ p.state ≠ .closing)

theorem restores_open {flag : Nat} {p : Patron} (h : restores flag p = true) : p.state ≠ .closing :=
  (of_decide_eq_true h).2

/-- ORDER-CANCEL's answer for some orders, where `v` holds the orders that are left. -/
def cancelAnswer (s v : State) (p : Patron) (os : List Nat) : Answer :=
  ⟨if os.flatMap (keptOf s) = [] then .done else .partly,
    os.flatMap (fun o => [f3 o, f2 (goneOf s o).length, f2 (keptOf s o).length, fFlag (v.orders.get o).isNone])
      ++ [f1 (p.held - (goneItems s os).length)]⟩

/-- The request as taken, where the cancellation ends in a known state. -/
theorem takeOrderCancel_ends {s v : State} {n o flag : Nat} {p : Patron} {os : List Nat} (hp : findPatron s n = some p)
    (hos : (o ≠ 0 ∧ os = [o]) ∨ (o = 0 ∧ os = s.orders.select (fun _ r => r.patron == n)))
    (hmine : o ≠ 0 → ∃ r, s.orders.get o = some r ∧ r.patron = n)
    (hrun : cancelOrders (restores flag p) os s = (v, cancelCounts s os)) (hports : v.ports = s.ports)
    (hheld : heldOf v n = p.held - (goneItems s os).length) :
    takeOrderCancel n o flag s = ⟨{ serveBacklog v with ports := s.ports }, cancelAnswer s v p os⟩ := by
  obtain ⟨hkept, hpatrons, horders⟩ := serveBacklog_kept v
  have hsame : ({ serveBacklog v with ports := s.ports } : State) = serveBacklog v := by
    rw [← hports, ← hkept]
  have hrun' : cancelOrders (decide (flag ≠ 0 ∧ p.state ≠ .closing)) os s = (v, cancelCounts s os) := hrun
  have hlast : heldOf (serveBacklog v) n = p.held - (goneItems s os).length := by
    rw [heldOf, hpatrons]
    exact hheld
  have houtcome : (if anyLeft (cancelCounts s os) = true then OutcomeCode.partly else .done) =
      if os.flatMap (keptOf s) = [] then .done else .partly := by
    simp only [anyLeft_counts, ne_eq, ite_not]
  rw [takeOrderCancel_eq hp hos hmine, hsame]
  simp only [hrun', cancelFields_counts, hlast, horders, houtcome]
  rfl

theorem CancelReady.units {s : State} {n : Nat} {p : Patron} {os : List Nat} (h : CancelReady s n os)
    (hp : s.patrons.get n = some p) : (goneItems s os).length ≤ p.held := by
  obtain ⟨q, hq, hheld⟩ := h.held
  rw [hp, Option.some.injEq] at hq
  exact hq ▸ hheld

theorem releasedBy_with_ports (s : State) (P : PerLink Port) (done items : List Item) :
    releasedBy { s with ports := P } done items = releasedBy s done items := by
  induction items generalizing done with
  | nil => rfl
  | cons i items ih =>
    simp only [releasedBy, ih]
    rfl

theorem joinersOf_with_ports (s : State) (P : PerLink Port) (n : Nat) (restore : Bool) (done : List Item) (os : List Nat) :
    joinersOf { s with ports := P } n restore done os = joinersOf s n restore done os := by
  induction os generalizing done with
  | nil => rfl
  | cons o os ih =>
    simp only [joinersOf, ih, releasedBy_with_ports]
    rfl

/-- The run of ORDER-CANCEL, part by part. -/
theorem CancelRun.orderCancelled {s t : State} {P : PerLink Port} {n o flag : Nat} {p : Patron} {os : List Nat}
    (h : CancelReady s n os) (hp : s.patrons.get n = some p) (hos : o ≠ 0 → os = [o])
    (ht : CancelRun { s with ports := P } t n p (restores flag p) os) :
    Cancelled s t os
    ∧ (p.state = .closing → p.held = (goneItems s os).length → os ≠ [] → t.patrons = s.patrons.del n)
    ∧ (p.state ≠ .closing ∨ p.held ≠ (goneItems s os).length → t.patrons = s.patrons.put n { p with
        held := p.held - (goneItems s os).length
        wishes := if flag ≠ 0 ∧ p.state ≠ .closing then (restoredBy s n os (p.wishes, s.titles)).1 else p.wishes })
    ∧ t.titles = (if flag ≠ 0 ∧ p.state ≠ .closing then (restoredBy s n os (p.wishes, s.titles)).2 else s.titles)
    ∧ (∀ c, t.blocked.get c = blockedAfter s os c ∧ t.stays.get c = staysAfter s os c)
    ∧ t.passQueue = passAfter s n (restores flag p) os
    ∧ (¬ (flag ≠ 0 ∧ p.state ≠ .closing) ∨ o ≠ 0 → t.pendingOffers = (offeredSets s os).foldl appendNew s.pendingOffers) := by
  have hunits := h.units hp
  have hpatrons := ht.patrons
  have htitles := ht.titles
  simp only [wishesAfter, titlesAfter, restores, decide_eq_true_iff] at hpatrons htitles
  refine ⟨ht.cancelled.of_ports, fun hc hheld hne => ?_, fun hlive => ?_, htitles,
    fun c => ⟨ht.items.jobs.blocked c, ht.items.jobs.stays c⟩, ?_, fun hone => ht.offers ?_⟩
  · exact hpatrons.trans (if_pos ⟨hc, hheld.le, hne⟩)
  · refine hpatrons.trans (if_neg ?_)
    rintro ⟨hc, hle, _⟩
    rcases hlive with hlive | hlive
    · exact hlive hc
    · exact hlive (hle.antisymm hunits)
  · rw [passAfter, ← joinersOf_with_ports s P]
    exact ht.items.jobs.passQueue
  · rcases hone with hone | hone
    · exact .inl (decide_eq_false hone)
    · exact .inr (by rw [hos hone]; exact le_rfl)

/-- ORDER-CANCEL where its cancellation ends in a known state, once the backlog is served. -/
theorem orderCancel_ends {tag : Half} {s v : State} {n o flag : Nat} {p : Patron} {os : List Nat} (hr : Ready .order s)
    (hf : Fits [2, 3, 1] [n, o, flag]) (hn : NoPassFor n s) (h1 : 1 ≤ n) (h2 : n ≤ 16384) (hp : s.patrons.get n = some p)
    (hos : (o ≠ 0 ∧ os = [o]) ∨ (o = 0 ∧ os = s.orders.select (fun _ r => r.patron == n)))
    (hmine : o ≠ 0 → ∃ r, s.orders.get o = some r ∧ r.patron = n)
    (hrun : cancelOrders (restores flag p) os (admitted .order tag Kind.orderCancel.code s) = (v, cancelCounts s os))
    (hports : v.ports = (admitted .order tag Kind.orderCancel.code s).ports)
    (hheld : heldOf v n = p.held - (goneItems s os).length) {u : State} (hu : serveBacklog v = u) :
    exec (.orderCancel .order tag (writeFields [2, 3, 1] [n, o, flag])) s =
      .next (s.after .order tag .orderCancel (cancelAnswer s v p os) [] u) := by
  refine congrArg Host.Outcome.next ((reads_orderCancel hf).after hr hn [] ?_)
  exact hu ▸ takeOrderCancel_ends (s := admitted .order tag Kind.orderCancel.code s) (findPatron_some h1 h2 hp) hos hmine
    hrun hports hheld

/-- The same, with the backlog served as `BacklogServed` says, or empty. -/
theorem orderCancel_served {tag : Half} {s v : State} {n o flag : Nat} {p : Patron} {os : List Nat} (hr : Ready .order s)
    (hf : Fits [2, 3, 1] [n, o, flag]) (hn : NoPassFor n s) (h1 : 1 ≤ n) (h2 : n ≤ 16384) (hp : s.patrons.get n = some p)
    (hos : (o ≠ 0 ∧ os = [o]) ∨ (o = 0 ∧ os = s.orders.select (fun _ r => r.patron == n)))
    (hmine : o ≠ 0 → ∃ r, s.orders.get o = some r ∧ r.patron = n)
    (hrun : cancelOrders (restores flag p) os (admitted .order tag Kind.orderCancel.code s) = (v, cancelCounts s os))
    (hports : v.ports = (admitted .order tag Kind.orderCancel.code s).ports)
    (hheld : heldOf v n = p.held - (goneItems s os).length) (hbacklog : backlog s = [] → backlog v = []) :
    (backlog s = [] → exec (.orderCancel .order tag (writeFields [2, 3, 1] [n, o, flag])) s =
      .next (s.after .order tag .orderCancel (cancelAnswer s v p os) [] v))
    ∧ ∀ u, BacklogServed v u → exec (.orderCancel .order tag (writeFields [2, 3, 1] [n, o, flag])) s =
      .next (s.after .order tag .orderCancel (cancelAnswer s v p os) [] u) :=
  ⟨fun hb => orderCancel_ends hr hf hn h1 h2 hp hos hmine hrun hports hheld (serveBacklog_nil (hbacklog hb)),
    fun _ hu => orderCancel_ends hr hf hn h1 h2 hp hos hmine hrun hports hheld (serveBacklog_served hu)⟩

theorem CancelReady.own_order {s : State} {n o : Nat} {os : List Nat} (h : CancelReady s n os) (hos : o ≠ 0 → os = [o]) :
    o ≠ 0 → ∃ r, s.orders.get o = some r ∧ r.patron = n := fun ho => by
  obtain ⟨r, hr, hmine, _⟩ := h.orders.2 o (by rw [hos ho]; exact List.mem_cons_self)
  exact ⟨r, hr, hmine⟩

/-! ### Orders of no record, and no orders -/

theorem takeOrderCancel_noSuch {s : State} {n : Nat} (o flag : Nat) (hp : findPatron s n = none) :
    takeOrderCancel n o flag s = refused s .noSuch := by
  simp only [takeOrderCancel, hp]

theorem takeOrderCancel_notMine {s : State} {n o : Nat} {p : Patron} (flag : Nat) (hp : findPatron s n = some p) (ho : o ≠ 0)
    (h : ∀ r, s.orders.get o = some r → r.patron ≠ n) : takeOrderCancel n o flag s = refused s .noSuch := by
  have hother : (s.orders.get o).map Order.patron ≠ some n := by
    cases hr : s.orders.get o with
    | none => exact nofun
    | some r => exact fun heq => h r hr (Option.some.inj heq)
  simp only [takeOrderCancel, hp, if_pos (And.intro ho hother)]

theorem ordersOf_nil {s : State} {n : Nat} (h : ∀ e ∈ s.orders, e.2.patron ≠ n) : ordersOf s n = [] := by
  rw [ordersOf, Table.select, List.map_eq_nil_iff, List.filter_eq_nil_iff]
  exact fun e he => by simpa using h e he

theorem cancelAll_nil {s : State} (restore : Bool) (h : backlog s = []) : cancelAll restore [] s = (s, []) := by
  simp only [cancelAll, cancelOrders, serveBacklog_nil h]

theorem takeOrderCancel_none {s : State} {n : Nat} {p : Patron} (flag : Nat) (hp : findPatron s n = some p)
    (hrecord : s.patrons.get n = some p) (h : ∀ e ∈ s.orders, e.2.patron ≠ n) (hb : backlog s = []) :
    takeOrderCancel n 0 flag s = ⟨s, .done, [f1 p.held]⟩ := by
  simp only [takeOrderCancel, hp, ne_eq, not_true_eq_false, false_and, if_false, if_true, ordersOf_nil h, cancelAll_nil _ hb,
    cancelFields, List.flatMap_nil, List.nil_append, heldOf, hrecord]
  rfl

end Sys2Proof.Machine
end

section
/-! SUPPORT. ORDER-CANCEL of an order of one undispatched item that has no parcel (R119 to R121). -/

namespace Sys2Proof.Machine

-- One declaration at a time: the check's memory does not hold many side by side.
set_option Elab.async false

/-! ### The order whole -/

section
variable {s : State} {n o : Nat} {r : Order} {p : Patron} {i : Item}

theorem itemParcels_none (x : ItemObject) (hno : ∀ e ∈ s.parcels, e.2.order ≠ o) : itemParcels s o x = [] := by
  rw [itemParcels, Table.select, List.map_eq_nil_iff, List.filter_eq_nil_iff]
  exact fun e he => by simp [hno e he]

theorem cutObject_none (x : ItemObject) (hno : ∀ e ∈ s.parcels, e.2.order ≠ o) : cutObject o x s = s := by
  cases x <;> simp only [cutObject, itemParcels_none _ hno, List.foldl_nil]

theorem cancelObject_parcels (x : ItemObject) (hno : ∀ e ∈ s.parcels, e.2.order ≠ o) :
    (cancelObject o x s).parcels = s.parcels := by
  cases x with
  | job k => rw [cancelObject, cancelJob_frame]
  | cart serial => rw [cancelObject_cart, toUnwiped_frame, cutObject_none _ hno]
  | copySet k => rw [cancelObject_set, makeAvailable_frame, freeTaskOfSet_frame, cutObject_none _ hno]

/-- Without a parcel of the order there is no group to release and none finished. -/
theorem settleOrder_unparcelled {u : State} {r' : Order} {q : Patron} (hr : u.orders.get o = some r') (hitems : r'.items = [])
    (hno : ∀ e ∈ u.parcels, e.2.order ≠ o) (hq : u.patrons.get n = some q) (hopen : q.state ≠ .closing) :
    settleOrder o n u = { u with orders := u.orders.del o } := by
  have hlive : liveGroup u o = none := by
    rw [liveGroup, List.find?_eq_none.2 fun e he => by simpa using hno e he]
    rfl
  have hrelease : releaseTogether o u = u := by
    simp only [releaseTogether, hr, hlive]
  have hfinished : finishedGroups u o = [] := by
    rw [finishedGroups, Table.select, List.map_eq_nil_iff, List.filter_eq_nil_iff]
    intro e _ h
    simp only [Bool.and_eq_true, beq_iff_eq, Option.map_eq_some_iff, Option.bind_eq_some_iff] at h
    obtain ⟨_, q, ⟨m, _, hm⟩, hqo⟩ := h
    exact hno (m, q) (Table.mem_of_get hm) hqo
  have hcomplete : completeOrder o u = { u with orders := u.orders.del o } := by
    simp only [completeOrder, hr, hitems, List.all_nil, if_true]
  simp only [settleOrder, hrelease, hfinished, List.foldl_nil, hcomplete]
  exact freeIfDone_open hq hopen

theorem cancelOrder_single (restore : Bool) (hr : s.orders.get o = some r) (hitems : r.items = [i])
    (hopen : i.dispatched = false) (hno : ∀ e ∈ s.parcels, e.2.order ≠ o) :
    cancelOrder restore o s = (settleOrder o r.patron (orderCancelled restore o r.patron [i] s), ⟨o, 1, 0⟩) := by
  have hgone : ([i].filter (fun i => !i.dispatched)).filter (cancellable s o) = [i] := by
    have hcan : cancellable s o i = true := by simp [cancellable, itemParcels_none _ hno]
    simp [hopen, hcan]
  have hleft : [i].filter (fun i => !i.dispatched) = [i] := by simp [hopen]
  simp only [cancelOrder, hr, hitems, hgone, orderCancelled]
  rw [hleft]
  rfl

/-- An order's one item cancelled. -/
theorem cancelItem_single {c : State} (hr : s.orders.get o = some r) (hitems : r.items = [i]) (hp : s.patrons.get n = some p)
    (hc : cancelObject o i.object s = c) :
    cancelItem o n i s = { c with
      orders := s.orders.put o { r with items := [] }
      patrons := s.patrons.put n { p with held := p.held - 1 }
      heldTotal := s.heldTotal - 1 } := by
  have horders : c.orders = s.orders := by rw [← hc, cancelObject_frame]
  have hpatrons : c.patrons = s.patrons := by rw [← hc, cancelObject_frame]
  have htotal : c.heldTotal = s.heldTotal := by rw [← hc, cancelObject_frame]
  have hdrop : r.dropItem i.place = { r with items := [] } := by simp [Order.dropItem, hitems]
  have hremove : removeItem o i.place c = { c with orders := s.orders.put o { r with items := [] } } := by
    rw [removeItem, horders, Table.modify_some _ hr, hdrop]
  rw [cancelItem, hc, hremove, lowerHeld_eq (p := p) 1 (hpatrons ▸ hp)]
  simp only [hpatrons, htotal]

/-- The order of one item is freed whole, H falling by 1 (R120, R121). -/
theorem cancelOrder_freed {c : State} (hr : s.orders.get o = some r) (hmine : r.patron = n) (hitems : r.items = [i])
    (hopen : i.dispatched = false) (hno : ∀ e ∈ s.parcels, e.2.order ≠ o) (hp : s.patrons.get n = some p)
    (hlive : p.state ≠ .closing) (hc : cancelObject o i.object s = c) :
    cancelOrder false o s = ({ c with
      orders := s.orders.del o
      patrons := s.patrons.put n { p with held := p.held - 1 }
      heldTotal := s.heldTotal - 1 }, ⟨o, 1, 0⟩) := by
  have hparcels : c.parcels = s.parcels := hc ▸ cancelObject_parcels _ hno
  have hone : orderCancelled false o n [i] s = _ := cancelItem_single hr hitems hp hc
  rw [cancelOrder_single false hr hitems hopen hno, hmine, hone]
  rw [settleOrder_unparcelled (r' := { r with items := [] }) (q := { p with held := p.held - 1 }) (Table.get_put_same ..) rfl
    (by rw [hparcels]; exact hno) (Table.get_put_same ..) hlive]
  simp only [Table.put_del]

/-- The same with the item's entries returned (R40, R121). -/
theorem cancelOrder_restored {c : State} (hr : s.orders.get o = some r) (hmine : r.patron = n) (hitems : r.items = [i])
    (hopen : i.dispatched = false) (hno : ∀ e ∈ s.parcels, e.2.order ≠ o) (hp : s.patrons.get n = some p)
    (hlive : p.state ≠ .closing) (hc : cancelObject o i.object s = c) :
    cancelOrder true o s = ({ c with
      orders := s.orders.del o
      patrons := s.patrons.put n { p with held := p.held - 1, wishes := entriesBack i.entries p.wishes }
      heldTotal := s.heldTotal - 1
      titles := titlesJoined n (i.entries.take (64 - p.wishes.length)) c.titles
      passQueue := appendNew c.passQueue n }, ⟨o, 1, 0⟩) := by
  have hparcels : c.parcels = s.parcels := hc ▸ cancelObject_parcels _ hno
  have hone : orderCancelled true o n [i] s = restoreEntries n ([i].flatMap Item.entries) (cancelItem o n i s) := rfl
  rw [cancelItem_single hr hitems hp hc, restoreEntries_eq (q := { p with held := p.held - 1 }) (Table.get_put_same ..) hlive]
    at hone
  rw [cancelOrder_single true hr hitems hopen hno, hmine, hone]
  rw [settleOrder_unparcelled (r' := { r with items := [] })
    (q := { p with held := p.held - 1, wishes := entriesBack ([i].flatMap Item.entries) p.wishes }) (Table.get_put_same ..) rfl
    (by exact hparcels ▸ hno) (Table.get_put_same ..) hlive]
  simp only [Table.put_del, Table.put_put, List.flatMap_cons, List.flatMap_nil, List.append_nil]

end

end Sys2Proof.Machine
end

section
/-! SUPPORT. An order's one item cancelled, by where it stands (R45, R50, R51, R72, R74, R120). -/

namespace Sys2Proof.Machine

-- One declaration at a time: the check's memory does not hold many side by side.
set_option Elab.async false

/-! ### The item's object -/

section
variable {s : State} {o : Nat}

theorem taskOfSet_eq {k tk : Nat} {t : PullTask} (htk : s.tasks.get tk = some t) (ht : t.copySet = k)
    (hall : ∀ e ∈ s.tasks, e.2.copySet = k → e.1 = tk) : taskOfSet s k = some tk := by
  have hmem : tk ∈ s.tasks.select (fun _ t => t.copySet == k) := by
    refine List.mem_map.2 ⟨(tk, t), List.mem_filter.2 ⟨Table.mem_of_get htk, ?_⟩, rfl⟩
    simpa using ht
  have hone : ∀ m ∈ s.tasks.select (fun _ t => t.copySet == k), m = tk := by
    intro m hm
    obtain ⟨e, he, rfl⟩ := List.mem_map.1 hm
    obtain ⟨he, hk⟩ := List.mem_filter.1 he
    exact hall e he (by simpa using hk)
  rw [taskOfSet]
  cases hl : s.tasks.select (fun _ t => t.copySet == k) with
  | nil => simp [hl] at hmem
  | cons m ms =>
    rw [List.head?_cons, hone m (by simp [hl])]

theorem cancelObject_reserved {k tk : Nat} {c : CopySet} {ti : Title} {t : PullTask}
    (hno : ∀ e ∈ s.parcels, e.2.order ≠ o) (hc : s.copySets.get k = some c) (hti : s.titles.get c.title = some ti)
    (htk : s.tasks.get tk = some t) (ht : t.copySet = k) (hall : ∀ e ∈ s.tasks, e.2.copySet = k → e.1 = tk) :
    cancelObject o (.copySet k) s = { s with
      copySets := s.copySets.put k { c with state := .available }
      tasks := s.tasks.del tk
      pullQueue := s.pullQueue.erase tk
      pendingOffers := if ti.waiting = [] ∨ k ∈ s.pendingOffers then s.pendingOffers else s.pendingOffers ++ [k] } := by
  have htask : freeTaskOfSet k s = freeTask tk s := by simp only [freeTaskOfSet, taskOfSet_eq htk ht hall]
  rw [cancelObject_set, cutObject_none _ hno, htask]
  exact makeAvailable_eq (s := freeTask tk s) hc hti

theorem cancelJob_assigned {job bay serial : Nat} {j : Job} (hj : s.jobs.get job = some j)
    (hst : j.state = .assigned bay serial) :
    cancelJob job s = { s with jobs := s.jobs.put job { j with state := .cancelPending bay serial } } := by
  simp only [cancelJob, hj, hst]
  rfl

/-- An event that releases no list and had no mark to clear leaves the lists as they are. -/
theorem releaseLists_none {s0 : State} (hdue : ∀ c, releaseDue s0 s c = false) (hmarks : s.marks = ⟨false, false, false⟩) :
    releaseLists s0 s = s := by
  have hsame : ({ s with marks := ⟨false, false, false⟩ } : State) = s := by rw [← hmarks]
  simp only [releaseLists, hdue, releaseIf, Bool.false_eq_true, if_false, hsame, ite_self]

theorem releaseDue_unmarked {s0 : State} {c : Cls} (hcrit : criticalHolds s0 c = true → criticalHolds s c = true)
    (hmarks : s.marks = ⟨false, false, false⟩) : releaseDue s0 s c = false := by
  have hmark : s.marks.get c = false := by cases c <;> rw [hmarks] <;> rfl
  rw [releaseDue, hmark, Bool.and_false, Bool.or_false]
  cases h : criticalHolds s0 c
  · rfl
  · rw [hcrit h]
    rfl

theorem criticalHolds_iff (c : Cls) : criticalHolds s c = true ↔ freeBlanks s c ≤ s.settings.critical.get c := by
  simp [criticalHolds]

theorem cancelJob_unclaimed {job : Nat} {j : Job} (hj : s.jobs.get job = some j) (hst : j.state = .queued)
    (hmarks : s.marks = ⟨false, false, false⟩) (hstarved : s.starved.get j.cls = [])
    (hcrit : (s.blank.get j.cls).length - s.reserved.get j.cls ≤ s.settings.critical.get j.cls →
      (s.blank.get j.cls).length - (s.reserved.get j.cls - 1) ≤ s.settings.critical.get j.cls) :
    cancelJob job s = { s with
      jobs := s.jobs.del job
      jobQueue := s.jobQueue.erase job
      reserved := s.reserved.set j.cls (s.reserved.get j.cls - 1) } := by
  rw [cancelJob_queued hj hst, claimStarved]
  simp only [hstarved]
  refine releaseLists_none (fun c => releaseDue_unmarked ?_ hmarks) hmarks
  rw [criticalHolds_iff, criticalHolds_iff]
  by_cases hc : c = j.cls
  · subst hc
    simp only [freeBlanks, PerClass.get_set_same]
    exact hcrit
  · simp only [freeBlanks, PerClass.get_set_other _ _ hc]
    exact id

theorem PerClass.set_get_self {α : Type} (l : PerClass α) (c : Cls) (v : α) : (l.set c v).set c (l.get c) = l := by
  cases c <;> rfl

/-- A starved job takes the blank that a cancelled job gives back: the class's reserved count stays (R74). -/
theorem claimStarved_given {job next : Nat} {more : List Nat} {c : Cls} {k : Job} (hstarved : s.starved.get c = next :: more)
    (hne : next ≠ job) (hk : s.jobs.get next = some k) (hcls : k.cls = c)
    (hfull : s.reserved.get c = (s.blank.get c).length) (hpos : 1 ≤ s.reserved.get c) {t : State}
    (ht : t = { s with jobs := (s.jobs.del job).put next { k with state := .queued }, starved := s.starved.set c more }) :
    claimStarved c { s with
      jobs := s.jobs.del job
      jobQueue := s.jobQueue.erase job
      reserved := s.reserved.set c (s.reserved.get c - 1) } =
      { t with jobQueue := insertBefore (jobBefore t) next (s.jobQueue.erase job) } := by
  have hget : (s.jobs.del job).get next = some k := (Table.get_del_other _ hne).trans hk
  have hfree : 0 < (s.blank.get c).length - (s.reserved.get c - 1) := by omega
  have hback : (s.reserved.set c (s.reserved.get c - 1)).set c (s.reserved.get c - 1 + 1) = s.reserved := by
    rw [Nat.sub_add_cancel hpos]
    exact PerClass.set_get_self ..
  subst ht
  simp only [claimStarved, hstarved, freeBlanks, PerClass.get_set_same, if_pos hfree, hget, queueWithBlank, reserveBlank,
    State.putJob, hcls, hback, enqueueJob]
  rfl

theorem cancelJob_claimed {job next : Nat} {more : List Nat} {j k : Job} (hj : s.jobs.get job = some j)
    (hst : j.state = .queued) (hmarks : s.marks = ⟨false, false, false⟩) (hstarved : s.starved.get j.cls = next :: more)
    (hne : next ≠ job) (hk : s.jobs.get next = some k) (hcls : k.cls = j.cls)
    (hfull : s.reserved.get j.cls = (s.blank.get j.cls).length) (hpos : 1 ≤ s.reserved.get j.cls) {t : State}
    (ht : t = { s with jobs := (s.jobs.del job).put next { k with state := .queued }, starved := s.starved.set j.cls more }) :
    cancelJob job s = { t with jobQueue := insertBefore (jobBefore t) next (s.jobQueue.erase job) } := by
  rw [cancelJob_queued hj hst, claimStarved_given hstarved hne hk hcls hfull hpos ht]
  subst ht
  exact releaseLists_none (fun c => releaseDue_unmarked id hmarks) hmarks

end

/-! ### No condition comes to hold -/

theorem dueNotices_nil {s0 s : State} (hwork : workWaitingDue s0 s = false) (hpull : pullWaitingDue s0 s = false)
    (hparcel : parcelWaitingDue s0 s = false) (hfree : ∀ c, freeBlanks s0 c ≤ freeBlanks s c)
    (hset : s.settings = s0.settings) : dueNotices s0 s = [] := by
  have hlow : ∀ c, (!lowHolds s0 c && lowHolds s c) = false := fun c => by
    have := hfree c
    simp only [lowHolds, hset, Bool.and_eq_false_iff, Bool.not_eq_false', decide_eq_true_iff, decide_eq_false_iff_not]
    omega
  have hcrit : ∀ c, (!criticalHolds s0 c && criticalHolds s c) = false := fun c => by
    have := hfree c
    simp only [criticalHolds, hset, Bool.and_eq_false_iff, Bool.not_eq_false', decide_eq_true_iff, decide_eq_false_iff_not]
    omega
  simp [dueNotices, dueIf, hwork, hpull, hparcel, hlow, hcrit]

end Sys2Proof.Machine
end

section
/-! SUPPORT. ORDER-CANCEL, settled (R119 to R121). -/

namespace Sys2Proof.Machine

-- One declaration at a time: the check's memory does not hold many side by side.
set_option Elab.async false

/-- The backlog stays empty where an order was freed and no parcel changed. -/
theorem backlog_nil_freed {s t : State} {o : Nat} (horders : t.orders = s.orders.del o) (hparcels : t.parcels = s.parcels)
    (hb : backlog s = []) : backlog t = [] := by
  rw [backlog_eq_nil_iff] at hb ⊢
  intro e he i hi hr hd
  rw [horders] at he
  obtain ⟨x, hx, hxo, hholds⟩ := hb e (List.mem_filter.1 he).1 i hi hr hd
  exact ⟨x, hparcels ▸ hx, hxo, hholds⟩

/-- ORDER-CANCEL of an order of one item that it takes. -/
theorem orderCancel_freed {tag : Half} {s s' : State} {n o flag : Nat} {p : Patron} {r : Order} (hr : Ready .order s)
    (hf : Fits [2, 3, 1] [n, o, flag]) (hn : NoPassFor n s) (h1 : 1 ≤ n) (h2 : n ≤ 16384) (hp : s.patrons.get n = some p)
    (ho : o ≠ 0) (hrec : s.orders.get o = some r) (hmine : r.patron = n) (hb : backlog s = [])
    (hrun : cancelOrder (restores flag p) o (admitted .order tag Kind.orderCancel.code s) =
      ({ s' with ports := (admitted .order tag Kind.orderCancel.code s).ports }, ⟨o, 1, 0⟩))
    (horders : s'.orders = s.orders.del o) (hparcels : s'.parcels = s.parcels)
    (hheld : ∃ q, s'.patrons.get n = some q ∧ q.held = p.held - 1)
    (hdue : dueNotices s s' = []) :
    exec (.orderCancel .order tag (writeFields [2, 3, 1] [n, o, flag])) s =
      .next (s.reply .order tag .orderCancel ⟨.done, [f3 o, f2 1, f2 0, f1 1, f1 (p.held - 1)]⟩ s') := by
  refine congrArg Host.Outcome.next (((reads_orderCancel hf).after hr hn [] (s' := s') ?_).trans
    (after_quiet .order tag .orderCancel _ hdue))
  refine (takeOrderCancel_eq (s := admitted .order tag Kind.orderCancel.code s) (os := [o]) (findPatron_some h1 h2 hp)
    (.inl ⟨ho, rfl⟩) fun _ => ⟨r, hrec, hmine⟩).trans ?_
  have hrun' : cancelOrders (decide (flag ≠ 0 ∧ p.state ≠ .closing)) [o] (admitted .order tag Kind.orderCancel.code s) =
      ({ s' with ports := (admitted .order tag Kind.orderCancel.code s).ports }, [⟨o, 1, 0⟩]) := by
    simp only [cancelOrders, show cancelOrder (decide (flag ≠ 0 ∧ p.state ≠ .closing)) o _ = _ from hrun]
  have hserved : serveBacklog { s' with ports := (admitted .order tag Kind.orderCancel.code s).ports } =
      { s' with ports := (admitted .order tag Kind.orderCancel.code s).ports } :=
    serveBacklog_nil (backlog_nil_freed (s := s) horders hparcels hb)
  have hgone : s'.orders.get o = none := horders ▸ Table.get_del_same ..
  have hfields : cancelFields { s' with ports := (admitted .order tag Kind.orderCancel.code s).ports } n [⟨o, 1, 0⟩] =
      [f3 o, f2 1, f2 0, f1 1, f1 (p.held - 1)] := by
    have hlast : heldOf { s' with ports := (admitted .order tag Kind.orderCancel.code s).ports } n = p.held - 1 := by
      obtain ⟨q, hq, hheld⟩ := hheld
      rw [heldOf, hq]
      exact hheld
    simp only [cancelFields, List.flatMap_cons, List.flatMap_nil, hgone, hlast]
    rfl
  rw [hrun', hserved, hfields]
  rfl

theorem hasQueuedTask_del {s t : State} {k : Nat} (h : t.tasks = s.tasks.del k) : pullWaitingDue s t = false := by
  rw [pullWaitingDue]
  cases ht : hasQueuedTask t with
  | false => rw [Bool.and_false]
  | true =>
    obtain ⟨e, he, hst⟩ := List.any_eq_true.1 ht
    rw [h] at he
    rw [hasQueuedTask, List.any_eq_true.2 ⟨e, (List.mem_filter.1 he).1, hst⟩]
    rfl

theorem workWaitingDue_erase {s t : State} {k : Nat} (hq : t.jobQueue = s.jobQueue.erase k) (hu : t.unwiped = s.unwiped) :
    workWaitingDue s t = false := by
  have hkept : s.jobQueue = [] → t.jobQueue = [] := fun h => by rw [hq, h]; rfl
  rw [workWaitingDue, hu]
  cases h : s.jobQueue with
  | nil => simp [hkept h]
  | cons a l => simp

theorem workWaitingDue_live {s t : State} {k : Nat} (hk : k ∈ s.jobQueue) (hu : t.unwiped = s.unwiped) :
    workWaitingDue s t = false := by
  have hne : s.jobQueue.isEmpty = false := by
    rw [List.isEmpty_eq_false_iff]
    exact List.ne_nil_of_mem hk
  rw [workWaitingDue, hu, hne]
  simp

theorem workWaitingDue_same {s t : State} (hq : t.jobQueue = s.jobQueue) (hu : t.unwiped = s.unwiped) :
    workWaitingDue s t = false := by
  rw [workWaitingDue, hq, hu]
  simp

theorem pullWaitingDue_same {s t : State} (h : t.tasks = s.tasks) : pullWaitingDue s t = false := by
  rw [pullWaitingDue, hasQueuedTask, hasQueuedTask, h, Bool.not_and_self]

theorem parcelWaitingDue_same {s t : State} (h : t.parcels = s.parcels) (hq : t.dispatchQueue = s.dispatchQueue) :
    parcelWaitingDue s t = false := by
  simp [parcelWaitingDue, hasReadyParcel, parcelState, h, hq]

/-- A reservation given back leaves no class fewer free blanks. -/
theorem freeBlanks_given {s t : State} {c : Cls} (hblank : t.blank = s.blank)
    (hres : t.reserved = s.reserved.set c (s.reserved.get c - 1)) (d : Cls) : freeBlanks s d ≤ freeBlanks t d := by
  rw [freeBlanks, freeBlanks, hblank, hres]
  by_cases hd : d = c
  · subst hd
    rw [PerClass.get_set_same]
    omega
  · rw [PerClass.get_set_other _ _ hd]

theorem entriesBack_one {w : WishEntry} {us ns : List WishEntry} (hlen : (us ++ ns).length < 64)
    (hus : ∀ x ∈ us, x.band = .urgent) (hns : ∀ x ∈ ns, x.band = .normal) :
    entriesBack [w] (us ++ ns) = if w.band = .urgent then w :: us ++ ns else us ++ w :: ns := by
  have htaken : [w].take (64 - (us ++ ns).length) = [w] := List.take_of_length_le (by simp only [List.length_singleton]; omega)
  have huu : us.filter (fun x => x.band == .urgent) = us := List.filter_eq_self.2 fun x hx => by simp [hus x hx]
  have hun : us.filter (fun x => x.band == .normal) = [] := List.filter_eq_nil_iff.2 fun x hx => by simp [hus x hx]
  have hnu : ns.filter (fun x => x.band == .urgent) = [] := List.filter_eq_nil_iff.2 fun x hx => by simp [hns x hx]
  have hnn : ns.filter (fun x => x.band == .normal) = ns := List.filter_eq_self.2 fun x hx => by simp [hns x hx]
  simp only [entriesBack, htaken, List.filter_append, huu, hun, hnu, hnn]
  cases hw : w.band <;> simp [hw]

theorem restores_zero (p : Patron) : restores 0 p = false :=
  decide_eq_false fun h => h.1 rfl

theorem restores_live {flag : Nat} {p : Patron} (hflag : flag ≠ 0) (hlive : p.state ≠ .closing) : restores flag p = true :=
  decide_eq_true ⟨hflag, hlive⟩

/-- Settles O51, by the run over the orders; the order of one item, by where that item stands. The clauses of any orders and of a
begun group stand in the scope of the one-item hypotheses, which the last one contradicts. -/
theorem orderCancel : Obligations.OrderCancel := by
  intro tag s n o flag hr hf hn
  refine ⟨fun h => congrArg Host.Outcome.next
    ((reads_orderCancel hf).answers hr hn (takeOrderCancel_noSuch o flag (findPatron_none h))), fun p h1 h2 hp => ?_⟩
  have hfind := findPatron_some (s := admitted .order tag Kind.orderCancel.code s) h1 h2 hp
  refine ⟨fun ho h => congrArg Host.Outcome.next
      ((reads_orderCancel hf).answers hr hn (takeOrderCancel_notMine flag hfind ho h)),
    fun ho h hb => ?_, fun r i w ho hrec hmine hitems hopen hentries hno hb hlive => ?_⟩
  · subst ho
    exact congrArg Host.Outcome.next ((reads_orderCancel hf).answers hr hn (takeOrderCancel_none flag hfind hp h hb))
  have hfreed : ∀ c x, flag = 0 → i.object = x → cancelObject o x (admitted .order tag Kind.orderCancel.code s) = c →
      cancelOrder (restores flag p) o (admitted .order tag Kind.orderCancel.code s) = ({ c with
        orders := s.orders.del o
        patrons := s.patrons.put n { p with held := p.held - 1 }
        heldTotal := s.heldTotal - 1 }, ⟨o, 1, 0⟩) := fun c x hzero hx hc => by
    rw [hzero, restores_zero]
    exact cancelOrder_freed (s := admitted .order tag Kind.orderCancel.code s) hrec hmine hitems hopen hno hp hlive
      (hx ▸ hc)
  refine ⟨fun k c ti tk t hi hc hst ht htk htask hall => ⟨fun hflag => ?_, fun hflag hw hwt hlen us ns hws hus hns => ?_⟩,
    fun job j bay serial hflag hi hj hst => ?_, fun job j hflag hi hj hst hmarks hstarved hcrit => ?_,
    fun job j next more k hflag hi hj hst hmarks hstarved hne hin hk hcls hfull hpos => ?_, fun os hos h => ?_, ?_⟩
  · exact orderCancel_freed hr hf hn h1 h2 hp ho hrec hmine hb
      (hfreed _ _ hflag hi (cancelObject_reserved (s := admitted .order tag Kind.orderCancel.code s) hno hc ht
        htk htask hall)) rfl rfl ⟨_, Table.get_put_same .., rfl⟩
      (dueNotices_nil (workWaitingDue_same rfl rfl) (hasQueuedTask_del rfl) (parcelWaitingDue_same rfl rfl)
        (fun _ => le_rfl) rfl)
  · have htitle : titlesJoined n ([w].take (64 - p.wishes.length)) s.titles =
        s.titles.put c.title { ti with waiting := n :: ti.waiting.erase n } := by
      rw [titlesJoined_single hw (hwt ▸ ht) (by omega), hwt]
    have hwishes : entriesBack [w] p.wishes = if w.band = .urgent then w :: us ++ ns else us ++ w :: ns := by
      rw [hws] at hlen ⊢
      exact entriesBack_one hlen hus hns
    have hobject := cancelObject_reserved (s := admitted .order tag Kind.orderCancel.code s) hno hc ht htk htask hall
    have hrun := cancelOrder_restored (s := admitted .order tag Kind.orderCancel.code s) hrec hmine hitems hopen hno hp hlive
      (hi ▸ hobject)
    rw [← restores_live hflag hlive, hentries, hwishes] at hrun
    refine orderCancel_freed hr hf hn h1 h2 hp ho hrec hmine hb (hrun.trans ?_) rfl rfl ⟨_, Table.get_put_same .., rfl⟩
      (dueNotices_nil (workWaitingDue_same rfl rfl) (hasQueuedTask_del rfl) (parcelWaitingDue_same rfl rfl)
        (fun _ => le_rfl) rfl)
    rw [← htitle]
    rfl
  · exact orderCancel_freed hr hf hn h1 h2 hp ho hrec hmine hb
      (hfreed _ _ hflag hi (cancelJob_assigned (s := admitted .order tag Kind.orderCancel.code s) hj hst)) rfl rfl
      ⟨_, Table.get_put_same .., rfl⟩ (dueNotices_quiet ⟨rfl, rfl, rfl, rfl, rfl, rfl, rfl, rfl, rfl⟩)
  · exact orderCancel_freed hr hf hn h1 h2 hp ho hrec hmine hb
      (hfreed _ _ hflag hi (cancelJob_unclaimed (s := admitted .order tag Kind.orderCancel.code s) hj hst hmarks hstarved
        hcrit)) rfl rfl ⟨_, Table.get_put_same .., rfl⟩
      (dueNotices_nil (workWaitingDue_erase rfl rfl) (pullWaitingDue_same rfl) (parcelWaitingDue_same rfl rfl)
        (freeBlanks_given rfl rfl) rfl)
  · exact orderCancel_freed hr hf hn h1 h2 hp ho hrec hmine hb
      (hfreed _ _ hflag hi (cancelJob_claimed (s := admitted .order tag Kind.orderCancel.code s) hj hst hmarks hstarved
        hne hk hcls hfull hpos rfl)) rfl rfl ⟨_, Table.get_put_same .., rfl⟩
      (dueNotices_nil (workWaitingDue_live hin rfl) (pullWaitingDue_same rfl) (parcelWaitingDue_same rfl rfl)
        (fun _ => le_rfl) rfl)
  · have hone : o ≠ 0 → os = [o] := fun ho => by
      rcases hos with ⟨_, rfl⟩ | ⟨hzero, _⟩
      · rfl
      · exact absurd hzero ho
    have hown := h.own_order hone
    have hadmitted := h.with_ports (admitted .order tag Kind.orderCancel.code s).ports
    refine ⟨fun hsent => ?_, fun o' g r hos' hsent hkept hr' hroom => ?_⟩
    · obtain ⟨t, hrun, heq, hbacklog⟩ := hadmitted.runs (restore := restores flag p) hp restores_open hsent
      exact ⟨t, hrun.orderCancelled h hp hone,
        orderCancel_served hr hf hn h1 h2 hp hos hown heq hrun.ports hrun.held hbacklog⟩
    · subst hos'
      obtain ⟨t, v, r', rg, hrun, hr'', hrg, hlent, heq, hbacklog⟩ :=
        hadmitted.runs_lending (restore := restores flag p) hp restores_open hsent hkept hr' hroom
      refine ⟨t, v, r', rg, hrun.orderCancelled h hp hone, hr'', hrg, hlent,
        orderCancel_served hr hf hn h1 h2 hp hos hown heq (hlent.kept.1.trans hrun.ports) ?_ hbacklog⟩
      rw [heldOf, hlent.kept.2]
      exact hrun.held
  · intro r' i' x' _ _ _ _ _ _ _ _ _ _ _ _ _ hrec' _ hitems'
    rw [hrec] at hrec'
    cases hrec'
    rw [hitems] at hitems'
    cases hitems'

end Sys2Proof.Machine
end

section
/-! SUPPORT. The parcel backlog (R113) and the records that PATRON-CLOSE writes (R29, R30) do not meet. -/

namespace Sys2Proof.Machine

-- One declaration at a time: the check's memory does not hold many side by side.
set_option Elab.async false

/-! ### What the closing of a patron writes -/

/-- The records and lists that the closing of a patron writes: the patrons, the waiting lists with the titles, the pass queue and
the blocked lists. -/
structure People where
  patrons : Table Patron
  titles : Table Title
  passQueue : List Nat
  blocked : PerClass (List Nat)
  stays : PerClass (List Nat)

/-- A state with other such records. -/
def State.withPeople (s : State) (x : People) : State :=
  { s with patrons := x.patrons, titles := x.titles, passQueue := x.passQueue, blocked := x.blocked, stays := x.stays }

/-- The titles once a patron left the waiting lists of some BRAILLE entries (R29, R41). -/
def titlesLeft (n : Nat) (ws : List WishEntry) (ts : Table Title) : Table Title :=
  (ws.filter (fun w => w.format == .braille)).foldl
    (fun ts w => ts.modify w.title (fun r => { r with waiting := r.waiting.erase n })) ts

/-- A class's lists without a patron. -/
def PerClass.leave (l : PerClass (List Nat)) (n : Nat) : PerClass (List Nat) :=
  ⟨l.c1.erase n, l.c2.erase n, l.c3.erase n⟩

theorem PerClass.get_leave (l : PerClass (List Nat)) (n : Nat) (c : Cls) : (l.leave n).get c = (l.get c).erase n := by
  cases c <;> rfl

/-- What the closing of patron `n`, with record `q`, leaves (R29, R30). -/
def peopleClosed (n : Nat) (q : Patron) (s : State) : People where
  patrons := if q.held = 0 then s.patrons.del n else s.patrons.put n { q with wishes := [], state := .closing }
  titles := titlesLeft n q.wishes s.titles
  passQueue := s.passQueue.erase n
  blocked := s.blocked.leave n
  stays := s.stays.leave n

theorem leaveWaitingAll_eq (n : Nat) (ws : List WishEntry) (s : State) :
    leaveWaitingAll n ws s = { s with titles := titlesLeft n ws s.titles } := by
  induction ws generalizing s with
  | nil => rfl
  | cons w ws ih =>
    have hcons : leaveWaitingAll n (w :: ws) s =
        leaveWaitingAll n ws (if w.format = .braille then leaveWaiting n w.title s else s) := rfl
    rw [hcons]
    by_cases hw : w.format = .braille
    · rw [if_pos hw, ih, titlesLeft, titlesLeft, List.filter_cons_of_pos (by simp [hw])]
      rfl
    · rw [if_neg hw, ih, titlesLeft, titlesLeft, List.filter_cons_of_neg (by simp [hw])]

theorem closeRecord_eq {s : State} {n : Nat} {q : Patron} (h : s.patrons.get n = some q) :
    closeRecord n s = { s with
      patrons := s.patrons.put n { q with wishes := [], state := .closing }
      titles := titlesLeft n q.wishes s.titles
      passQueue := s.passQueue.erase n
      blocked := s.blocked.leave n
      stays := s.stays.leave n } := by
  simp only [closeRecord, h, leaveWaitingAll_eq]
  rfl

/-- A patron closed, and freed where it holds nothing (R29, R30). -/
theorem freeIfDone_closeRecord {s : State} {n : Nat} {q : Patron} (h : s.patrons.get n = some q) :
    freeIfDone n (closeRecord n s) = s.withPeople (peopleClosed n q s) := by
  have hget : (closeRecord n s).patrons.get n = some { q with wishes := [], state := .closing } := by
    rw [closeRecord_eq h]
    exact Table.get_put_same ..
  simp only [freeIfDone, hget, true_and]
  rw [closeRecord_eq h, State.withPeople, peopleClosed]
  split
  · simp only [Table.put_del]
  · rfl

/-! ### The backlog beside it -/

/-- The weights of the volumes are not among what changes. -/
def SameWeights (s : State) (x : People) : Prop :=
  ∀ k, setWeights (s.withPeople x) k = setWeights s k

theorem SameWeights.only {s t : State} {x : People} (h : SameWeights s x) (ht : OnlyParcels s t) : SameWeights t x := by
  rw [OnlyParcels] at ht
  rw [ht]
  exact h

theorem titlesLeft_braille (n : Nat) (ws : List WishEntry) (ts : Table Title) (m : Nat) :
    ((titlesLeft n ws ts).get m).map Title.braille = (ts.get m).map Title.braille := by
  unfold titlesLeft
  induction ws.filter (fun w => w.format == .braille) generalizing ts with
  | nil => rfl
  | cons w ws ih =>
    rw [List.foldl_cons, ih, Table.get_modify]
    by_cases hm : m = w.title
    · subst hm
      rw [if_pos rfl, Option.map_map]
      rfl
    · rw [if_neg hm]

theorem sameWeights_closed (n : Nat) (q : Patron) (s : State) : SameWeights s (peopleClosed n q s) := by
  have hweights : ∀ u : State, ∀ k, setWeights u k =
      (((u.copySets.get k).bind fun c => (u.titles.get c.title).map Title.braille).getD none).getD [] := fun u k => by
    unfold setWeights
    cases u.copySets.get k with
    | none => rfl
    | some c =>
      simp only [Option.bind_some]
      cases u.titles.get c.title <;> rfl
  intro k
  rw [hweights, hweights]
  refine congrArg (fun x => (Option.getD x none).getD []) (Option.bind_congr fun c _ => ?_)
  exact titlesLeft_braille n q.wishes s.titles c.title

section
variable {x : People}

theorem newParcels_with (o g : Nat) (obj : ItemObject) {s : State} (hw : SameWeights s x) :
    newParcels o g obj (s.withPeople x) = (newParcels o g obj s).withPeople x := by
  have hfold : ∀ (cs : List Contents) (u : State), cs.foldl (fun acc c => newParcel o g c acc) (u.withPeople x) =
      (cs.foldl (fun acc c => newParcel o g c acc) u).withPeople x := by
    intro cs
    induction cs with
    | nil => exact fun _ => rfl
    | cons c cs ih => exact fun u => ih (newParcel o g c u)
  have hcontents : newContents (s.withPeople x) obj = newContents s obj := by
    cases obj with
    | copySet k => simp only [newContents, hw k]
    | cart serial => rfl
    | job k => rfl
  rw [newParcels, hcontents]
  exact hfold _ s

theorem releaseGroup_with (g : Nat) (s : State) : releaseGroup g (s.withPeople x) = (releaseGroup g s).withPeople x := by
  have hget : (s.withPeople x).groups.get g = s.groups.get g := rfl
  rw [releaseGroup, releaseGroup, hget]
  cases s.groups.get g <;> rfl

theorem releaseTogether_withPeople (o : Nat) (s : State) :
    releaseTogether o (s.withPeople x) = (releaseTogether o s).withPeople x := by
  have horder : (s.withPeople x).orders.get o = s.orders.get o := rfl
  have hlive : liveGroup (s.withPeople x) o = liveGroup s o := rfl
  have hdue : ∀ r, releaseDueFor (s.withPeople x) o r = releaseDueFor s o r := fun _ => rfl
  rw [releaseTogether, releaseTogether, horder, hlive]
  cases s.orders.get o with
  | none => rfl
  | some r =>
    cases liveGroup s o with
    | none => rfl
    | some g =>
      simp only [hdue, releaseGroup_with]
      split <;> rfl

theorem togetherGroup_with (o : Nat) (r : Order) (s : State) :
    togetherGroup o r (s.withPeople x) = ((togetherGroup o r s).1.withPeople x, (togetherGroup o r s).2) := by
  have hlive : liveGroup (s.withPeople x) o = liveGroup s o := rfl
  rw [togetherGroup, togetherGroup, hlive]
  cases liveGroup s o <;> rfl

theorem joinableParcel_with (o : Nat) (s : State) : joinableParcel (s.withPeople x) o = joinableParcel s o := by
  have hlive : liveGroup (s.withPeople x) o = liveGroup s o := rfl
  rw [joinableParcel, joinableParcel, hlive]
  rfl

theorem makeParcels_with (o : Nat) (r : Order) (i : Item) {s : State} (hw : SameWeights s x) :
    makeParcels o r i (s.withPeople x) = (makeParcels o r i s).withPeople x := by
  have htogether : ∀ obj, newParcels o (togetherGroup o r (s.withPeople x)).2 obj (togetherGroup o r (s.withPeople x)).1 =
      (newParcels o (togetherGroup o r s).2 obj (togetherGroup o r s).1).withPeople x := fun obj => by
    rw [togetherGroup_with]
    exact newParcels_with o _ obj (hw.only (togetherGroup_frame o r s))
  unfold makeParcels
  cases r.mode with
  | asReady =>
    have hnew : newParcels o (newGroup i.band (s.withPeople x)).2 i.object (newGroup i.band (s.withPeople x)).1 =
        (newParcels o (newGroup i.band s).2 i.object (newGroup i.band s).1).withPeople x :=
      newParcels_with o _ i.object (hw.only (newGroup_frame i.band s))
    simp only [hnew]
    exact releaseGroup_with _ _
  | together =>
    simp only [joinableParcel_with, htogether]
    split <;> rfl

theorem canParcel_with (o : Nat) (m : Mode) (obj : ItemObject) {s : State} (hw : SameWeights s x) :
    canParcel (s.withPeople x) o m obj = canParcel s o m obj := by
  have hneeded : parcelsNeeded (s.withPeople x) o m obj = parcelsNeeded s o m obj := by
    cases obj with
    | copySet k => simp only [parcelsNeeded, hw k]
    | cart serial => simp only [parcelsNeeded, joinableParcel_with]
    | job k => rfl
  rw [canParcel, canParcel, hneeded]
  rfl

theorem serveList_with (l : List (Nat × Nat)) {s : State} (hw : SameWeights s x) :
    serveList l (s.withPeople x) = (serveList l s).withPeople x := by
  induction l generalizing s with
  | nil => rfl
  | cons e l ih =>
    obtain ⟨o, place⟩ := e
    have hget : (s.withPeople x).orders.get o = s.orders.get o := rfl
    rw [serveList, serveList, hget]
    cases s.orders.get o with
    | none => exact ih hw
    | some r =>
      dsimp only
      cases r.item place with
      | none => exact ih hw
      | some i =>
        simp only [canParcel_with o r.mode i.object hw, makeParcels_with o r i hw]
        split
        · exact ih (hw.only (makeParcels_frame o r i s))
        · rfl

/-- The backlog is served alike whatever the patrons, the waiting lists and the queues of patrons. -/
theorem serveBacklog_with {s : State} (hw : SameWeights s x) :
    serveBacklog (s.withPeople x) = (serveBacklog s).withPeople x := by
  have hfold : ∀ (l : List (Nat × Nat)) (u : State), l.foldl (fun acc e => releaseTogether e.1 acc) (u.withPeople x) =
      (l.foldl (fun acc e => releaseTogether e.1 acc) u).withPeople x := by
    intro l
    induction l with
    | nil => exact fun _ => rfl
    | cons e l ih =>
      intro u
      rw [List.foldl_cons, List.foldl_cons, releaseTogether_withPeople]
      exact ih _
  have hbacklog : backlog (s.withPeople x) = backlog s := rfl
  rw [serveBacklog, serveBacklog, hbacklog, serveList_with _ hw, hfold]

end

/-- A patron's closing and the serving of the backlog, in either order. -/
theorem serveBacklog_closed {s : State} {n : Nat} {q : Patron} (h : s.patrons.get n = some q) :
    freeIfDone n (closeRecord n (serveBacklog s)) = serveBacklog (s.withPeople (peopleClosed n q s)) := by
  have hframe := serveBacklog_frame s
  rw [OnlyParcels] at hframe
  have hget : (serveBacklog s).patrons.get n = some q := by rw [(serveBacklog_kept s).2.1, h]
  have hpeople : peopleClosed n q (serveBacklog s) = peopleClosed n q s := by rw [hframe]; rfl
  rw [freeIfDone_closeRecord hget, hpeople, serveBacklog_with (sameWeights_closed n q s)]

end Sys2Proof.Machine
end

section
/-! SUPPORT. PATRON-CLOSE, settled (R29, R30, R120, R121). -/

namespace Sys2Proof.Machine

-- One declaration at a time: the check's memory does not hold many side by side.
set_option Elab.async false

/-- The record that PATRON-CLOSE's answer carries behind H, where H is 0 (R29). -/
def recordClosed (v : State) (n : Nat) (p : Patron) (held : Nat) : List AnsField :=
  if held = 0 then patronFields v n { p with held := 0, wishes := [], state := .closing } else []

/-- PATRON-CLOSE's answer, where `v` is the state once the patron left its lists. -/
def closeAnswer (s v : State) (n : Nat) (p : Patron) (os : List Nat) : Answer :=
  if os.flatMap (keptOf s) = [] then
    ⟨.done, f1 (p.held - (goneItems s os).length) :: recordClosed v n p (p.held - (goneItems s os).length)⟩
  else
    ⟨.partly, f2 (os.flatMap (keptOf s)).length :: f1 (p.held - (goneItems s os).length)
      :: recordClosed v n p (p.held - (goneItems s os).length)⟩

theorem sumOf_eq {α : Type} (f : α → Nat) (l : List α) : sumOf f l = (l.map f).sum := by
  rw [sumOf, List.sum_eq_foldl, List.foldl_map]

theorem left_counts (s : State) (os : List Nat) :
    sumOf CancelCount.left (cancelCounts s os) = (os.flatMap (keptOf s)).length := by
  rw [sumOf_eq, cancelCounts, List.map_map, List.length_flatMap]
  rfl

/-- The record that the answer carries is read before the backlog is served or after it alike. -/
theorem lastRecord_closed {w : State} {n held : Nat} {p : Patron} (hq : w.patrons.get n = some { p with held := held }) :
    heldOf (closeRecord n (serveBacklog w)) n = held ∧ lastRecord n (closeRecord n (serveBacklog w)) =
      recordClosed (w.withPeople (peopleClosed n { p with held := held } w)) n p held := by
  have hframe := serveBacklog_frame w
  rw [OnlyParcels] at hframe
  have hget : (serveBacklog w).patrons.get n = some { p with held := held } := by rw [(serveBacklog_kept w).2.1, hq]
  have hclosed : (closeRecord n (serveBacklog w)).patrons.get n =
      some { p with held := held, wishes := [], state := .closing } := by
    rw [closeRecord_eq hget]
    exact Table.get_put_same ..
  have hheld : heldOf (closeRecord n (serveBacklog w)) n = held := by
    rw [heldOf, hclosed]
    rfl
  refine ⟨hheld, ?_⟩
  rw [lastRecord, recordClosed, hheld]
  by_cases hzero : held = 0
  · subst hzero
    rw [if_pos rfl, if_pos rfl, patronAnswer_some _ hclosed, closeRecord_eq hget, hframe]
    rfl
  · rw [if_neg hzero, if_neg hzero]

theorem takePatronClose_ends {s w : State} {n : Nat} {p : Patron} {os : List Nat} (hp : findPatron s n = some p)
    (hopen : p.state ≠ .closing) (hos : os = ordersOf s n) (hrun : cancelOrders false os s = (w, cancelCounts s os))
    (hq : w.patrons.get n = some { p with held := p.held - (goneItems s os).length }) :
    takePatronClose n s =
      ⟨serveBacklog (w.withPeople (peopleClosed n { p with held := p.held - (goneItems s os).length } w)),
        closeAnswer s (w.withPeople (peopleClosed n { p with held := p.held - (goneItems s os).length } w)) n p os⟩ := by
  obtain ⟨hheld, hlast⟩ := lastRecord_closed hq
  subst hos
  simp only [takePatronClose, hp, if_neg hopen, cancelAll, hrun, serveBacklog_closed hq, hheld, hlast, left_counts, closeAnswer,
    anyLeft_counts, ne_eq, ite_not]
  split <;> rfl

theorem takePatronClose_noSuch {s : State} {n : Nat} (hp : findPatron s n = none) :
    takePatronClose n s = refused s .noSuch := by
  simp only [takePatronClose, hp]

theorem takePatronClose_already {s : State} {n : Nat} {p : Patron} (hp : findPatron s n = some p) (hc : p.state = .closing) :
    takePatronClose n s = refused s .already := by
  simp only [takePatronClose, hp, if_pos hc]

theorem reads_patronClose {n : Nat} (h : n < 65536) :
    ReadsFor n .order .patronClose (writeFields [2] [n]) (takePatronClose n) :=
  readsFor_fields (fits_one h) (by decide) rfl (oneField_writeFields (w := 2) _ h) fun _ => rfl

/-! ### The run -/

/-- What a run without restore leaves of the patron and the titles. -/
theorem CancelRun.unrestored {s t : State} {n : Nat} {p : Patron} {os : List Nat} (h : CancelRun s t n p false os)
    (hopen : p.state ≠ .closing) :
    t.patrons = s.patrons.put n { p with held := p.held - (goneItems s os).length } ∧ t.titles = s.titles :=
  ⟨h.patrons.trans (if_neg fun hc => hopen hc.1), h.titles⟩

/-- A cancellation's records are not among those that the closing writes. -/
theorem Cancelled.withPeople {s t : State} {os : List Nat} (h : Cancelled s t os) (x : People) :
    Cancelled s (t.withPeople x) os :=
  ⟨h.orders, h.jobs, h.jobQueue, h.starved, h.reserved, h.carts, h.unwiped, h.copySets, h.tasks, h.pullQueue, h.parcels,
    h.groups, h.notReleased, h.released, h.reservedCap, h.heldTotal, h.marks, h.others⟩

/-- The run of PATRON-CLOSE with the patron's closing, part by part. -/
theorem CancelRun.patronClosed {s t : State} {P : PerLink Port} {n : Nat} {p q : Patron} {os : List Nat}
    (h : CancelReady s n os) (hp : s.patrons.get n = some p) (hopen : p.state ≠ .closing)
    (ht : CancelRun { s with ports := P } t n p false os) (hq : q = { p with held := p.held - (goneItems s os).length }) :
    Cancelled s (t.withPeople (peopleClosed n q t)) os
    ∧ (t.withPeople (peopleClosed n q t)).patrons = (if p.held = (goneItems s os).length then s.patrons.del n
        else s.patrons.put n { p with held := p.held - (goneItems s os).length, wishes := [], state := .closing })
    ∧ (t.withPeople (peopleClosed n q t)).titles = titlesLeft n p.wishes s.titles
    ∧ (t.withPeople (peopleClosed n q t)).passQueue = (passAfter s n false os).erase n
    ∧ (∀ c, (t.withPeople (peopleClosed n q t)).blocked.get c = (blockedAfter s os c).erase n)
    ∧ (∀ c, (t.withPeople (peopleClosed n q t)).stays.get c = (staysAfter s os c).erase n)
    ∧ (t.withPeople (peopleClosed n q t)).pendingOffers = (offeredSets s os).foldl appendNew s.pendingOffers := by
  have hunits := h.units hp
  obtain ⟨hpatrons, htitles⟩ := ht.unrestored hopen
  have hzero : q.held = 0 ↔ p.held = (goneItems s os).length := by
    rw [hq]
    simp only
    omega
  refine ⟨ht.cancelled.of_ports.withPeople _, ?_, ?_, ?_, fun c => ?_, fun c => ?_, ht.offers (.inl rfl)⟩
  · refine (if_congr hzero ?_ ?_ : (peopleClosed n q t).patrons = _)
    · rw [hpatrons]
      exact Table.put_del ..
    · rw [hpatrons, hq]
      exact Table.put_put ..
  · refine (?_ : titlesLeft n q.wishes t.titles = _)
    rw [htitles, hq]
  · have hpass : t.passQueue = passAfter s n false os := by
      rw [passAfter, ← joinersOf_with_ports s P]
      exact ht.items.jobs.passQueue
    exact congrArg (fun l => l.erase n) hpass
  · exact (PerClass.get_leave _ n c).trans (congrArg (fun l => l.erase n) (ht.items.jobs.blocked c))
  · exact (PerClass.get_leave _ n c).trans (congrArg (fun l => l.erase n) (ht.items.jobs.stays c))

/-- PATRON-CLOSE where its cancellation ends in a known state, once the backlog is served. -/
theorem patronClose_ends {tag : Half} {s w : State} {n : Nat} {p q : Patron} {os : List Nat} (hr : Ready .order s)
    (hn : NoPassFor n s) (hlt : n < 65536) (h1 : 1 ≤ n) (h2 : n ≤ 16384) (hp : s.patrons.get n = some p)
    (hopen : p.state ≠ .closing) (hos : os = ordersOf s n)
    (hrun : cancelOrders false os (admitted .order tag Kind.patronClose.code s) = (w, cancelCounts s os))
    (hq : q = { p with held := p.held - (goneItems s os).length }) (hw : w.patrons.get n = some q)
    (hports : w.ports = (admitted .order tag Kind.patronClose.code s).ports) {u : State}
    (hu : serveBacklog (w.withPeople (peopleClosed n q w)) = u) :
    exec (.patronClose .order tag (writeFields [2] [n])) s =
      .next (s.after .order tag .patronClose (closeAnswer s (w.withPeople (peopleClosed n q w)) n p os) [] u) := by
  subst hq
  refine congrArg Host.Outcome.next ((reads_patronClose hlt).after hr hn [] ?_)
  refine (takePatronClose_ends (s := admitted .order tag Kind.patronClose.code s) (findPatron_some h1 h2 hp) hopen hos hrun
    hw).trans ?_
  have hkept : u.ports = (admitted .order tag Kind.patronClose.code s).ports := by
    rw [← hu, (serveBacklog_kept _).1, ← hports]
    rfl
  have hsame : ({ u with ports := (admitted .order tag Kind.patronClose.code s).ports } : State) = u := by rw [← hkept]
  exact congrArg₂ Taken.mk (hu.trans hsame.symm) rfl

/-- The same, with the backlog served as `BacklogServed` says, or empty. -/
theorem patronClose_served {tag : Half} {s w : State} {n : Nat} {p q : Patron} {os : List Nat} (hr : Ready .order s)
    (hn : NoPassFor n s) (hlt : n < 65536) (h1 : 1 ≤ n) (h2 : n ≤ 16384) (hp : s.patrons.get n = some p)
    (hopen : p.state ≠ .closing) (hos : os = ordersOf s n)
    (hrun : cancelOrders false os (admitted .order tag Kind.patronClose.code s) = (w, cancelCounts s os))
    (hq : q = { p with held := p.held - (goneItems s os).length }) (hw : w.patrons.get n = some q)
    (hports : w.ports = (admitted .order tag Kind.patronClose.code s).ports) (hbacklog : backlog s = [] → backlog w = []) :
    (backlog s = [] → exec (.patronClose .order tag (writeFields [2] [n])) s =
      .next (s.after .order tag .patronClose (closeAnswer s (w.withPeople (peopleClosed n q w)) n p os) []
        (w.withPeople (peopleClosed n q w))))
    ∧ ∀ u, BacklogServed (w.withPeople (peopleClosed n q w)) u → exec (.patronClose .order tag (writeFields [2] [n])) s =
      .next (s.after .order tag .patronClose (closeAnswer s (w.withPeople (peopleClosed n q w)) n p os) [] u) :=
  ⟨fun hb => patronClose_ends hr hn hlt h1 h2 hp hopen hos hrun hq hw hports (serveBacklog_nil (hbacklog hb)),
    fun _ hu => patronClose_ends hr hn hlt h1 h2 hp hopen hos hrun hq hw hports (serveBacklog_served hu)⟩

/-- The creation of loans leaves the records that the closing writes. -/
theorem GroupLent.peopleClosed {s t : State} {o g : Nat} {r : Order} {rg : DispatchGroup} (h : GroupLent s t o g r rg) (n : Nat)
    (q : Patron) : Machine.peopleClosed n q t = Machine.peopleClosed n q s := by
  have hothers := h.others
  rw [hothers]
  rfl

/-- Settles O17, by the run over the patron's orders; the closing and the serving of the backlog do not meet. -/
theorem patronClose : Obligations.PatronClose := by
  intro tag s n hr hn hlt
  refine ⟨fun h => congrArg Host.Outcome.next ((reads_patronClose hlt).answers hr hn
    (takePatronClose_noSuch (findPatron_none h))), fun p h1 h2 hp => ⟨fun hopen hnone hb => ?_, fun hc => ?_, fun hopen h => ?_⟩⟩
  · have hos : [] = ordersOf s n := (ordersOf_nil hnone).symm
    exact (patronClose_ends hr hn hlt h1 h2 hp hopen hos rfl rfl hp rfl (serveBacklog_nil hb)).trans
      (congrArg Host.Outcome.next (after_quiet .order tag .patronClose _
        (dueNotices_quiet ⟨rfl, rfl, rfl, rfl, rfl, rfl, rfl, rfl, rfl⟩)))
  · exact congrArg Host.Outcome.next ((reads_patronClose hlt).answers hr hn
      (takePatronClose_already (findPatron_some h1 h2 hp) hc))
  · have hadmitted := h.with_ports (admitted .order tag Kind.patronClose.code s).ports
    refine ⟨fun hsent => ?_, fun o g r hos hsent hkept hr' hroom => ?_⟩
    · obtain ⟨t, hrun, heq, hbacklog⟩ := hadmitted.runs (restore := false) hp nofun hsent
      have hq := (hrun.unrestored hopen).1
      exact ⟨_, hrun.patronClosed h hp hopen rfl, patronClose_served hr hn hlt h1 h2 hp hopen rfl heq rfl
        (hq ▸ Table.get_put_same ..) hrun.ports hbacklog⟩
    · rw [hos] at h hsent ⊢
      obtain ⟨t, v, r', rg, hrun, hr'', hrg, hlent, heq, hbacklog⟩ :=
        (h.with_ports (admitted .order tag Kind.patronClose.code s).ports).runs_lending (restore := false) hp nofun hsent hkept
          hr' hroom
      have hq := hlent.kept.2.trans (hrun.unrestored hopen).1
      have hpeople := hlent.peopleClosed n { p with held := p.held - (goneItems s [o]).length }
      refine ⟨_, v.withPeople _, r', rg, hrun.patronClosed h hp hopen rfl, hr'', hrg, ?_,
        patronClose_served hr hn hlt h1 h2 hp hopen hos.symm heq rfl (hq ▸ Table.get_put_same ..)
          (hlent.kept.1.trans hrun.ports) hbacklog⟩
      rw [hpeople]
      exact hlent.people _ _ _ _ _

end Sys2Proof.Machine
end

section
/-! SUPPORT. The Selection Engine between passes (R44, R46): what it writes, when it has nothing to begin, and the step that
finds no command waiting. -/

namespace Sys2Proof.Machine

-- One declaration at a time: the check's memory does not hold many side by side.
set_option Elab.async false

/-! ### What the engine writes between passes -/

/-- Two states that differ in the pass queue, the offers and the running pass only. -/
def OnlyEngine (s t : State) : Prop :=
  t = { s with passQueue := t.passQueue, pendingOffers := t.pendingOffers, offer := t.offer, running := t.running }

theorem OnlyEngine.refl (s : State) : OnlyEngine s s := rfl

theorem OnlyEngine.trans {s t u : State} (h : OnlyEngine s t) (h' : OnlyEngine t u) : OnlyEngine s u := by
  unfold OnlyEngine at *
  rw [h', h]

theorem OnlyEngine.sameConditions {s t : State} (h : OnlyEngine s t) : SameConditions s t := by
  rw [h]
  exact ⟨rfl, rfl, rfl, rfl, rfl, rfl, rfl, rfl, rfl⟩

theorem OnlyEngine.ports {s t : State} (h : OnlyEngine s t) : t.ports = s.ports := by
  rw [h]

/-- An event's end reads nothing that the engine writes between passes. -/
theorem OnlyEngine.endEvent_eq {s t : State} (h : OnlyEngine s t) (u : State) : endEvent t u = endEvent s u := by
  rw [h]
  rfl

theorem OnlyEngine.unconsidered_eq {s t : State} (h : OnlyEngine s t) (o : Offer) : unconsidered t o = unconsidered s o := by
  rw [h]
  rfl

theorem advanceOffer_frame (s : State) : OnlyEngine s (advanceOffer s) := by
  unfold advanceOffer
  split
  · rfl
  · dsimp only
    split <;> rfl

theorem beginOffer_frame (k : Nat) (s : State) : OnlyEngine s (beginOffer k s) := by
  unfold beginOffer
  split
  · rfl
  · refine .trans ?_ (advanceOffer_frame _)
    rfl

theorem beginNextOffer_frame (s : State) : OnlyEngine s (beginNextOffer s) := by
  unfold beginNextOffer
  split
  · refine .trans ?_ (beginOffer_frame _ _)
    rfl
  · rfl

theorem settleOffers_frame (fuel : Nat) (s : State) : OnlyEngine s (settleOffers fuel s) := by
  induction fuel generalizing s with
  | zero => rfl
  | succ fuel ih =>
    unfold settleOffers
    split
    · rfl
    · exact (beginNextOffer_frame s).trans (ih _)

theorem startQueuePass_frame (s : State) : OnlyEngine s (startQueuePass s) := by
  unfold startQueuePass
  split <;> rfl

theorem startNext_frame (s : State) : OnlyEngine s (startNext s) := by
  have hoffers : OnlyEngine s (settleOffers s.pendingOffers.length (advanceOffer s)) :=
    (advanceOffer_frame s).trans (settleOffers_frame _ _)
  unfold startNext
  dsimp only
  split
  · split
    · exact hoffers.trans rfl
    · exact hoffers.trans (startQueuePass_frame _)
  · exact hoffers.trans (startQueuePass_frame _)

theorem startPass_frame (s : State) : OnlyEngine s (startPass s) := by
  unfold startPass
  split
  · rfl
  · exact startNext_frame s

theorem workOffer_frame (s : State) : OnlyEngine s (workOffer s) := by
  unfold workOffer
  split
  · rfl
  · split
    · exact advanceOffer_frame s
    · exact beginNextOffer_frame s

/-- An event in which the engine only moves between passes ends as it stands. -/
theorem ownEvent_engine {f : State → State} {s : State} (hr : s.restartAsserted = false) (h : OnlyEngine s (f s)) :
    ownEvent f s = f s := by
  rw [ownEvent, hr, if_neg Bool.false_ne_true]
  exact endEvent_quiet h.sameConditions fun l n hn => by rwa [State.port, h.ports] at hn

/-! ### The engine with nothing to begin -/

theorem startPass_running {s : State} (h : s.running ≠ none) : startPass s = s :=
  if_pos (Option.isSome_iff_ne_none.2 h)

/-- With no offer to work on, the engine turns to the pass queue (R44). -/
theorem startPass_noOffer {s : State} (hr : s.running = none) (ho : s.offer = none) (hp : s.pendingOffers = []) :
    startPass s = startQueuePass s := by
  simp [startPass, hr, startNext, advanceOffer, ho, hp, settleOffers]

/-- An offer in progress calls for a waiter's pass. -/
def OfferCalls (s : State) : Prop :=
  ∀ o, s.offer = some o → unconsidered s o ≠ []

theorem advanceOffer_calls (s : State) : OfferCalls (advanceOffer s) := by
  intro o ho
  rw [(advanceOffer_frame s).unconsidered_eq]
  unfold advanceOffer at ho
  split at ho
  · rename_i h
    rw [h] at ho
    cases ho
  · dsimp only at ho
    split at ho
    · cases ho
    · rename_i h
      cases ho
      simpa using h

theorem beginNextOffer_calls {s : State} (h : OfferCalls s) : OfferCalls (beginNextOffer s) := by
  unfold beginNextOffer
  split
  · rename_i k rest ho _
    unfold beginOffer
    split
    · intro o ho'
      exact absurd (ho.symm.trans ho') (by simp)
    · exact advanceOffer_calls _
  · exact h

theorem settleOffers_calls (fuel : Nat) {s : State} (h : OfferCalls s) : OfferCalls (settleOffers fuel s) := by
  induction fuel generalizing s with
  | zero => exact h
  | succ fuel ih =>
    unfold settleOffers
    split
    · exact h
    · exact ih (beginNextOffer_calls h)

theorem advanceOffer_pendingOffers (s : State) : (advanceOffer s).pendingOffers = s.pendingOffers := by
  unfold advanceOffer
  split
  · rfl
  · dsimp only
    split <;> rfl

theorem beginOffer_pendingOffers (k : Nat) (s : State) : (beginOffer k s).pendingOffers = s.pendingOffers := by
  unfold beginOffer
  split
  · rfl
  · exact advanceOffer_pendingOffers _

/-- Once every pending offer was looked at, either one is in progress or none is left (R46). -/
theorem settleOffers_exhausts {fuel : Nat} {s : State} (hfuel : s.pendingOffers.length ≤ fuel)
    (ho : (settleOffers fuel s).offer = none) : (settleOffers fuel s).pendingOffers = [] := by
  induction fuel generalizing s with
  | zero => exact List.length_eq_zero_iff.1 (Nat.le_zero.1 hfuel)
  | succ fuel ih =>
    unfold settleOffers at ho ⊢
    split
    · rename_i h
      rw [if_pos h] at ho
      simp [ho] at h
    · rename_i h
      rw [if_neg h] at ho
      refine ih ?_ ho
      have hnone : s.offer = none := by simpa using h
      cases hp : s.pendingOffers with
      | nil => simp [beginNextOffer, hnone, hp]
      | cons k rest =>
        rw [hp, List.length_cons] at hfuel
        simp only [beginNextOffer, hnone, hp, beginOffer_pendingOffers]
        omega

/-- What the engine's turn leaves: a running pass, or nothing to begin (R44, R46). -/
theorem startNext_cases (s : State) : (startNext s).running ≠ none ∨
    ((startNext s).offer = none ∧ (startNext s).pendingOffers = [] ∧ (startNext s).passQueue = []) := by
  have hcalls : OfferCalls (settleOffers s.pendingOffers.length (advanceOffer s)) :=
    settleOffers_calls _ (advanceOffer_calls s)
  have hspent := settleOffers_exhausts (Nat.le_of_eq (congrArg List.length (advanceOffer_pendingOffers s)))
  unfold startNext
  generalize settleOffers s.pendingOffers.length (advanceOffer s) = u at hcalls hspent
  dsimp only
  split
  · rename_i o ho
    split
    · exact .inl (by simp [startOfferPass])
    · rename_i hhead
      exact absurd (List.head?_eq_none_iff.1 hhead) (hcalls o ho)
  · rename_i ho
    unfold startQueuePass
    split
    · rename_i hq
      exact .inr ⟨ho, hspent ho, hq⟩
    · exact .inl (by simp)

/-- A turn of the engine that follows its own turn begins nothing more (R44). -/
theorem startPass_startPass (s : State) : startPass (startPass s) = startPass s := by
  by_cases hr : s.running = none
  · have hstart : startPass s = startNext s := if_neg (by simp [hr])
    rw [hstart]
    rcases startNext_cases s with h | ⟨ho, hp, hq⟩
    · exact startPass_running h
    · by_cases hrun : (startNext s).running = none
      · rw [startPass_noOffer hrun ho hp, startQueuePass, hq]
      · exact startPass_running hrun
  · rw [startPass_running hr, startPass_running hr]

/-! ### The step that finds no command waiting -/

theorem idle_asserted {s : State} (h : s.restartAsserted = true) : idle s = s :=
  if_pos h

theorem idle_released {s : State} (h : s.restartAsserted = false) : idle s = startPass s :=
  ownEvent_engine h (startPass_frame s)

theorem step_idle {s : State} (h : s.pending = []) : step s = .next (idle s) := by
  simp only [step, h]

/-- Settles O1, by whether the engine is free to begin a pass. -/
theorem stepTakesFrontCommand : Obligations.StepTakesFrontCommand := by
  intro c s
  refine ⟨rfl, fun hempty => ⟨fun hnone => ?_, fun n rest hr hrun ho hp hq => ?_⟩⟩
  · rw [step_idle hempty]
    cases hr : s.restartAsserted with
    | true => rw [idle_asserted hr]
    | false =>
      rw [idle_released hr]
      by_cases hrun : s.running = none
      · rcases hnone with h | h | ⟨ho, hp, hq⟩
        · exact absurd (h.symm.trans hr) (by simp)
        · exact absurd hrun h
        · rw [startPass_noOffer hrun ho hp, startQueuePass, hq]
      · rw [startPass_running hrun]
  · rw [step_idle hempty, idle_released hr, startPass_noOffer hrun ho hp, startQueuePass, hq]

end Sys2Proof.Machine
end

section
/-! SUPPORT. The release of one class's blocked list by an event (R50), POOL-SET (R76), and DUP-RESTART (R52, R102). -/

namespace Sys2Proof.Machine

-- One declaration at a time: the check's memory does not hold many side by side.
set_option Elab.async false

/-! ### One list released -/

/-- A job record live before an event and after it was not freed in it. -/
theorem jobFreed_of_jobs {s t : State} (h : t.jobs = s.jobs) : jobFreed s t = false :=
  jobFreed_same fun _ he hnone => (Table.get_eq_none_iff _ _).1 (h ▸ hnone) (List.mem_map_of_mem he)

/-- An event that frees no job record and changes one class's free blanks or levels releases that class's list at most (R50). -/
theorem releaseLists_one {s t : State} {c : Cls} (hj : jobFreed s t = false)
    (hc : ∀ d, d ≠ c → criticalHolds t d = criticalHolds s d) :
    releaseLists s t = releaseIf (criticalHolds s c && !criticalHolds t c) c t := by
  have hdue : ∀ d, releaseDue s t d = (criticalHolds s d && !criticalHolds t d) := fun d => by simp [releaseDue, hj]
  have hother : ∀ d, d ≠ c → (criticalHolds s d && !criticalHolds t d) = false := fun d hd => by simp [hc d hd]
  have hfalse : ∀ (d : Cls) (u : State), releaseIf false d u = u := fun _ _ => rfl
  simp only [releaseLists, hj, hdue, Bool.false_eq_true, if_false]
  cases c with
  | c1 => rw [hother .c2 nofun, hother .c3 nofun, hfalse, hfalse]
  | c2 => rw [hother .c1 nofun, hother .c3 nofun, hfalse, hfalse]
  | c3 => rw [hother .c1 nofun, hother .c2 nofun, hfalse, hfalse]

/-- A list released where it is due, by its fields (R24, R50). -/
theorem releaseIf_eq {b : Bool} {due : Prop} [Decidable due] (h : b = true ↔ due) (c : Cls) (s : State) :
    releaseIf b c s = { s with
      passQueue := if due then (s.blocked.get c).foldl appendNew s.passQueue else s.passQueue
      blocked := if due then s.blocked.set c [] else s.blocked
      stays := if due then s.stays.set c [] else s.stays } := by
  by_cases hd : due
  · simp only [releaseIf, h.2 hd, if_true, if_pos hd, releaseList]
  · rw [Bool.eq_false_iff.2 (mt h.1 hd)]
    simp only [releaseIf, Bool.false_eq_true, if_false, if_neg hd]

/-- Free blanks that come to stand above the critical level (R50). -/
theorem criticalEnds_iff (s t : State) (c : Cls) :
    (criticalHolds s c && !criticalHolds t c) = true ↔
      freeBlanks s c ≤ s.settings.critical.get c ∧ t.settings.critical.get c < freeBlanks t c := by
  simp [criticalHolds]

/-! ### POOL-SET -/

theorem reads_poolSet {code w k : Nat} (h : Fits [1, 2, 2] [code, w, k]) :
    Reads .duplication .poolSet (writeFields [1, 2, 2] [code, w, k]) (takePoolSet code w k) :=
  ⟨writeFields_short rfl (by decide), rfl, threeFields_writeFields _ h, rfl⟩

theorem clsOfNat_none {code : Nat} (h : code = 0 ∨ 3 < code) : clsOfNat code = none := by
  unfold clsOfNat
  split <;> first | omega | rfl

theorem poolLevels_eq (w k : Nat) : poolLevels w k = (max 1 (min 1000 w), min k (max 1 (min 1000 w) - 1)) := by
  have hclamp : clampTo 1 1000 w = max 1 (min 1000 w) := by
    unfold clampTo
    split
    · omega
    · split <;> omega
  rw [poolLevels, hclamp]

theorem takePoolSet_none {code w k : Nat} {s : State} (h : clsOfNat code = none) :
    takePoolSet code w k s = refused s .noSuch := by
  simp only [takePoolSet, h]

/-- What POOL-SET leaves of a state, with the class's levels given, and its list released or not (R50, R76). -/
def State.levelsSet (s : State) (c : Cls) (warn critical : Nat) (released : Prop) [Decidable released] : State :=
  { s with
    settings := { s.settings with warn := s.settings.warn.set c warn, critical := s.settings.critical.set c critical }
    passQueue := if released then (s.blocked.get c).foldl appendNew s.passQueue else s.passQueue
    blocked := if released then s.blocked.set c [] else s.blocked
    stays := if released then s.stays.set c [] else s.stays }

theorem poolFields_ports (s : State) (P : PerLink Port) (c : Cls) : poolFields { s with ports := P } c = poolFields s c := rfl

theorem takePoolSet_some {code w k warn critical : Nat} {c : Cls} {released : Prop} [Decidable released] {s : State}
    (h : clsOfNat code = some c) (hw : warn = max 1 (min 1000 w)) (hk : critical = min k (warn - 1))
    (hr : released ↔ freeBlanks s c ≤ s.settings.critical.get c ∧ critical < freeBlanks s c) :
    takePoolSet code w k s =
      ⟨s.levelsSet c warn critical released, if warn = w ∧ critical = k then .done else .clamped,
        poolFields (s.levelsSet c warn critical released) c⟩ := by
  subst hw hk
  have hstored : releaseLists s { s with settings := { s.settings with
      warn := s.settings.warn.set c (max 1 (min 1000 w))
      critical := s.settings.critical.set c (min k (max 1 (min 1000 w) - 1)) } } =
      s.levelsSet c (max 1 (min 1000 w)) (min k (max 1 (min 1000 w) - 1)) released := by
    rw [releaseLists_one (c := c) (jobFreed_of_jobs (by rfl)) fun d hd => ?_]
    · refine releaseIf_eq ((criticalEnds_iff _ _ _).trans (.trans ?_ hr.symm)) c _
      rw [PerClass.get_set_same]
      rfl
    · simp only [criticalHolds, PerClass.get_set_other _ _ hd]
      rfl
  simp only [takePoolSet, h, poolLevels_eq, hstored]
  simp only [doneOr, Bool.or_eq_true, bne_iff_ne, ne_eq, ← not_and_or, ite_not]

theorem takePoolSet_ports {code w k warn critical : Nat} {c : Cls} {released : Prop} [Decidable released] {s : State}
    (h : clsOfNat code = some c) (hw : warn = max 1 (min 1000 w)) (hk : critical = min k (warn - 1))
    (hr : released ↔ freeBlanks s c ≤ s.settings.critical.get c ∧ critical < freeBlanks s c) (P : PerLink Port) :
    takePoolSet code w k { s with ports := P } =
      ⟨{ s.levelsSet c warn critical released with ports := P }, if warn = w ∧ critical = k then .done else .clamped,
        poolFields (s.levelsSet c warn critical released) c⟩ :=
  (takePoolSet_some (s := { s with ports := P }) h hw hk hr).trans
    (congrArg (fun fs => Taken.mk _ ⟨_, fs⟩) (poolFields_ports (s.levelsSet c warn critical released) P c))

/-- Settles O29, by the class that the code names. -/
theorem poolSet : Obligations.PoolSet := by
  intro tag s code w k hr hfits
  refine ⟨fun hcode => congrArg Host.Outcome.next ((reads_poolSet hfits).answers hr (takePoolSet_none (clsOfNat_none hcode))),
    fun c hc => ?_⟩
  exact congrArg Host.Outcome.next ((reads_poolSet hfits).after hr [] (takePoolSet_ports (s := s) hc rfl rfl Iff.rfl _))

/-! ### DUP-RESTART -/

theorem reads_dupRestart : Reads .duplication .dupRestart [] takeDupRestart :=
  ⟨by decide, rfl, rfl, rfl⟩

/-- A bay in SERVICE has the fields of that condition (R78). -/
theorem inService_iff (b : Bay) : b.inService = true ↔ ∃ st streak strikes a, b.condition = .service st streak strikes a := by
  cases h : b.condition <;> simp [Bay.inService, Condition.code, h]

theorem anyInService_iff (s : State) : s.bays.any Bay.inService = true ↔
    ∃ b ∈ s.bays, ∃ st streak strikes a, b.condition = .service st streak strikes a := by
  simp only [List.any_eq_true, inService_iff]

/-- The three lists released in class order (R50). -/
theorem releaseList_all (s : State) : releaseList .c3 (releaseList .c2 (releaseList .c1 s)) = { s with
    passQueue := (s.blocked.c1 ++ s.blocked.c2 ++ s.blocked.c3).foldl appendNew s.passQueue
    blocked := ⟨[], [], []⟩
    stays := ⟨[], [], []⟩ } := by
  simp only [releaseList, PerClass.get, PerClass.set, List.foldl_append]

/-- The three lists are released with every mark cleared (R52, R102). -/
theorem takeDupRestart_taken {s : State} (hh : s.standing = .halted) (hb : s.bays.any Bay.inService = true) :
    takeDupRestart s =
      ⟨{ s with
          standing := .running
          passQueue := (s.blocked.c1 ++ s.blocked.c2 ++ s.blocked.c3).foldl appendNew s.passQueue
          blocked := ⟨[], [], []⟩
          stays := ⟨[], [], []⟩
          marks := ⟨false, false, false⟩ },
        .done, [f2 (baysIn s 1), f2 (baysIn s 2), f2 (baysIn s 3), f2 (baysIn s 4), f2 s.jobQueue.length]⟩ := by
  simp only [takeDupRestart, if_pos (And.intro hh hb), releaseList_all]
  rfl

theorem takeDupRestart_state {s : State} (h : ¬ (s.standing = .halted ∧ s.bays.any Bay.inService = true)) :
    takeDupRestart s = refused s .state :=
  if_neg h

/-- Settles O33, by whether duplication is HALTED with a bay in SERVICE. -/
theorem dupRestart : Obligations.DupRestart := by
  intro tag s hr
  refine ⟨fun hh hb => congrArg Host.Outcome.next (reads_dupRestart.reply hr
      (takeDupRestart_taken hh ((anyInService_iff s).2 hb)) ⟨rfl, rfl, rfl, rfl, rfl, rfl, rfl, rfl, rfl⟩),
    fun h => congrArg Host.Outcome.next (reads_dupRestart.answers hr (takeDupRestart_state ?_))⟩
  rintro ⟨hh, hb⟩
  rcases h with h | h
  · exact absurd (h.symm.trans hh) (by simp)
  · exact h ((anyInService_iff s).1 hb)

end Sys2Proof.Machine
end

section
/-! SUPPORT. The good outcome of a bay (R97), WIPE-DONE GOOD (R69, R74, R93), and BAY-OFFLINE (R83). -/

namespace Sys2Proof.Machine

-- One declaration at a time: the check's memory does not hold many side by side.
set_option Elab.async false

/-! ### The critical condition -/

theorem criticalHolds_congr {s t : State} {c : Cls} (hb : t.blank.get c = s.blank.get c)
    (hr : t.reserved.get c = s.reserved.get c) (hk : t.settings.critical = s.settings.critical) :
    criticalHolds t c = criticalHolds s c := by
  rw [criticalHolds, criticalHolds, freeBlanks, freeBlanks, hb, hr, hk]

/-- The places of jobs in a queue are read from the job records alone (R85). -/
theorem jobBefore_congr {s t : State} (h : t.jobs = s.jobs) : jobBefore t = jobBefore s := by
  funext a b
  rw [jobBefore, jobBefore, h]

/-- The places of starved jobs are read from the job records alone (R74). -/
theorem stampBefore_congr {s t : State} (h : t.jobs = s.jobs) : stampBefore t = stampBefore s := by
  funext a b
  rw [stampBefore, stampBefore, h]

/-! ### The bay's part -/

/-- A bay's condition once a good outcome counted in SERVICE (R97). -/
def goodCondition (st : Standing) (streak strikes : Nat) : Condition :=
  .service (goodCount st streak strikes).1 (goodCount st streak strikes).2.1 (goodCount st streak strikes).2.2 .idle

theorem goodCondition_qualifying (streak strikes : Nat) : goodCondition .qualifying streak strikes =
    if streak < 2 then .service .qualifying (streak + 1) strikes .idle else .service .qualified 0 0 .idle := by
  have hq : Config.qualifyStreak = 3 := rfl
  by_cases h : streak < 2
  · simp [goodCondition, goodCount, hq, h, show ¬ 3 ≤ streak + 1 by omega]
  · simp [goodCondition, goodCount, hq, h, show 3 ≤ streak + 1 by omega]

theorem goodCondition_qualified (streak strikes : Nat) : goodCondition .qualified streak strikes =
    if streak < 24 then .service .qualified (streak + 1) strikes .idle else .service .qualified 0 0 .idle := by
  have hq : Config.clearStreak = 25 := rfl
  by_cases h : streak < 24
  · simp [goodCondition, goodCount, hq, h, show ¬ 25 ≤ streak + 1 by omega]
  · simp [goodCondition, goodCount, hq, h, show 25 ≤ streak + 1 by omega]

section
variable {s : State} {n : Nat} {b : Bay} (hn : n < 32) (hb : s.bays[n]? = some b)
include hn hb

/-- The bay whose record an ended activity wrote. -/
theorem bay_set (x : Bay) (t : State) (ht : t.bays = s.bays.set n x) : t.bay n = some x :=
  bay_some hn (by simp [ht, (List.getElem?_eq_some_iff.1 hb).1])

/-- A good outcome counts at a bay in SERVICE whose activity has ended (R97). -/
theorem countGood_eq {st : Standing} {streak strikes : Nat} {a : Activity} (last : Option LastActivity)
    (hc : b.condition = .service st streak strikes a) :
    countGood n { s with bays := s.bays.set n (b.ended last) } =
      { s with bays := s.bays.set n { b with condition := goodCondition st streak strikes, last := last } } := by
  have hended : (b.ended last).condition = .service st streak strikes .idle := by simp only [Bay.ended, hc]
  simp only [countGood, bay_set hn hb (b.ended last) { s with bays := s.bays.set n (b.ended last) } rfl, hended,
    State.putBay, List.set_set]
  rfl

/-- A bay's condition set once its activity ended. -/
theorem setCondition_ended (c : Condition) (last : Option LastActivity) :
    setCondition n c { s with bays := s.bays.set n (b.ended last) } =
      { s with bays := s.bays.set n { b with condition := c, last := last } } := by
  simp only [setCondition, bay_set hn hb (b.ended last) { s with bays := s.bays.set n (b.ended last) } rfl, State.putBay,
    List.set_set]
  rfl

theorem setCondition_eq (c : Condition) : setCondition n c s = { s with bays := s.bays.set n { b with condition := c } } := by
  simp only [setCondition, bay_some hn hb, State.putBay]

end

/-- A bay that is doing something is in SERVICE (R78). -/
theorem inService_of_activity {b : Bay} {a : Activity} (h : b.activity = a) (ha : a ≠ .idle) :
    ∃ st streak strikes, b.condition = .service st streak strikes a := by
  unfold Bay.activity at h
  split at h
  · rename_i st streak strikes x hc
    exact ⟨st, streak, strikes, h ▸ hc⟩
  · exact absurd h.symm ha

theorem bayTaken_ports (n : Nat) (o : OutcomeCode) (s : State) (P : PerLink Port) :
    bayTaken n o { s with ports := P } = ⟨{ s with ports := P }, o, bayFields s n⟩ := rfl

/-! ### WIPE-DONE GOOD -/

theorem reads_wipeDone {n serial code : Nat} (h : Fits [1, 4, 1] [n, serial, code]) :
    Reads .duplication .wipeDone (writeFields [1, 4, 1] [n, serial, code]) (takeWipeDone n serial code) :=
  ⟨writeFields_short rfl (by decide), rfl, threeFields_writeFields _ h, rfl⟩

/-- The good end of a wipe leaves `v` of the cartridge, its pool and the class's lists, before the outcome counts; whatever the
ports and the bays. -/
def WipedTo (s : State) (serial : Nat) (v : State) : Prop :=
  ∀ (P : PerLink Port) (B : List Bay),
    releaseLists { s with ports := P } (wipedCart serial { s with ports := P, bays := B }) = { v with ports := P, bays := B }

/-- WIPE-DONE GOOD of the bay's cartridge (R90, R93, R97). -/
theorem wipeDone_good {s v : State} {n serial m : Nat} {b : Bay} {st : Standing} {streak strikes : Nat} {tag : Half}
    (hn : n < 32) (hs : serial < 2 ^ 32) (hb : s.bays[n]? = some b)
    (hc : b.condition = .service st streak strikes (.wiping serial m)) (hv : WipedTo s serial v) (hr : Ready .duplication s) :
    let s' : State :=
      { v with bays := s.bays.set n { b with condition := goodCondition st streak strikes, last := some ⟨.wipe, serial, .good⟩ } }
    exec (.wipeDone .duplication tag (writeFields [1, 4, 1] [n, serial, 1])) s =
      .next (s.after .duplication tag .wipeDone ⟨.done, bayFields s' n⟩ [] s') := by
  intro s'
  refine congrArg Host.Outcome.next ((reads_wipeDone (.cons (by omega) (.cons hs (.cons (by decide) .nil)))).after hr [] ?_)
  have hfinish : ∀ P, finishWipe n serial true .good { s with ports := P } = { s' with ports := P } := fun P => by
    have hidle : idleBay n .wipe serial .good { s with ports := P } =
        { s with ports := P, bays := s.bays.set n (b.ended (some ⟨.wipe, serial, .good⟩)) } :=
      idleBay_eq (s := { s with ports := P }) _ _ _ hn hb hc
    rw [finishWipe, hidle, wipeEffects, if_pos rfl, hv]
    exact countGood_eq (s := { v with ports := P, bays := s.bays }) hn hb _ hc
  have hbay : (admitted .duplication tag Kind.wipeDone.code s).bay n = some b := bay_some hn hb
  have hon : b.condition ≠ .offline := by simp [hc]
  have hact : b.activity = .wiping serial m := by simp [Bay.activity, hc]
  simp only [takeWipeDone, bayCheck, hbay, if_neg hon, wipeOutcome, hact, if_true, BEq.rfl]
  exact (congrArg (bayTaken n .done) (hfinish _)).trans (bayTaken_ports ..)

section
variable {s : State} {serial : Nat} {r : Cart} (hr : s.carts.get serial = some r)
include hr

/-- A cartridge at the wear limit is RETIRED, and no list is released (R69). -/
theorem wipedTo_retired (hw : s.settings.wearLimit ≤ r.writes) :
    WipedTo s serial { s with carts := s.carts.put serial { r with state := .retired } } := by
  intro P B
  have hget : ({ s with ports := P, bays := B } : State).carts.get serial = some r := hr
  simp only [wipedCart, hget, if_pos hw]
  exact releaseLists_quiet (jobFreed_of_jobs (by rfl)) fun _ h => h

/-- A cartridge below the wear limit joins the tail of its pool; with no starved job its class's list is released where the free
blanks come to stand above the critical level (R50, R69). -/
theorem wipedTo_blank {released : Prop} [Decidable released] (hw : r.writes < s.settings.wearLimit)
    (hstarved : s.starved.get r.cls = [])
    (hrel : released ↔ (s.blank.get r.cls).length - s.reserved.get r.cls ≤ s.settings.critical.get r.cls
      ∧ s.settings.critical.get r.cls < (s.blank.get r.cls).length + 1 - s.reserved.get r.cls) :
    WipedTo s serial { s with
      carts := s.carts.put serial { r with state := .blank }
      blank := s.blank.set r.cls (s.blank.get r.cls ++ [serial])
      passQueue := if released then (s.blocked.get r.cls).foldl appendNew s.passQueue else s.passQueue
      blocked := if released then s.blocked.set r.cls [] else s.blocked
      stays := if released then s.stays.set r.cls [] else s.stays } := by
  intro P B
  have hget : ({ s with ports := P, bays := B } : State).carts.get serial = some r := hr
  simp only [wipedCart, hget, if_neg (Nat.not_le.2 hw), claimStarved, State.putCart, hstarved]
  rw [releaseLists_one (c := r.cls) (jobFreed_of_jobs (by rfl)) fun d hd => ?_]
  · refine releaseIf_eq ((criticalEnds_iff _ _ _).trans (.trans ?_ hrel.symm)) _ _
    simp [freeBlanks]
  · exact criticalHolds_congr (PerClass.get_set_other _ _ hd) rfl rfl

/-- A cartridge below the wear limit joins the tail of its pool, and the class's oldest starved job, which has had no free blank,
takes one (R69, R74). -/
theorem wipedTo_claimed {job : Nat} {rest : List Nat} {j : Job} {u : State} (hw : r.writes < s.settings.wearLimit)
    (hstarved : s.starved.get r.cls = job :: rest) (hj : s.jobs.get job = some j) (hcls : j.cls = r.cls)
    (hnone : (s.blank.get r.cls).length - s.reserved.get r.cls = 0)
    (hfree : 0 < (s.blank.get r.cls).length + 1 - s.reserved.get r.cls)
    (hu : u.jobs = s.jobs.put job { j with state := .queued }) :
    WipedTo s serial { s with
      carts := s.carts.put serial { r with state := .blank }
      blank := s.blank.set r.cls (s.blank.get r.cls ++ [serial])
      starved := s.starved.set r.cls rest
      jobs := s.jobs.put job { j with state := .queued }
      reserved := s.reserved.set r.cls (s.reserved.get r.cls + 1)
      jobQueue := insertBefore (jobBefore u) job s.jobQueue } := by
  intro P B
  have hget : ({ s with ports := P, bays := B } : State).carts.get serial = some r := hr
  have hpos : 0 < (s.blank.get r.cls ++ [serial]).length - s.reserved.get r.cls := by simpa using hfree
  rw [← hcls] at hstarved hpos hnone hfree
  simp only [wipedCart, hget, if_neg (Nat.not_le.2 hw), claimStarved, State.putCart, hcls.symm, hstarved, freeBlanks,
    PerClass.get_set_same, if_pos hpos, hj, queueWithBlank, enqueueJob, reserveBlank, State.putJob]
  rw [jobBefore_congr (s := u) hu.symm]
  refine releaseLists_quiet (jobFreed_same fun e he hgone => ?_) fun d h => ?_
  · have hlive : s.jobs.get e.1 ≠ none := fun h => (Table.get_eq_none_iff _ _).1 h (List.mem_map_of_mem he)
    rw [Table.get_put] at hgone
    split at hgone
    · cases hgone
    · exact hlive hgone
  · rw [criticalHolds_iff, freeBlanks] at h ⊢
    by_cases hd : d = j.cls
    · subst hd
      rw [PerClass.get_set_same, PerClass.get_set_same, List.length_append, List.length_singleton]
      omega
    · rwa [PerClass.get_set_other _ _ hd, PerClass.get_set_other _ _ hd]

end

/-- Settles O36, by the wear limit and the class's starved list. -/
theorem goodWipe : Obligations.GoodWipe := by
  intro tag s n serial m b st streak strikes r hready hn hs hb hc hr c wipe counted bays done
  have hcounted : counted = goodCondition st streak strikes := by
    cases st
    · exact (goodCondition_qualifying _ _).symm
    · exact (goodCondition_qualified _ _).symm
  have hdone : ∀ v, WipedTo s serial v → done { v with bays := bays } := fun v hv => by
    simp only [done, bays, hcounted]
    exact wipeDone_good hn hs hb hc hv hready
  refine ⟨fun hw => hdone _ (wipedTo_retired hr hw), fun hw => ⟨fun hstarved => ?_, fun job rest j hstarved hj hcls => ?_⟩⟩
  · intro released
    have hblank := hdone _ (wipedTo_blank (released := released) hr hw hstarved .rfl)
    exact hblank
  · intro hnone hfree s1
    have hclaimed := hdone _ (wipedTo_claimed (u := s1) hr hw hstarved hj hcls hnone hfree rfl)
    exact hclaimed

/-! ### BAY-OFFLINE -/

theorem reads_bayOffline {n : Nat} (h : n < 256) :
    Reads .duplication .bayOffline (writeFields [1] [n]) (takeBayOffline n) :=
  ⟨writeFields_short rfl (by decide), rfl, oneField_writeFields (w := 1) _ h, rfl⟩

/-- BAY-OFFLINE of a bay in use, by what it leaves of the activity under way and the bay (R83). -/
theorem bayOffline_taken {s s' : State} {n : Nat} {b : Bay} {tag : Half} (hn : n < 32) (hb : s.bays[n]? = some b)
    (hon : b.condition ≠ .offline) (hr : Ready .duplication s)
    (h : ∀ P : PerLink Port,
      setCondition n .offline (abandonActivity n b { s with ports := P }) = { s' with ports := P }) :
    exec (.bayOffline .duplication tag (writeFields [1] [n])) s =
      .next (s.after .duplication tag .bayOffline ⟨.done, bayFields s' n⟩ [] s') := by
  refine congrArg Host.Outcome.next ((reads_bayOffline (by omega)).after hr [] ?_)
  have hbay : (admitted .duplication tag Kind.bayOffline.code s).bay n = some b := bay_some hn hb
  simp only [takeBayOffline, bayCheck, hbay, if_neg hon]
  exact (congrArg (bayTaken n .done) (h _)).trans (bayTaken_ports ..)

/-- A write or a wipe under way leaves `v` of its cartridge and its job when it is abandoned, whatever the ports and the bays
(R83). -/
def AbandonedTo (s : State) (a : Activity) (v : State) : Prop :=
  ∀ (P : PerLink Port) (B : List Bay),
    (match a with
      | .idle => { s with ports := P, bays := B }
      | .writing job serial _ => abandonWrite { s with ports := P } job serial { s with ports := P, bays := B }
      | .wiping serial _ => toUnwiped serial { s with ports := P, bays := B }) = { v with ports := P, bays := B }

/-- The kind and the cartridge of what a bay does. -/
def Activity.work : Activity → Option (WorkKind × Nat)
  | .idle => none
  | .writing job serial _ => some (.write job, serial)
  | .wiping serial _ => some (.wipe, serial)

/-- BAY-OFFLINE of a bay that writes or wipes (R83). -/
theorem bayOffline_abandons {s v : State} {n serial : Nat} {b : Bay} {k : WorkKind} {tag : Half} (hn : n < 32)
    (hb : s.bays[n]? = some b) (hwork : b.activity.work = some (k, serial)) (hr : Ready .duplication s)
    (hv : AbandonedTo s b.activity v) :
    let s' : State := { v with bays := s.bays.set n { b with condition := .offline, last := some ⟨k, serial, .abandoned⟩ } }
    exec (.bayOffline .duplication tag (writeFields [1] [n])) s =
      .next (s.after .duplication tag .bayOffline ⟨.done, bayFields s' n⟩ [] s') := by
  intro s'
  obtain ⟨st, streak, strikes, hc⟩ := inService_of_activity (b := b) rfl (by rintro h; rw [h] at hwork; cases hwork)
  have hidle : ∀ P, idleBay n k serial .abandoned { s with ports := P } =
      { s with ports := P, bays := s.bays.set n (b.ended (some ⟨k, serial, .abandoned⟩)) } :=
    fun P => idleBay_eq (s := { s with ports := P }) _ _ _ hn hb hc
  refine bayOffline_taken hn hb (by simp [hc]) hr fun P => ?_
  have habandon : abandonActivity n b { s with ports := P } =
      { v with ports := P, bays := s.bays.set n (b.ended (some ⟨k, serial, .abandoned⟩)) } := by
    refine Eq.trans ?_ (hv P _)
    unfold abandonActivity
    cases ha : b.activity with
    | idle => rw [ha] at hwork; cases hwork
    | writing job serial' m =>
      rw [ha] at hwork
      cases hwork
      simp only [hidle]
    | wiping serial' m =>
      rw [ha] at hwork
      cases hwork
      simp only [hidle]
  rw [habandon]
  exact setCondition_ended (s := { v with ports := P, bays := s.bays }) hn hb _ _

/-- The state once a cartridge went back to the UNWIPED tail (R67). -/
def State.cartBack (s : State) (serial : Nat) (c : Cart) : State :=
  { s with carts := s.carts.put serial { c with state := .unwiped }, unwiped := s.unwiped ++ [serial] }

section
variable {s : State} {serial : Nat} {c : Cart} (hcart : s.carts.get serial = some c)
include hcart

theorem toUnwiped_back (P : PerLink Port) (B : List Bay) :
    toUnwiped serial { s with ports := P, bays := B } = { s.cartBack serial c with ports := P, bays := B } :=
  toUnwiped_eq (s := { s with ports := P, bays := B }) hcart

theorem abandonedTo_wipe (m : Nat) : AbandonedTo s (.wiping serial m) (s.cartBack serial c) :=
  toUnwiped_back hcart

variable {job m bay' serial' : Nat} {j : Job} (hj : s.jobs.get job = some j)
include hj

/-- An ASSIGNED job needs a new blank, its attempts not raised (R73, R83). -/
theorem abandonWrite_assigned (hst : j.state = .assigned bay' serial') (P : PerLink Port) (B : List Bay) :
    abandonWrite { s with ports := P } job serial { s with ports := P, bays := B } =
      needBlank job { s.cartBack serial c with ports := P, bays := B } := by
  have hget : (s.cartBack serial c).jobs.get job = some j := hj
  obtain ⟨stamp, order, patron, cls, titles, band, state, attempts⟩ := j
  subst hst
  simp only [abandonWrite, toUnwiped_back hcart, hget]

theorem abandonedTo_queued {u : State} (hst : j.state = .assigned bay' serial')
    (hfree : s.reserved.get j.cls < (s.blank.get j.cls).length)
    (hu : u.jobs = s.jobs.put job { j with state := .queued }) :
    AbandonedTo s (.writing job serial m) { s.cartBack serial c with
      jobs := s.jobs.put job { j with state := .queued }
      jobQueue := insertBefore (jobBefore u) job s.jobQueue
      reserved := s.reserved.set j.cls (s.reserved.get j.cls + 1) } := by
  intro P B
  have hget : (s.cartBack serial c).jobs.get job = some j := hj
  have hpos : 0 < freeBlanks { s.cartBack serial c with ports := P, bays := B } j.cls := Nat.sub_pos_of_lt hfree
  refine (abandonWrite_assigned hcart hj hst P B).trans ?_
  simp only [needBlank, hget, if_pos hpos, queueWithBlank, enqueueJob, reserveBlank, State.putJob]
  rw [jobBefore_congr (s := u) hu.symm]
  rfl

theorem abandonedTo_starved {u : State} (hst : j.state = .assigned bay' serial')
    (hfree : (s.blank.get j.cls).length ≤ s.reserved.get j.cls)
    (hu : u.jobs = s.jobs.put job { j with state := .starved }) :
    AbandonedTo s (.writing job serial m) { s.cartBack serial c with
      jobs := s.jobs.put job { j with state := .starved }
      starved := s.starved.set j.cls (insertBefore (stampBefore u) job (s.starved.get j.cls)) } := by
  intro P B
  have hget : (s.cartBack serial c).jobs.get job = some j := hj
  have hnone : ¬ 0 < freeBlanks { s.cartBack serial c with ports := P, bays := B } j.cls :=
    Nat.not_lt.2 (Nat.le_of_eq (Nat.sub_eq_zero_of_le hfree))
  refine (abandonWrite_assigned hcart hj hst P B).trans ?_
  simp only [needBlank, hget, if_neg hnone, starveJob, State.putJob]
  rw [stampBefore_congr (s := u) hu.symm]
  rfl

/-- A CANCEL-PENDING job is freed, which releases the marked lists (R51, R83). -/
theorem abandonedTo_cancelled (hst : j.state = .cancelPending bay' serial') :
    AbandonedTo s (.writing job serial m) ({ s.cartBack serial c with jobs := s.jobs.del job } : State).jobRecordFreed := by
  intro P B
  have hget : (s.cartBack serial c).jobs.get job = some j := hj
  obtain ⟨stamp, order, patron, cls, titles, band, state, attempts⟩ := j
  subst hst
  simp only [abandonWrite, toUnwiped_back hcart, hget]
  exact releaseLists_freed (jobFreed_del hj (Table.get_del_same ..)) rfl rfl rfl

end

/-- Settles O32, by what the bay is doing and the state of its job. -/
theorem bayOffline : Obligations.BayOffline := by
  intro tag s n b hr hn hb offline done abandoned
  refine ⟨fun hon hidle => ?_, fun serial m c ha hcart => ?_, fun job serial m c j bay' serial' ha hcart hj hst => ?_,
    fun job serial m c j bay' serial' ha hcart hj hst => ?_⟩
  · refine bayOffline_taken hn hb hon hr fun P => ?_
    simp only [abandonActivity, hidle]
    exact setCondition_eq (s := { s with ports := P }) hn hb _
  · have hwipe := bayOffline_abandons (tag := tag) hn hb (by rw [ha]; rfl) hr (ha ▸ abandonedTo_wipe hcart m)
    exact hwipe
  · intro s1 queued starved
    refine ⟨fun hfree => ?_, fun hfree => ?_⟩
    · have hqueued := bayOffline_abandons (tag := tag) hn hb (by rw [ha]; rfl) hr
        (ha ▸ abandonedTo_queued (m := m) (u := queued) hcart hj hst hfree rfl)
      exact hqueued
    · have hstarved := bayOffline_abandons (tag := tag) hn hb (by rw [ha]; rfl) hr
        (ha ▸ abandonedTo_starved (m := m) (u := starved) hcart hj hst hfree rfl)
      exact hstarved
  · have hcancelled := bayOffline_abandons (tag := tag) hn hb (by rw [ha]; rfl) hr
      (ha ▸ abandonedTo_cancelled (m := m) hcart hj hst)
    exact hcancelled

end Sys2Proof.Machine
end

section
/-! SUPPORT. The return of an INCOMPLETE set: its late volumes (R161), and SET-FOUND (R162). -/

namespace Sys2Proof.Machine

-- One declaration at a time: the check's memory does not hold many side by side.
set_option Elab.async false

theorem reads_setFound {k : Nat} (h : k < 65536) : Reads .mailroom .setFound (writeFields [2] [k]) (takeSetFound k) :=
  ⟨writeFields_short rfl (by decide), rfl, oneField_writeFields (w := 2) _ h, rfl⟩

/-! ### SET-FOUND -/

section
variable {s : State} {k : Nat} {c : CopySet} (hc : s.copySets.get k = some c)

theorem takeSetFound_noSuch (h : s.copySets.get k = none) : takeSetFound k s = refused s .noSuch := by
  simp only [takeSetFound, h]

include hc

theorem takeSetFound_state (h : ∀ vs, c.state ≠ .incomplete vs) : takeSetFound k s = ⟨s, .state, [f1 c.state.code]⟩ := by
  cases hst : c.state with
  | incomplete missing => exact absurd hst (h missing)
  | _ => simp only [takeSetFound, hc, hst]

theorem takeSetFound_done {ti : Title} {missing : List Nat} (ht : s.titles.get c.title = some ti)
    (hst : c.state = .incomplete missing) :
    takeSetFound k s = ⟨{ s with
      copySets := s.copySets.put k { c with state := .available }
      pendingOffers := if ti.waiting = [] ∨ k ∈ s.pendingOffers then s.pendingOffers else s.pendingOffers ++ [k] },
      .done, missing.map f1⟩ := by
  simp only [takeSetFound, hc, hst]
  rw [makeAvailable_eq hc ht]

end

/-! ### A late volume -/

/-- The answer of a VOL-IN that leaves the set INCOMPLETE (R155, R161). -/
theorem volTaken_incomplete {t : State} {k : Nat} {c : CopySet} {ti : Title} {weights missing : List Nat} (o : OutcomeCode)
    (hc : t.copySets.get k = some c) (ht : t.titles.get c.title = some ti) (hb : ti.braille = some weights)
    (hst : c.state = .incomplete missing) :
    volTaken t k o false false =
      ⟨t, o, [f2 k, f2 c.title, f2 weights.length, f1 6] ++ missing.map f1 ++ [f1 0, f1 0]⟩ := by
  simp only [volTaken, volAnswer, hc, volumeCount_eq ht hb, hst, volStateFields]
  rfl

/-- The answer of a VOL-IN that makes the set AVAILABLE with no loan to close (R155, R161). -/
theorem volTaken_whole {t : State} {k : Nat} {c : CopySet} {ti : Title} {weights : List Nat} (o : OutcomeCode)
    (hc : t.copySets.get k = some c) (ht : t.titles.get c.title = some ti) (hb : ti.braille = some weights)
    (hst : c.state = .available) :
    volTaken t k o false true = ⟨t, o, [f2 k, f2 c.title, f2 weights.length, f1 1] ++ [f1 0, f1 1]⟩ := by
  simp only [volTaken, volAnswer, hc, volumeCount_eq ht hb, hst, volStateFields]
  rfl

section
variable {s : State} {k v : Nat} {c : CopySet} {ti : Title} {weights missing : List Nat}
  (hc : s.copySets.get k = some c) (ht : s.titles.get c.title = some ti) (hb : ti.braille = some weights)
  (h1 : 1 ≤ v) (h2 : v ≤ weights.length) (hst : c.state = .incomplete missing)
include hc ht hb h1 h2 hst

theorem takeVolIn_incomplete : takeVolIn k v s = volInIncomplete k c missing v s := by
  have hv : ¬ (v = 0 ∨ weights.length < v) := by omega
  simp only [takeVolIn, hc, volumeCount_eq ht hb, if_neg hv, hst]

theorem takeVolIn_notMissing (h : v ∉ missing) :
    takeVolIn k v s =
      ⟨s, .already, [f2 k, f2 c.title, f2 weights.length, f1 6] ++ missing.map f1 ++ [f1 0, f1 0]⟩ := by
  rw [takeVolIn_incomplete hc ht hb h1 h2 hst, volInIncomplete, if_pos h, volTaken_incomplete _ hc ht hb hst]

theorem takeVolIn_lastMissing (h : missing = [v]) :
    takeVolIn k v s = ⟨{ s with
      copySets := s.copySets.put k { c with state := .available }
      pendingOffers := if ti.waiting = [] ∨ k ∈ s.pendingOffers then s.pendingOffers else s.pendingOffers ++ [k] },
      .done, [f2 k, f2 c.title, f2 weights.length, f1 1] ++ [f1 0, f1 1]⟩ := by
  have hlast : (missing.erase v).isEmpty = true := by simp [h]
  rw [takeVolIn_incomplete hc ht hb h1 h2 hst, volInIncomplete, if_neg (by simp [h]), if_pos hlast, makeAvailable_eq hc ht]
  exact volTaken_whole (c := { c with state := .available }) _ (Table.get_put_same ..) ht hb rfl

theorem takeVolIn_oneMissing (hv : v ∈ missing) (h : missing.erase v ≠ []) :
    takeVolIn k v s = ⟨{ s with copySets := s.copySets.put k { c with state := .incomplete (missing.erase v) } },
      .done, [f2 k, f2 c.title, f2 weights.length, f1 6] ++ (missing.erase v).map f1 ++ [f1 0, f1 0]⟩ := by
  have hmore : ¬ (missing.erase v).isEmpty = true := by simpa using h
  rw [takeVolIn_incomplete hc ht hb h1 h2 hst, volInIncomplete, if_neg (not_not_intro hv), if_neg hmore, State.putSet]
  exact volTaken_incomplete (c := { c with state := .incomplete (missing.erase v) }) _ (Table.get_put_same ..) ht hb rfl

end

/-- Settles O49, by the set's state, and for a volume by whether it is missing and the only one. -/
theorem lateVolumesAndSetFound : Obligations.LateVolumesAndSetFound := by
  intro tag s k hk found offers available
  refine ⟨fun hr h => congrArg Host.Outcome.next ((reads_setFound hk).answers hr (takeSetFound_noSuch h)), fun c ti hc ht =>
    ⟨fun hr h => congrArg Host.Outcome.next ((reads_setFound hk).answers hr (takeSetFound_state hc h)), fun missing hst =>
      ⟨fun hr => ?_, fun weights v hr hb h1 h2 hv => ?_⟩⟩⟩
  · exact congrArg Host.Outcome.next ((reads_setFound hk).reply hr
      (takeSetFound_done (s := admitted .mailroom tag Kind.setFound.code s) hc ht hst)
      ⟨rfl, rfl, rfl, rfl, rfl, rfl, rfl, rfl, rfl⟩)
  · have hreads := reads_volIn (k := k) (v := v) (.cons hk (.cons hv .nil))
    refine ⟨fun h => ?_, fun h => ?_, fun hv h => ?_⟩
    · exact congrArg Host.Outcome.next (hreads.answers hr (takeVolIn_notMissing hc ht hb h1 h2 hst h))
    · exact congrArg Host.Outcome.next (hreads.reply hr
        (takeVolIn_lastMissing (s := admitted .returns tag Kind.volIn.code s) hc ht hb h1 h2 hst h)
        ⟨rfl, rfl, rfl, rfl, rfl, rfl, rfl, rfl, rfl⟩)
    · exact congrArg Host.Outcome.next (hreads.reply hr
        (takeVolIn_oneMissing (s := admitted .returns tag Kind.volIn.code s) hc ht hb h1 h2 hst hv h)
        ⟨rfl, rfl, rfl, rfl, rfl, rfl, rfl, rfl, rfl⟩)

end Sys2Proof.Machine
end

section
/-! SUPPORT. One pass of the Selection Engine (R44, R54 to R60): when it walks, its walk over one wish, and what it creates. -/

namespace Sys2Proof.Machine

-- One declaration at a time: the check's memory does not hold many side by side.
set_option Elab.async false

/-! ### The pass as an event -/

theorem endEvent_ended (s u : State) : endEvent s u = s.ended [] u :=
  endEvent_eq s u []

theorem takeWaiting_none {l : Link} {s : State} (h : (s.port l).waiting = none) : takeWaiting l s = s := by
  unfold takeWaiting
  rw [h]
  cases (s.port l).inProgress <;> rfl

/-- A pass with no request waiting for it is its own event (R22, R44). -/
theorem exec_selectionPass {s : State} (hr : s.restartAsserted = false) (hw : (s.port .order).waiting = none) :
    exec .selectionPass s = .next (s.ended [] (takePass s)) := by
  have hnone : ((endEvent s (takePass s)).port .order).waiting = none := by
    rw [endEvent_waiting, State.port, takePass_ports]
    exact hw
  have hexec : exec .selectionPass s =
      .next (if s.restartAsserted then s else takeWaiting .order (endEvent s (takePass s))) := rfl
  rw [hexec, hr, if_neg Bool.false_ne_true, takeWaiting_none hnone, endEvent_ended]

/-- A pass that changes no condition ends as it stands. -/
theorem ended_same {s t : State} (hq : SameConditions s t) (hp : t.ports = s.ports) : s.ended [] t = t := by
  rw [← endEvent_ended]
  exact endEvent_quiet hq fun l n hn => by rwa [State.port, hp] at hn

theorem with_running_none {s : State} (h : s.running = none) : { s with running := none } = s := by
  rw [← h]

/-- The pass queue's pass: the patron at its head leaves it (R42, R44). -/
theorem takePass_queue {s : State} {n : Nat} {rest : List Nat} (hr : s.running = none) (ho : s.offer = none)
    (hp : s.pendingOffers = []) (hq : s.passQueue = n :: rest) :
    takePass s = runPass n none { s with passQueue := rest } := by
  have hstart : startPass s = { s with passQueue := rest, running := some { patron := n, offered := none } } := by
    rw [startPass_noOffer hr ho hp, startQueuePass, hq]
  have hrun : ({ s with passQueue := rest, running := none } : State) = { s with passQueue := rest } :=
    with_running_none (s := { s with passQueue := rest }) hr
  simp only [takePass, hstart, finishPass, hrun]

theorem runPass_walks {s : State} {n : Nat} {p : Patron} (offered : Option Nat) (hp : s.patrons.get n = some p)
    (hst : p.state = .active) (hfree : p.held < p.allowance) (hheld : s.heldTotal < 40960) :
    runPass n offered s = walkPass n p offered s := by
  have hmax : Config.maxHeldTotal = 40960 := rfl
  have hwants : p.wants = true := by simp [Patron.wants, hst, hfree]
  simp only [runPass, hp, hmax, if_pos (And.intro hwants hheld)]

/-- No pass for a patron that is not ACTIVE or has no free unit, or with the loan records spoken for (R44). -/
theorem runPass_ends {s : State} {n : Nat} {p : Patron} (offered : Option Nat) (hp : s.patrons.get n = some p)
    (h : p.state ≠ .active ∨ p.allowance ≤ p.held ∨ 40960 ≤ s.heldTotal) : runPass n offered s = s := by
  have hmax : Config.maxHeldTotal = 40960 := rfl
  have hno : ¬ (p.wants = true ∧ s.heldTotal < 40960) := by
    simp only [Patron.wants, Bool.and_eq_true, beq_iff_eq, decide_eq_true_iff]
    rintro ⟨⟨h1, h2⟩, h3⟩
    rcases h with h | h | h
    · exact h h1
    · omega
    · omega
  simp only [runPass, hp, hmax, if_neg hno]

/-! ### The settlement of the blocked lists -/

/-- The blocked lists without a patron, but for those that R24 keeps it on (R49). -/
def State.listsLeft (s : State) (n : Nat) : PerClass (List Nat) :=
  ⟨settleBlocked n false s.stays.c1 s.blocked.c1, settleBlocked n false s.stays.c2 s.blocked.c2,
    settleBlocked n false s.stays.c3 s.blocked.c3⟩

theorem settleAll_unnoted {n : Nat} {p : Plan} (s : State) (h : p.noted = ⟨false, false, false⟩) :
    settleAll n p s = { s with blocked := s.listsLeft n } := by
  rw [settleAll, h]
  rfl

/-! ### The plan before and after an entry -/

/-- The plan before the first entry (R54). -/
def Plan.start (free : Nat) : Plan :=
  { items := [], free := free, left := [], noted := ⟨false, false, false⟩ }

theorem walk_eq (fr : WalkFrame) (free : Nat) (ws : List WishEntry) (s : State) :
    walk fr free ws s = ws.foldl (walkEntry fr) (s, Plan.start free) := rfl

theorem walkPass_eq (n : Nat) (p : Patron) (offered : Option Nat) {s t : State} {plan : Plan} {o : Nat}
    (ho : freshNumber s.orders s.counters.order = o)
    (h : walk { limit := p.limit, cls := p.cls, order := o, offered := offered } (p.allowance - p.held) p.wishes s = (t, plan)) :
    walkPass n p offered s = settleAll n plan (if plan.items.isEmpty then t else createOrder o n p plan t) := by
  subst ho
  simp only [walkPass, h]

theorem canUseUnit_iff (s : State) (p : Plan) : canUseUnit s p = true ↔
    0 < p.free ∧ s.heldTotal + p.items.length < 40960 ∧ (p.items ≠ [] ∨ s.orders.length < 8192) := by
  have hheld : Config.maxHeldTotal = 40960 := rfl
  have horders : Config.maxOrders = 8192 := rfl
  simp [canUseUnit, hheld, horders, and_assoc]

theorem canUseUnit_start {s : State} {free : Nat} (hfree : 0 < free) (hheld : s.heldTotal < 40960)
    (horders : s.orders.length < 8192) : canUseUnit s (Plan.start free) = true :=
  (canUseUnit_iff _ _).2 ⟨hfree, hheld, .inr horders⟩

section
variable (fr : WalkFrame) {s : State} (p : Plan) {w : WishEntry} {ti : Title} (hti : s.titles.get w.title = some ti)
  (hin : ti.withdrawn = false)
include hti hin

theorem walkEntry_braille {weights : List Nat} (hf : w.format = .braille) (hb : ti.braille = some weights) :
    walkEntry fr (s, p) w = walkBraille fr w ti p s := by
  simp only [walkEntry, hti, hin, Bool.false_eq_true, if_false, hf, hb]

theorem walkEntry_cartridge {img : Image} (hf : w.format = .cartridge) (hi : ti.image = some img) :
    walkEntry fr (s, p) w = walkCartridge fr w img p s := by
  simp only [walkEntry, hti, hin, Bool.false_eq_true, if_false, hf, hi]

/-- An entry whose title lacks its format is skipped (R54). -/
theorem walkEntry_lacking (h : w.format = .cartridge ∧ ti.image = none ∨ w.format = .braille ∧ ti.braille = none) :
    walkEntry fr (s, p) w = (s, p.skip w) := by
  rcases h with ⟨hf, hi⟩ | ⟨hf, hb⟩
  · simp only [walkEntry, hti, hin, Bool.false_eq_true, if_false, hf, hi]
  · simp only [walkEntry, hti, hin, Bool.false_eq_true, if_false, hf, hb]

end

/-- An entry of a withdrawn title, or of none, is skipped (R54). -/
theorem walkEntry_withdrawn (fr : WalkFrame) {s : State} (p : Plan) {w : WishEntry}
    (h : ∀ ti, s.titles.get w.title = some ti → ti.withdrawn = true) : walkEntry fr (s, p) w = (s, p.skip w) := by
  unfold walkEntry
  split
  · rfl
  · rename_i ti hti
    rw [if_pos (h ti hti)]

/-! ### Sets taken -/

theorem usable_iff (s : State) (t k : Nat) : usable s t k = true ↔
    ∃ c, s.copySets.get k = some c ∧ c.title = t ∧ c.state = .available := by
  unfold usable
  cases h : s.copySets.get k <;> simp

theorem find_usable {s : State} {t k : Nat} {c : CopySet} {front back : List Nat} (hk : s.copySets.get k = some c)
    (ht : c.title = t) (hst : c.state = .available)
    (hfront : ∀ m ∈ front, ∀ x, s.copySets.get m = some x → x.state ≠ .available) :
    (front ++ k :: back).find? (usable s t) = some k := by
  have hnone : front.find? (usable s t) = none := List.find?_eq_none.2 fun m hm hu => by
    obtain ⟨x, hx, _, hav⟩ := (usable_iff _ _ _).1 hu
    exact hfront m hm x hx hav
  rw [List.find?_append, hnone, List.find?_cons_of_pos ((usable_iff _ _ _).2 ⟨c, hk, ht, hst⟩), Option.none_or]

theorem takenCount_start (free : Nat) : (Plan.start free).takenCount = 0 := rfl

theorem openedCount_start (free : Nat) : (Plan.start free).openedCount = 0 := rfl

/-- The walk takes a set for the first entry it places (R55). -/
theorem walk_set {fr : WalkFrame} {free k : Nat} {s : State} {w : WishEntry} {ti : Title} {weights : List Nat} {c : CopySet}
    (hti : s.titles.get w.title = some ti) (hin : ti.withdrawn = false) (hf : w.format = .braille)
    (hb : ti.braille = some weights) (hunit : canUseUnit s (Plan.start free) = true) (htasks : s.tasks.length < 4096)
    (hk : usableSet s fr.offered w.title ti = some k) (hc : s.copySets.get k = some c) :
    walk fr free [w] s = ({ s with copySets := s.copySets.put k { c with state := .reserved fr.order 1 } },
      { items := [.copySet k w], free := free - 1, left := [], noted := ⟨false, false, false⟩ }) := by
  have hmax : Config.maxTasks = 4096 := rfl
  rw [walk_eq, List.foldl_cons, List.foldl_nil, walkEntry_braille fr _ hti hin hf hb]
  simp only [walkBraille, hunit, takenCount_start, hmax, Nat.add_zero, decide_eq_true htasks, Bool.and_self, if_true, hk, takeSet,
    Table.modify_some _ hc]
  rfl

/-! ### What a pass with one item creates -/

/-- The places of pull tasks are read from the task records alone (R106). -/
theorem taskBefore_congr {s t : State} (h : t.tasks = s.tasks) : taskBefore t = taskBefore s := by
  funext a b
  rw [taskBefore, taskBefore, h]

theorem leaveWaitingAll_single (n : Nat) (w : WishEntry) (s : State) :
    leaveWaitingAll n [w] s = if w.format = .braille then leaveWaiting n w.title s else s := rfl

theorem planBand_single (place : Nat) (object : ItemObject) (w : WishEntry) (ready dispatched : Bool) :
    planBand [⟨place, object, w.band, [w], ready, dispatched⟩] = w.band := by
  cases hb : w.band <;> simp [planBand, hb]

/-- The state once a pass placed one entry, by the record of its item, before the blocked lists are settled (R59, R60). -/
def State.onePlaced (s : State) (n o : Nat) (p : Patron) (w : WishEntry) (object : ItemObject) : State :=
  { s with
    patrons := s.patrons.put n { p with wishes := [], held := p.held + 1 }
    heldTotal := s.heldTotal + 1
    orders := s.orders.put o
      { patron := n, mode := p.mode, band := w.band
        items := [{ place := 1, object := object, band := w.band, entries := [w], ready := false, dispatched := false }] }
    counters := { s.counters with order := if o < 16777215 then o + 1 else 1 } }

/-- The order of one taken set, with its pull task (R59, R60, R106). -/
theorem createOrder_set {s u : State} {n o k free : Nat} {p : Patron} {w : WishEntry} {ti : Title}
    {noted : PerClass Bool} (hf : w.format = .braille) (hti : s.titles.get w.title = some ti)
    (ht : s.tasks.get s.counters.task = none)
    (hu : u.tasks = s.tasks.put s.counters.task { copySet := k, order := o, band := w.band, state := .queued }) :
    createOrder o n p { items := [.copySet k w], free := free, left := [], noted := noted } s =
      let t := s.onePlaced n o p w (.copySet k)
      { t with
        titles := s.titles.put w.title { ti with waiting := ti.waiting.erase n }
        tasks := s.tasks.put s.counters.task { copySet := k, order := o, band := w.band, state := .queued }
        counters := { t.counters with task := if s.counters.task < 16777215 then s.counters.task + 1 else 1 }
        pullQueue := insertBefore (taskBefore u) s.counters.task s.pullQueue } := by
  simp only [createOrder, List.foldl_cons, List.foldl_nil, createItem, createTask, freshNumber_free ht, List.nil_append,
    List.length_nil, List.flatMap_cons, List.flatMap_nil, List.append_nil, planBand_single, chargePatron, State.putPatron,
    leaveWaitingAll_single, hf, if_true, leaveWaiting, onWaiting, Table.modify_some _ hti, List.length_singleton, nextNumber_eq]
  rw [taskBefore_congr (s := u) hu.symm]
  rfl

/-- A pass over a single BRAILLE wish that takes a set (R55, R59, R60). -/
theorem walkPass_set {s u : State} {n k : Nat} {p : Patron} {offered : Option Nat} {w : WishEntry} {ti : Title}
    {weights : List Nat} {c : CopySet} (hfree : p.held < p.allowance) (hheld : s.heldTotal < 40960) (hwish : p.wishes = [w])
    (hti : s.titles.get w.title = some ti) (hin : ti.withdrawn = false) (hf : w.format = .braille)
    (hb : ti.braille = some weights) (horders : s.orders.length < 8192) (htasks : s.tasks.length < 4096)
    (ho : s.orders.get s.counters.order = none) (ht : s.tasks.get s.counters.task = none)
    (hk : usableSet s offered w.title ti = some k) (hc : s.copySets.get k = some c)
    (hu : u.tasks = s.tasks.put s.counters.task { copySet := k, order := s.counters.order, band := w.band, state := .queued }) :
    walkPass n p offered s =
      let t := s.onePlaced n s.counters.order p w (.copySet k)
      { t with
        titles := s.titles.put w.title { ti with waiting := ti.waiting.erase n }
        copySets := s.copySets.put k { c with state := .reserved s.counters.order 1 }
        tasks := s.tasks.put s.counters.task { copySet := k, order := s.counters.order, band := w.band, state := .queued }
        counters := { t.counters with task := if s.counters.task < 16777215 then s.counters.task + 1 else 1 }
        pullQueue := insertBefore (taskBefore u) s.counters.task s.pullQueue
        blocked := s.listsLeft n } := by
  have hunit := canUseUnit_start (s := s) (free := p.allowance - p.held) (Nat.sub_pos_of_lt hfree) hheld horders
  have hwalk := walk_set (fr := { limit := p.limit, cls := p.cls, order := s.counters.order, offered := offered }) hti hin hf hb
    hunit htasks hk hc
  have hmade := createOrder_set (s := { s with copySets := s.copySets.put k { c with state := .reserved s.counters.order 1 } })
    (n := n) (o := s.counters.order) (k := k) (free := p.allowance - p.held - 1) (p := p) (noted := ⟨false, false, false⟩)
    hf hti ht hu
  rw [walkPass_eq n p offered (freshNumber_free ho) (hwish ▸ hwalk)]
  exact (congrArg (settleAll n _) hmade).trans (settleAll_unnoted _ rfl)

end Sys2Proof.Machine
end

section
/-! SUPPORT. Copy-set offers (R45, R46): an offer begun, its waiters passed over, and the pass of its next waiter. -/

namespace Sys2Proof.Machine

-- One declaration at a time: the check's memory does not hold many side by side.
set_option Elab.async false

/-! ### The waiters of an offer -/

/-- A waiter that an offer gives a pass (R46). -/
theorem eligible_iff (s : State) (n : Nat) : eligible s n = true ↔
    ∃ p, s.patrons.get n = some p ∧ p.state = .active ∧ p.held < p.allowance := by
  unfold eligible
  cases h : s.patrons.get n <;> simp [Patron.wants]

theorem eligible_false {s : State} {n : Nat}
    (h : ¬ ∃ p, s.patrons.get n = some p ∧ p.state = .active ∧ p.held < p.allowance) : eligible s n = false :=
  Bool.eq_false_iff.2 (mt (eligible_iff s n).1 h)

theorem unconsidered_eq {s : State} {o : Offer} {c : CopySet} {ti : Title} (hc : s.copySets.get o.set = some c)
    (ht : s.titles.get c.title = some ti) : unconsidered s o = ti.waiting.filter (fun m => m ∉ o.considered) := by
  simp only [unconsidered, offerWaiting, hc, ht]

/-- The waiters left once some more were considered. -/
theorem unconsidered_append (s : State) (o : Offer) (l : List Nat) :
    unconsidered s { o with considered := o.considered ++ l } = (unconsidered s o).filter (fun m => m ∉ l) := by
  simp only [unconsidered, List.filter_filter, List.mem_append, not_or, Bool.decide_and, Bool.and_comm]

/-- Waiters none of whom is eligible: each is passed over, and the offer ends (R46). -/
theorem advanceOffer_ends {s : State} {o : Offer} (ho : s.offer = some o)
    (h : ∀ m ∈ unconsidered s o, eligible s m = false) : advanceOffer s = { s with offer := none } := by
  have hall : (unconsidered s o).takeWhile (fun m => !eligible s m) = unconsidered s o := by
    rw [List.takeWhile_eq_self_iff]
    exact fun m hm => by simp [h m hm]
  have hnone : (unconsidered s { o with considered := o.considered ++ unconsidered s o }).isEmpty = true := by
    rw [unconsidered_append, List.isEmpty_iff, List.filter_eq_nil_iff]
    exact fun m hm => by simpa using hm
  simp only [advanceOffer, ho, hall, if_pos hnone]

section
variable {s : State} {o : Offer} {front back : List Nat} {n : Nat} (hparts : unconsidered s o = front ++ n :: back)
  (hnew : n ∉ front)
include hparts hnew

/-- The first eligible waiter stands at the head once those before it are considered. -/
theorem unconsidered_head : (unconsidered s { o with considered := o.considered ++ front }).head? = some n := by
  rw [unconsidered_append, hparts, List.filter_append, List.filter_eq_nil_iff.2 (by simp), List.nil_append,
    List.filter_cons_of_pos (by simpa using hnew), List.head?_cons]

/-- The waiters before the first eligible one are passed over (R46). -/
theorem advanceOffer_moves (ho : s.offer = some o) (hf : ∀ m ∈ front, eligible s m = false) (he : eligible s n = true) :
    advanceOffer s = { s with offer := some { o with considered := o.considered ++ front } } := by
  have hpassed : (unconsidered s o).takeWhile (fun m => !eligible s m) = front := by
    rw [hparts]
    exact (takeWhile_append_stop (fun m hm => by simp [hf m hm]) (fun m hm => by simp_all)).1
  have hmore : ¬ (unconsidered s { o with considered := o.considered ++ front }).isEmpty = true := by
    intro hnone
    have hhead := unconsidered_head hparts hnew
    rw [List.isEmpty_iff.1 hnone] at hhead
    cases hhead
  simp only [advanceOffer, ho, hpassed, if_neg hmore]

end

/-! ### COPY_SET_OFFER -/

theorem exec_copySetOffer {s : State} (hr : s.restartAsserted = false) : exec .copySetOffer s = .next (workOffer s) :=
  congrArg Host.Outcome.next (ownEvent_engine hr (workOffer_frame s))

theorem workOffer_running {s : State} (h : s.running ≠ none) : workOffer s = s :=
  if_pos (Option.isSome_iff_ne_none.2 h)

theorem workOffer_advances {s : State} {o : Offer} (hr : s.running = none) (ho : s.offer = some o) :
    workOffer s = advanceOffer s := by
  simp [workOffer, hr, ho]

theorem workOffer_begins {s : State} {k : Nat} {rest : List Nat} (hr : s.running = none) (ho : s.offer = none)
    (hp : s.pendingOffers = k :: rest) : workOffer s = beginOffer k { s with pendingOffers := rest } := by
  simp [workOffer, hr, ho, beginNextOffer, hp]

theorem workOffer_idle {s : State} (hr : s.running = none) (ho : s.offer = none) (hp : s.pendingOffers = []) :
    workOffer s = s := by
  simp [workOffer, hr, ho, beginNextOffer, hp]

/-- An offer of a set that is not AVAILABLE, or of a withdrawn title, ends at once (R46). -/
theorem offerVoid_iff {s : State} {k : Nat} {c : CopySet} {ti : Title} (hc : s.copySets.get k = some c)
    (ht : s.titles.get c.title = some ti) : offerVoid s k = true ↔ c.state ≠ .available ∨ ti.withdrawn = true := by
  simp [offerVoid, hc, ht]

theorem with_offer_none {s : State} (h : s.offer = none) : { s with offer := none } = s := by
  rw [← h]

section
variable {s : State} {k : Nat} {c : CopySet} {ti : Title} (hc : s.copySets.get k = some c)
  (ht : s.titles.get c.title = some ti) (hv : ¬ (c.state ≠ .available ∨ ti.withdrawn = true))
include hc ht

theorem beginOffer_void (h : c.state ≠ .available ∨ ti.withdrawn = true) : beginOffer k s = s :=
  if_pos ((offerVoid_iff hc ht).2 h)

theorem unconsidered_new : unconsidered { s with offer := some ⟨k, []⟩ } ⟨k, []⟩ = ti.waiting :=
  (unconsidered_eq (s := { s with offer := some ⟨k, []⟩ }) (o := ⟨k, []⟩) hc ht).trans (by simp)

include hv

theorem beginOffer_advances : beginOffer k s = advanceOffer { s with offer := some ⟨k, []⟩ } :=
  if_neg (mt (offerVoid_iff hc ht).1 hv)

/-- An offer none of whose waiters is eligible ends at once (R46). -/
theorem beginOffer_ends (ho : s.offer = none) (h : ∀ m ∈ ti.waiting, eligible s m = false) : beginOffer k s = s := by
  rw [beginOffer_advances hc ht hv, advanceOffer_ends (s := { s with offer := some ⟨k, []⟩ }) rfl
    fun m hm => h m (unconsidered_new hc ht ▸ hm)]
  exact with_offer_none ho

/-- An offer begins before its first eligible waiter (R46). -/
theorem beginOffer_moves {front back : List Nat} {n : Nat} (hparts : ti.waiting = front ++ n :: back) (hnew : n ∉ front)
    (hf : ∀ m ∈ front, eligible s m = false) (he : eligible s n = true) :
    beginOffer k s = { s with offer := some ⟨k, front⟩ } := by
  rw [beginOffer_advances hc ht hv]
  exact advanceOffer_moves ((unconsidered_new hc ht).trans hparts) hnew rfl hf he

end

/-! ### The pass of an offer's waiter -/

theorem settleOffers_some {s : State} {o : Offer} (h : s.offer = some o) (fuel : Nat) : settleOffers fuel s = s := by
  cases fuel with
  | zero => rfl
  | succ fuel => exact if_pos (by simp [h])

/-- The pass of an offer's next waiter begins before the pass queue's (R44, R46). -/
theorem startPass_offer {s : State} {o : Offer} {front back : List Nat} {n : Nat}
    (hr : s.running = none) (ho : s.offer = some o) (hparts : unconsidered s o = front ++ n :: back) (hnew : n ∉ front)
    (hf : ∀ m ∈ front, eligible s m = false) (he : eligible s n = true) :
    startPass s = { s with
      offer := some { o with considered := o.considered ++ front ++ [n] }
      passQueue := s.passQueue.erase n
      running := some { patron := n, offered := some o.set } } := by
  have hsettle := settleOffers_some (s := { s with offer := some { o with considered := o.considered ++ front } }) rfl
    s.pendingOffers.length
  have hhead : (unconsidered { s with offer := some { o with considered := o.considered ++ front } }
      { o with considered := o.considered ++ front }).head? = some n := unconsidered_head hparts hnew
  rw [startPass, hr, if_neg (by simp), startNext, advanceOffer_moves hparts hnew ho hf he]
  simp only [hsettle, hhead, startOfferPass]

/-- An offer's pass that takes the offered set ends the offer (R46). -/
theorem takePass_offer {s t : State} {k n : Nat} {seen : List Nat} (hr : s.running = none)
    (hstart : startPass s = { s with
      offer := some ⟨k, seen⟩, passQueue := s.passQueue.erase n, running := some { patron := n, offered := some k } })
    (hrun : runPass n (some k) { s with offer := some ⟨k, seen⟩, passQueue := s.passQueue.erase n } = t)
    (ho : t.offer = some ⟨k, seen⟩) (hgone : ∀ c, t.copySets.get k = some c → c.state ≠ .available) :
    takePass s = { t with offer := none } := by
  have hnone : ({ s with offer := some ⟨k, seen⟩, passQueue := s.passQueue.erase n, running := none } : State) =
      { s with offer := some ⟨k, seen⟩, passQueue := s.passQueue.erase n } :=
    with_running_none (s := { s with offer := some ⟨k, seen⟩, passQueue := s.passQueue.erase n }) hr
  have hvoid : endOfferPass.offerVoidSet t k = true := by
    unfold endOfferPass.offerVoidSet
    cases hc : t.copySets.get k with
    | none => rfl
    | some c => simpa using hgone c hc
  simp only [takePass, hstart, finishPass, hnone, hrun, ho, endOfferPass, hvoid, Bool.true_or, if_true]

/-- The offered set is the one that its waiter's pass takes first (R46, R55). -/
theorem usableSet_offered {s : State} {k t : Nat} {c : CopySet} (r : Title) (hc : s.copySets.get k = some c)
    (ht : c.title = t) (hst : c.state = .available) : usableSet s (some k) t r = some k :=
  if_pos ((usable_iff s t k).2 ⟨c, hc, ht, hst⟩)

/-- The pass of an offer's waiter whose one wish is the offered title (R46, R55, R59, R60). -/
theorem takePass_waiter {s u : State} {k n : Nat} {seen : List Nat} {p : Patron} {w : WishEntry} {ti : Title}
    {weights : List Nat} {c : CopySet} (hr : s.running = none)
    (hstart : startPass s = { s with
      offer := some ⟨k, seen⟩, passQueue := s.passQueue.erase n, running := some { patron := n, offered := some k } })
    (hp : s.patrons.get n = some p) (hst : p.state = .active) (hfree : p.held < p.allowance) (hheld : s.heldTotal < 40960)
    (hwish : p.wishes = [w]) (hti : s.titles.get w.title = some ti) (hin : ti.withdrawn = false) (hf : w.format = .braille)
    (hb : ti.braille = some weights) (horders : s.orders.length < 8192) (htasks : s.tasks.length < 4096)
    (ho : s.orders.get s.counters.order = none) (ht : s.tasks.get s.counters.task = none)
    (hc : s.copySets.get k = some c) (htitle : c.title = w.title) (hav : c.state = .available)
    (hu : u.tasks = s.tasks.put s.counters.task { copySet := k, order := s.counters.order, band := w.band, state := .queued }) :
    takePass s =
      let t := s.onePlaced n s.counters.order p w (.copySet k)
      { t with
        offer := none
        passQueue := s.passQueue.erase n
        titles := s.titles.put w.title { ti with waiting := ti.waiting.erase n }
        copySets := s.copySets.put k { c with state := .reserved s.counters.order 1 }
        tasks := s.tasks.put s.counters.task { copySet := k, order := s.counters.order, band := w.band, state := .queued }
        counters := { t.counters with task := if s.counters.task < 16777215 then s.counters.task + 1 else 1 }
        pullQueue := insertBefore (taskBefore u) s.counters.task s.pullQueue
        blocked := s.listsLeft n } := by
  have hwalk := walkPass_set (s := { s with offer := some ⟨k, seen⟩, passQueue := s.passQueue.erase n }) (u := u) (n := n)
    (offered := some k) hfree hheld hwish hti hin hf hb horders htasks ho ht (usableSet_offered ti hc htitle hav) hc hu
  have hruns := runPass_walks (s := { s with offer := some ⟨k, seen⟩, passQueue := s.passQueue.erase n }) (some k) hp hst hfree
    hheld
  refine (takePass_offer hr hstart (hruns.trans hwalk) rfl fun x hx => ?_).trans rfl
  rw [Table.get_put_same] at hx
  cases hx
  nofun

/-- Settles O55, by the offer in progress or the oldest pending one, and by its first eligible waiter. -/
theorem copySetOffer : Obligations.CopySetOffer := by
  refine ⟨fun s hr hrun => by rw [exec_copySetOffer hr, workOffer_running hrun], ?_⟩
  intro s k c ti hr hrun hc ht hw offers eligible void
  have hoffers : offers = .next (workOffer s) := exec_copySetOffer hr
  have hineligible : ∀ n, ¬ eligible n → Machine.eligible s n = false := fun n h => eligible_false h
  have heligible : ∀ n, eligible n → Machine.eligible s n = true := fun n h => (eligible_iff s n).2 h
  refine ⟨fun rest ho hp => ?_, fun ho hp => by rw [hoffers, workOffer_idle hrun ho hp], fun done ho => ?_⟩
  · rw [hoffers, workOffer_begins hrun ho hp]
    refine ⟨fun hv => ?_, fun hv hnone => ?_, fun front n back hv hparts hf hnew he => ?_⟩
    · rw [beginOffer_void (s := { s with pendingOffers := rest }) hc ht hv]
    · rw [beginOffer_ends (s := { s with pendingOffers := rest }) hc ht hv ho fun m hm => hineligible m (hnone m hm)]
    · rw [beginOffer_moves (s := { s with pendingOffers := rest }) hc ht hv hparts hnew (fun m hm => hineligible m (hf m hm))
        (heligible n he)]
  · have hwaiting : unconsidered s ⟨k, done⟩ = ti.waiting.filter (fun m => m ∉ done) := unconsidered_eq hc ht
    refine ⟨fun hnone => ?_, fun front n back hparts hf hnew he => ?_⟩
    · rw [hoffers, workOffer_advances hrun ho, advanceOffer_ends ho fun m hm => hineligible m ?_]
      rw [hwaiting, List.mem_filter, decide_eq_true_iff] at hm
      exact hnone m hm.1 hm.2
    · have hfront : ∀ m ∈ front, Machine.eligible s m = false := fun m hm => hineligible m (hf m hm)
      have hstart := startPass_offer hrun ho (hwaiting.trans hparts) hnew hfront (heligible n he)
      refine ⟨?_, fun hempty => ?_, fun p w weights hp hwish hfmt htitle hb hv hheld horders htasks hfreeO hfreeT => ?_⟩
      · rw [hoffers, workOffer_advances hrun ho, advanceOffer_moves (hwaiting.trans hparts) hnew ho hfront (heligible n he)]
      · rw [step_idle hempty, idle_released hr, hstart]
      · intro o task next leaves s'
        obtain ⟨q, hq, hactive, hfree⟩ := he
        obtain rfl : q = p := Option.some.inj (hq.symm.trans hp)
        obtain ⟨hav, hin⟩ := not_or.1 hv
        have hav : c.state = .available := not_not.1 hav
        have hin : ti.withdrawn = false := Bool.eq_false_iff.2 hin
        have hpass := takePass_waiter (u := s') hrun hstart hp hactive hfree hheld hwish (htitle ▸ ht) hin hfmt hb horders htasks
          hfreeO hfreeT hc htitle.symm hav rfl
        rw [htitle] at hpass
        rw [exec_selectionPass hr hw, hpass]
        rfl

end Sys2Proof.Machine
end

section
/-! SUPPORT. A pass over one CARTRIDGE wish (R48, R49, R57, R59), and one over wishes that it skips (R54, R58). -/

namespace Sys2Proof.Machine

-- One declaration at a time: the check's memory does not hold many side by side.
set_option Elab.async false

/-! ### The conditions of opening a cartridge -/

theorem blankOpenable_iff (s : State) (c : Cls) : blankOpenable s c = true ↔
    s.standing = .running ∧ s.settings.critical.get c < freeBlanks s c := by
  simp [blankOpenable, criticalHolds]

theorem jobRecordFree_iff (s : State) (p : Plan) : jobRecordFree s p = true ↔ s.jobs.length + p.openedCount < 4096 := by
  have hmax : Config.maxJobs = 4096 := rfl
  simp [jobRecordFree, hmax]

/-- The title of an entry as a write job holds it (R9, R53). -/
def titleOf (w : WishEntry) (img : Image) : JobTitle :=
  { title := w.title, revision := img.revision, footprint := footprint img.size }

/-- A cartridge as its first title opens it (R57). -/
def Opened.new (c : Cls) (t : JobTitle) (w : WishEntry) : Opened :=
  { cls := c, titles := [t], use := 64 + t.footprint, band := w.band, entries := [w] }

section
variable {fr : WalkFrame} {s : State} {w : WishEntry} {ti : Title} {img : Image} {c : Cls} {free : Nat}
  (hti : s.titles.get w.title = some ti) (hin : ti.withdrawn = false) (hf : w.format = .cartridge) (hi : ti.image = some img)
  (hcls : chooseClass fr.cls (footprint img.size) = c) (hunit : canUseUnit s (Plan.start free) = true)
include hti hin hf hi hcls hunit

/-- The walk opens a cartridge for the first entry it places (R57). -/
theorem walk_opens (hblank : s.standing = .running ∧ s.settings.critical.get c < freeBlanks s c)
    (hjobs : s.jobs.length < 4096) :
    walk fr free [w] s = ({ s with reserved := s.reserved.set c (s.reserved.get c + 1) },
      { items := [.cart (Opened.new c (titleOf w img) w)], free := free - 1, left := [], noted := ⟨false, false, false⟩ }) := by
  have hopen : (blankOpenable s c && jobRecordFree s (Plan.start free)) = true := by
    rw [Bool.and_eq_true, blankOpenable_iff, jobRecordFree_iff, openedCount_start]
    exact ⟨hblank, hjobs⟩
  rw [walk_eq, List.foldl_cons, List.foldl_nil, walkEntry_cartridge fr _ hti hin hf hi]
  have hwalk : walkCartridge fr w img (Plan.start free) s = walkOpen fr (titleOf w img) w (Plan.start free) s := rfl
  have hclass : chooseClass fr.cls (titleOf w img).footprint = c := hcls
  rw [hwalk]
  simp only [walkOpen, hunit, hclass, hopen, if_true]
  rfl

/-- The walk cannot open a cartridge of the class: the entry is skipped and the class noted (R48, R57). -/
theorem walk_blocked
    (h : s.standing = .halted ∨ freeBlanks s c ≤ s.settings.critical.get c ∨ 4096 ≤ s.jobs.length) :
    walk fr free [w] s =
      (if blankOpenable s c then { s with marks := s.marks.set c true } else s,
        { items := [], free := free, left := [w], noted := PerClass.set ⟨false, false, false⟩ c true }) := by
  have hshut : ¬ (blankOpenable s c && jobRecordFree s (Plan.start free)) = true := by
    rw [Bool.and_eq_true, blankOpenable_iff, jobRecordFree_iff, openedCount_start]
    rintro ⟨⟨hrun, hfree⟩, hjobs⟩
    rcases h with h | h | h
    · exact absurd (h.symm.trans hrun) (by simp)
    · omega
    · omega
  rw [walk_eq, List.foldl_cons, List.foldl_nil, walkEntry_cartridge fr _ hti hin hf hi]
  have hwalk : walkCartridge fr w img (Plan.start free) s = walkOpen fr (titleOf w img) w (Plan.start free) s := rfl
  have hclass : chooseClass fr.cls (titleOf w img).footprint = c := hcls
  rw [hwalk]
  simp only [walkOpen, hunit, hclass, if_neg hshut, if_true]
  rfl

end

/-! ### What the pass creates -/

theorem restampIfFull_below {s : State} (h : s.counters.stamp < 4294967295) : restampIfFull s = s := by
  have hmax : Config.maxStamp = 4294967295 := rfl
  exact if_neg (by omega)

/-- The order of one opened cartridge, with its write job (R59, R60, R85). -/
theorem createOrder_job {s u : State} {n o free : Nat} {p : Patron} {w : WishEntry} {c : Cls} {t : JobTitle}
    {noted : PerClass Bool} (hf : w.format = .cartridge) (hstamp : s.counters.stamp < 4294967295)
    (hj : s.jobs.get s.counters.job = none)
    (hu : u.jobs = s.jobs.put s.counters.job
      { stamp := s.counters.stamp + 1, order := o, patron := n, cls := c, titles := [t], band := w.band, state := .queued,
        attempts := 0 }) :
    createOrder o n p { items := [.cart (Opened.new c t w)], free := free, left := [], noted := noted } s =
      let v := s.onePlaced n o p w (.job s.counters.job)
      { v with
        jobs := s.jobs.put s.counters.job
          { stamp := s.counters.stamp + 1, order := o, patron := n, cls := c, titles := [t], band := w.band, state := .queued,
            attempts := 0 }
        counters := { v.counters with
          job := if s.counters.job < 16777215 then s.counters.job + 1 else 1, stamp := s.counters.stamp + 1 }
        jobQueue := insertBefore (jobBefore u) s.counters.job s.jobQueue } := by
  simp only [createOrder, List.foldl_cons, List.foldl_nil, createItem, createJob, restampIfFull_below hstamp,
    freshNumber_free hj, List.nil_append, Opened.new,
    List.length_nil, List.flatMap_cons, List.flatMap_nil, List.append_nil, planBand_single, chargePatron, State.putPatron,
    leaveWaitingAll_single, hf, reduceCtorEq, if_false, List.length_singleton, nextNumber_eq, enqueueJob, State.putJob]
  rw [jobBefore_congr (s := u) hu.symm]
  rfl

theorem settleAll_noted {n : Nat} {p : Plan} {c : Cls} (s : State) (h : p.noted = PerClass.set ⟨false, false, false⟩ c true) :
    settleAll n p s = { s with blocked := (s.listsLeft n).set c (appendNew (s.blocked.get c) n) } := by
  rw [settleAll, h]
  cases c <;> rfl

section
variable {s : State} {n : Nat} {p : Patron} {w : WishEntry} {ti : Title} {img : Image} {c : Cls}
  (hfree : p.held < p.allowance) (hheld : s.heldTotal < 40960) (hwish : p.wishes = [w])
  (hti : s.titles.get w.title = some ti) (hin : ti.withdrawn = false) (hf : w.format = .cartridge) (hi : ti.image = some img)
  (hcls : chooseClass p.cls (footprint img.size) = c) (horders : s.orders.length < 8192)
  (ho : s.orders.get s.counters.order = none)
include hfree hheld hwish hti hin hf hi hcls horders ho

/-- A pass over a single CARTRIDGE wish that opens a cartridge (R57, R59, R60). -/
theorem walkPass_opens {u : State} (hblank : s.standing = .running ∧ s.settings.critical.get c < freeBlanks s c)
    (hjobs : s.jobs.length < 4096) (hj : s.jobs.get s.counters.job = none) (hstamp : s.counters.stamp < 4294967295)
    (hu : u.jobs = s.jobs.put s.counters.job
      { stamp := s.counters.stamp + 1, order := s.counters.order, patron := n, cls := c, titles := [titleOf w img],
        band := w.band, state := .queued, attempts := 0 }) :
    walkPass n p none s =
      let v := s.onePlaced n s.counters.order p w (.job s.counters.job)
      { v with
        reserved := s.reserved.set c (s.reserved.get c + 1)
        jobs := s.jobs.put s.counters.job
          { stamp := s.counters.stamp + 1, order := s.counters.order, patron := n, cls := c, titles := [titleOf w img],
            band := w.band, state := .queued, attempts := 0 }
        counters := { v.counters with
          job := if s.counters.job < 16777215 then s.counters.job + 1 else 1, stamp := s.counters.stamp + 1 }
        jobQueue := insertBefore (jobBefore u) s.counters.job s.jobQueue
        blocked := s.listsLeft n } := by
  have hunit := canUseUnit_start (s := s) (free := p.allowance - p.held) (Nat.sub_pos_of_lt hfree) hheld horders
  have hwalk := walk_opens (fr := { limit := p.limit, cls := p.cls, order := s.counters.order, offered := none }) hti hin hf hi
    hcls hunit hblank hjobs
  have hmade := createOrder_job (s := { s with reserved := s.reserved.set c (s.reserved.get c + 1) })
    (n := n) (o := s.counters.order) (free := p.allowance - p.held - 1) (p := p) (noted := ⟨false, false, false⟩) hf hstamp hj hu
  rw [walkPass_eq n p none (freshNumber_free ho) (hwish ▸ hwalk)]
  exact (congrArg (settleAll n _) hmade).trans (settleAll_unnoted _ rfl)

/-- A pass over a single CARTRIDGE wish whose class cannot be opened (R48, R49). -/
theorem walkPass_blocked
    (h : s.standing = .halted ∨ freeBlanks s c ≤ s.settings.critical.get c ∨ 4096 ≤ s.jobs.length) :
    walkPass n p none s = { s with
      blocked := (s.listsLeft n).set c (if n ∈ s.blocked.get c then s.blocked.get c else s.blocked.get c ++ [n])
      marks := if s.standing = .running ∧ s.settings.critical.get c < freeBlanks s c then s.marks.set c true else s.marks } := by
  have hunit := canUseUnit_start (s := s) (free := p.allowance - p.held) (Nat.sub_pos_of_lt hfree) hheld horders
  have hwalk := walk_blocked (fr := { limit := p.limit, cls := p.cls, order := s.counters.order, offered := none }) hti hin hf hi
    hcls hunit h
  rw [walkPass_eq n p none (freshNumber_free ho) (hwish ▸ hwalk)]
  refine (settleAll_noted (c := c) _ rfl).trans ?_
  simp only [List.isEmpty_nil, if_true, blankOpenable_iff]
  split <;> rfl

end

/-! ### Entries skipped -/

/-- An entry that a pass which has placed nothing skips for no class leaves the state and the plan's items as they are (R58). -/
theorem walkEntry_skipsAlone {fr : WalkFrame} {s : State} {p : Plan} {w : WishEntry} (hoffered : fr.offered = none)
    (hnone : p.items = []) (h : SkippedAlone s w) : walkEntry fr (s, p) w = (s, p.skip w) := by
  have hshut : 8192 ≤ s.orders.length → canUseUnit s p = false := fun hfull =>
    Bool.eq_false_iff.2 fun hcan => by
      obtain ⟨_, _, hroom⟩ := (canUseUnit_iff s p).1 hcan
      rcases hroom with hroom | hroom
      · exact hroom hnone
      · omega
  cases hti : s.titles.get w.title with
  | none => exact walkEntry_withdrawn fr p (by simp [hti])
  | some ti =>
    by_cases hin : ti.withdrawn = true
    · exact walkEntry_withdrawn fr p fun x hx => by rwa [← Option.some.inj (hti.symm.trans hx)]
    have hin : ti.withdrawn = false := Bool.eq_false_iff.2 hin
    cases hf : w.format with
    | cartridge =>
      cases hi : ti.image with
      | none => exact walkEntry_lacking fr p hti hin (.inl ⟨hf, hi⟩)
      | some img =>
        have hfull : 8192 ≤ s.orders.length := by
          rcases h with h | ⟨ti', hti', h⟩
          · exact h
          · obtain rfl := Option.some.inj (hti.symm.trans hti')
            simp [hin, hi, hf] at h
        rw [walkEntry_cartridge fr p hti hin hf hi]
        simp only [walkCartridge, hnone, firstFit, walkOpen, hshut hfull, Bool.false_eq_true, if_false]
    | braille =>
      cases hb : ti.braille with
      | none => exact walkEntry_lacking fr p hti hin (.inr ⟨hf, hb⟩)
      | some weights =>
        rw [walkEntry_braille fr p hti hin hf hb, walkBraille]
        split
        · rename_i hcan
          have hmax : Config.maxTasks = 4096 := rfl
          rw [Bool.and_eq_true, decide_eq_true_iff, hmax] at hcan
          have hno : ti.copySets.find? (usable s w.title) = none := by
            rcases h with h | ⟨ti', hti', h⟩
            · rw [hshut h] at hcan
              exact absurd hcan.1 (by simp)
            · obtain rfl := Option.some.inj (hti.symm.trans hti')
              rcases h with h | ⟨h, _⟩ | ⟨_, h | h | h⟩
              · rw [hin] at h
                cases h
              · rw [hf] at h
                cases h
              · rw [hb] at h
                cases h
              · omega
              · exact List.find?_eq_none.2 fun k hk hu => by
                  obtain ⟨c, hc, ht, hav⟩ := (usable_iff _ _ _).1 hu
                  exact h k hk c hc ht hav
          simp only [usableSet, hoffered, hno]
        · rfl

theorem walk_skipsAlone {fr : WalkFrame} {s : State} {ws : List WishEntry} (hoffered : fr.offered = none) {p : Plan}
    (hnone : p.items = []) (h : ∀ w ∈ ws, SkippedAlone s w) :
    ws.foldl (walkEntry fr) (s, p) = (s, { p with left := p.left ++ ws }) := by
  induction ws generalizing p with
  | nil => simp
  | cons w ws ih =>
    rw [List.foldl_cons, walkEntry_skipsAlone hoffered hnone (h w List.mem_cons_self),
      ih (by exact hnone) fun x hx => h x (List.mem_cons_of_mem w hx)]
    simp [Plan.skip]

/-- A pass that skips every wish leaves them, and creates nothing (R49, R58). -/
theorem walkPass_skips {s : State} {n : Nat} {p : Patron} (h : ∀ w ∈ p.wishes, SkippedAlone s w) :
    walkPass n p none s = { s with blocked := s.listsLeft n } := by
  rw [walkPass_eq n p none rfl (walk_skipsAlone (fr := ⟨p.limit, p.cls, _, none⟩) (p := Plan.start (p.allowance - p.held)) rfl rfl h)]
  exact settleAll_unnoted _ rfl

end Sys2Proof.Machine
end

section
/-! SUPPORT. WRITE-DONE GOOD (R91, R95, R97, R105): the serving of the backlog beside the ports and the bays, and the effect. -/

namespace Sys2Proof.Machine

-- One declaration at a time: the check's memory does not hold many side by side.
set_option Elab.async false

/-! ### The backlog beside the ports and the bays -/

section
variable (P : PerLink Port) (B : List Bay)

theorem newParcels_beside (o g : Nat) (x : ItemObject) (s : State) :
    newParcels o g x { s with ports := P, bays := B } = { newParcels o g x s with ports := P, bays := B } := by
  have hfold : ∀ (cs : List Contents) (u : State),
      cs.foldl (fun acc c => newParcel o g c acc) { u with ports := P, bays := B } =
        { cs.foldl (fun acc c => newParcel o g c acc) u with ports := P, bays := B } := by
    intro cs
    induction cs with
    | nil => exact fun _ => rfl
    | cons c cs ih => exact fun u => ih (newParcel o g c u)
  have hcontents : newContents { s with ports := P, bays := B } x = newContents s x := by cases x <;> rfl
  rw [newParcels, hcontents]
  exact hfold _ s

theorem releaseGroup_beside (g : Nat) (s : State) :
    releaseGroup g { s with ports := P, bays := B } = { releaseGroup g s with ports := P, bays := B } := by
  have hget : ({ s with ports := P, bays := B } : State).groups.get g = s.groups.get g := rfl
  rw [releaseGroup, releaseGroup, hget]
  cases s.groups.get g <;> rfl

theorem togetherGroup_beside (o : Nat) (r : Order) (s : State) :
    togetherGroup o r { s with ports := P, bays := B } =
      ({ (togetherGroup o r s).1 with ports := P, bays := B }, (togetherGroup o r s).2) := by
  have hlive : liveGroup { s with ports := P, bays := B } o = liveGroup s o := rfl
  rw [togetherGroup, togetherGroup, hlive]
  cases liveGroup s o <;> rfl

theorem joinableParcel_beside (o : Nat) (s : State) :
    joinableParcel { s with ports := P, bays := B } o = joinableParcel s o := by
  have hlive : liveGroup { s with ports := P, bays := B } o = liveGroup s o := rfl
  rw [joinableParcel, joinableParcel, hlive]
  rfl

theorem makeParcels_beside (o : Nat) (r : Order) (i : Item) (s : State) :
    makeParcels o r i { s with ports := P, bays := B } = { makeParcels o r i s with ports := P, bays := B } := by
  unfold makeParcels
  cases r.mode with
  | asReady =>
    have hnew := newParcels_beside P B o (newGroup i.band s).2 i.object (newGroup i.band s).1
    exact (congrArg (releaseGroup (newGroup i.band s).2) hnew).trans (releaseGroup_beside ..)
  | together =>
    simp only [joinableParcel_beside, togetherGroup_beside, newParcels_beside]
    split <;> rfl

theorem canParcel_beside (o : Nat) (m : Mode) (x : ItemObject) (s : State) :
    canParcel { s with ports := P, bays := B } o m x = canParcel s o m x := by
  have hneeded : parcelsNeeded { s with ports := P, bays := B } o m x = parcelsNeeded s o m x := by
    cases x with
    | copySet k => rfl
    | cart serial => simp only [parcelsNeeded, joinableParcel_beside]
    | job k => rfl
  rw [canParcel, canParcel, hneeded]

theorem serveList_beside (l : List (Nat × Nat)) (s : State) :
    serveList l { s with ports := P, bays := B } = { serveList l s with ports := P, bays := B } := by
  induction l generalizing s with
  | nil => rfl
  | cons e l ih =>
    obtain ⟨o, place⟩ := e
    have hget : ({ s with ports := P, bays := B } : State).orders.get o = s.orders.get o := rfl
    rw [serveList, serveList, hget]
    cases s.orders.get o with
    | none => exact ih s
    | some r =>
      dsimp only
      cases r.item place with
      | none => exact ih s
      | some i =>
        simp only [canParcel_beside, makeParcels_beside]
        split
        · exact ih _
        · rfl

/-- The serving of the backlog neither reads nor writes the ports and the bays. -/
theorem serveBacklog_beside (s : State) :
    serveBacklog { s with ports := P, bays := B } = { serveBacklog s with ports := P, bays := B } := by
  have hfold : ∀ (l : List (Nat × Nat)) (u : State),
      l.foldl (fun acc e => releaseTogether e.1 acc) { u with ports := P, bays := B } =
        { l.foldl (fun acc e => releaseTogether e.1 acc) u with ports := P, bays := B } := by
    intro l
    induction l with
    | nil => exact fun _ => rfl
    | cons e l ih =>
      intro u
      rw [List.foldl_cons, List.foldl_cons, releaseTogether_with]
      exact ih _
  have hbacklog : backlog { s with ports := P, bays := B } = backlog s := rfl
  rw [serveBacklog, serveBacklog, hbacklog, serveList_beside, hfold]

end

/-! ### The write's end -/

/-- A good write of the job leaves `v` of the cartridge, the job and its item, whatever the ports and the bays. -/
def WrittenTo (s : State) (job serial : Nat) (v : State) : Prop :=
  ∀ (P : PerLink Port) (B : List Bay),
    writeEffects { s with ports := P } true job serial { s with ports := P, bays := B } = { v with ports := P, bays := B }

/-- WRITE-DONE GOOD of the bay's write (R90, R91, R95, R97). -/
theorem writeDone_good {s v : State} {n job serial m : Nat} {b : Bay} {st : Standing} {streak strikes : Nat} {tag : Half}
    (hn : n < 32) (hs : serial < 2 ^ 32) (hb : s.bays[n]? = some b)
    (hc : b.condition = .service st streak strikes (.writing job serial m)) (hv : WrittenTo s job serial v)
    (hr : Ready .duplication s) :
    let s' : State := { v with
      bays := s.bays.set n { b with condition := goodCondition st streak strikes, last := writeEnded job serial .good } }
    exec (.writeDone .duplication tag (writeFields [1, 4, 1] [n, serial, 1])) s =
      .next (s.after .duplication tag .writeDone ⟨.done, bayFields s' n⟩ [] s') := by
  intro s'
  refine congrArg Host.Outcome.next ((reads_writeDone (.cons (by omega) (.cons hs (.cons (by decide) .nil)))).after hr [] ?_)
  have hfinish : ∀ P, finishWrite n job serial true .good { s with ports := P } = { s' with ports := P } := fun P => by
    have hidle : idleBay n (.write job) serial .good { s with ports := P } =
        { s with ports := P, bays := s.bays.set n (b.ended (writeEnded job serial .good)) } :=
      idleBay_eq (s := { s with ports := P }) _ _ _ hn hb hc
    rw [finishWrite, hidle, hv]
    exact countGood_eq (s := { v with ports := P, bays := s.bays }) hn hb _ hc
  have hbay : (admitted .duplication tag Kind.writeDone.code s).bay n = some b := bay_some hn hb
  have hon : b.condition ≠ .offline := by simp [hc]
  have hact : b.activity = .writing job serial m := by simp [Bay.activity, hc]
  simp only [takeWriteDone, bayCheck, hbay, if_neg hon, writeOutcome, hact, if_true, BEq.rfl]
  exact (congrArg (bayTaken n .done) (hfinish _)).trans (bayTaken_ports ..)

section
variable {s : State} {job serial : Nat} {j : Job} {c : Cart} (hj : s.jobs.get job = some j)
  (hcart : s.carts.get serial = some c)
include hj hcart

omit hj hcart in
theorem onItem_eq {o place : Nat} {r : Order} (ho : s.orders.get o = some r) (f : Item → Item) :
    onItem o place f s = { s with orders := s.orders.put o (r.setItem place f) } := by
  rw [onItem, Table.modify_some _ ho]

/-- The state once a job's cartridge is WRITTEN for its item, which is ready, and the job is freed (R51, R91, R105). -/
def State.itemWritten (s : State) (job serial : Nat) (c : Cart) (o : Nat) (r : Order) (place : Nat) : State :=
  ({ s with
    carts := s.carts.put serial { c with state := .written o place }
    jobs := s.jobs.del job
    orders := s.orders.put o { r with items := r.items.map (fun x =>
      if x.place = place then { x with object := .cart serial, ready := true } else x) } } : State).jobRecordFreed

/-- A good write of an ASSIGNED job (R91, R105). -/
theorem writtenTo_assigned {r : Order} {i : Item} {bay' serial' : Nat} (hst : j.state = .assigned bay' serial')
    (ho : s.orders.get j.order = some r) (hi : r.items.find? (fun x => x.object == .job job) = some i) :
    WrittenTo s job serial (serveBacklog (s.itemWritten job serial c j.order r i.place)) := by
  intro P B
  have hget : ({ s with ports := P, bays := B } : State).jobs.get job = some j := hj
  have hplace : placeOfJob { s with ports := P, bays := B } j.order job = i.place := by
    have horder : ({ s with ports := P, bays := B } : State).orders.get j.order = some r := ho
    simp only [placeOfJob, horder, hi, Option.map_some, Option.getD_some]
  have hfree : ∀ u : State, u.jobs = s.jobs → u.blank = s.blank → u.reserved = s.reserved → u.settings = s.settings →
      freeJobIn { s with ports := P } job u = ({ u with jobs := u.jobs.del job } : State).jobRecordFreed :=
    fun u hu hblank hres hset => by
      have hdel : (u.jobs.del job).get job = none := Table.get_del_same ..
      exact releaseLists_freed (s := { s with ports := P }) (t := { u with jobs := u.jobs.del job })
        (jobFreed_del hj hdel) hblank hres hset
  have hitems : (r.items.map fun x => if x.place = i.place then { x with object := .cart serial } else x).map
      (fun x => if x.place = i.place then { x with ready := true } else x) =
      r.items.map fun x => if x.place = i.place then { x with object := .cart serial, ready := true } else x := by
    rw [List.map_map]
    refine List.map_congr_left fun x _ => ?_
    by_cases hx : x.place = i.place <;> simp [hx]
  have hmade : writeEffects { s with ports := P } true job serial { s with ports := P, bays := B } =
      serveBacklog { s.itemWritten job serial c j.order r i.place with ports := P, bays := B } := by
    simp only [writeEffects, hget, hst, writeCompletes, hplace, itemReady]
    refine congrArg serveBacklog ?_
    rw [Table.modify_some _ hcart]
    generalize hcarts : s.carts.put serial { c with state := .written j.order i.place } = carts
    rw [onItem_eq (s := { s with ports := P, bays := B, carts := carts }) ho, hfree]
    · rw [onItem_eq (r := r.setItem i.place fun x => { x with object := .cart serial }) (Table.get_put_same ..)]
      simp only [State.jobRecordFreed, Table.put_put, Order.setItem, State.itemWritten, hitems, hcarts]
    · rfl
    · rfl
    · rfl
    · rfl
  exact hmade.trans (serveBacklog_beside ..)

end

/-! ### More parcel records than there are (R113) -/

/-- With more parcel records in use than there are, no item is made parcels of and no cartridge joins one: even an item that needs
no new record waits (R113). -/
theorem serveList_overfull {s : State} (h : 16384 < s.parcels.length) (l : List (Nat × Nat)) : serveList l s = s := by
  have hmax : Config.maxParcels = 16384 := rfl
  induction l with
  | nil => rfl
  | cons e l ih =>
    obtain ⟨o, place⟩ := e
    rw [serveList]
    split
    · exact ih
    · rename_i r _
      split
      · exact ih
      · rename_i i _
        have hcan : ¬ canParcel s o r.mode i.object = true := by
          rw [canParcel, decide_eq_true_iff, hmax]
          omega
        exact if_neg hcan

/-- The release of a group leaves what its parcels hold. -/
theorem releaseTogether_contents (o m : Nat) (s : State) :
    ((releaseTogether o s).parcels.get m).map Parcel.contents = (s.parcels.get m).map Parcel.contents := by
  have hgroup : ∀ g, ((releaseGroup g s).parcels.get m).map Parcel.contents = (s.parcels.get m).map Parcel.contents := by
    intro g
    unfold releaseGroup
    split
    · rename_i rg _
      simp only [readyParcels, Table.get_mapAll]
      cases s.parcels.get m with
      | none => rfl
      | some p =>
        simp only [Option.map_some]
        split <;> rfl
    · rfl
  unfold releaseTogether
  split
  · split
    · exact hgroup _
    · rfl
  · rfl

theorem serveBacklog_overfull {s : State} (h : 16384 < s.parcels.length) (m : Nat) :
    ((serveBacklog s).parcels.get m).map Parcel.contents = (s.parcels.get m).map Parcel.contents := by
  have hfold : ∀ (l : List (Nat × Nat)) (u : State),
      ((l.foldl (fun acc e => releaseTogether e.1 acc) u).parcels.get m).map Parcel.contents =
        (u.parcels.get m).map Parcel.contents := by
    intro l
    induction l with
    | nil => exact fun _ => rfl
    | cons e l ih => exact fun u => (ih _).trans (releaseTogether_contents e.1 m u)
  rw [serveBacklog, serveList_overfull h, hfold]

/-- A good write of an ASSIGNED job then leaves every parcel the contents that it had. -/
theorem writeDone_overfull {s : State} {n job serial m : Nat} {b : Bay} {st : Standing} {streak strikes bay' serial' : Nat}
    {j : Job} {c : Cart} {r : Order} {i : Item} {tag : Half} (hfull : 16384 < s.parcels.length) (hn : n < 32)
    (hs : serial < 2 ^ 32) (hb : s.bays[n]? = some b) (hc : b.condition = .service st streak strikes (.writing job serial m))
    (hj : s.jobs.get job = some j) (hcart : s.carts.get serial = some c) (hst : j.state = .assigned bay' serial')
    (ho : s.orders.get j.order = some r) (hi : r.items.find? (fun x => x.object == .job job) = some i)
    (hr : Ready .duplication s) :
    ∃ t, exec (.writeDone .duplication tag (writeFields [1, 4, 1] [n, serial, 1])) s = .next t
      ∧ ∀ x, (t.parcels.get x).map Parcel.contents = (s.parcels.get x).map Parcel.contents := by
  refine ⟨_, writeDone_good hn hs hb hc (writtenTo_assigned hj hcart hst ho hi) hr, fun x => ?_⟩
  rw [after_eq]
  exact serveBacklog_overfull (s := s.itemWritten job serial c j.order r i.place) hfull x

/-- Item 1 of order 1: WRITTEN on c500, in parcel 1. -/
def parcelledItem : Item := ⟨1, .cart 500, .normal, [⟨95, .cartridge, .normal, 0⟩], true, false⟩

/-- Item 2 of order 1: job 41, which bay 6 writes on c611. -/
def writingItem : Item := ⟨2, .job 41, .normal, [⟨96, .cartridge, .normal, 0⟩], false, false⟩

/-- Order 1, TOGETHER, of patron 9. -/
def writingOrder : Order := ⟨9, .together, .normal, [parcelledItem, writingItem]⟩

/-- Parcel 1, FORMING, with room for c611. -/
def roomyParcel : Parcel := ⟨1, 1, .cartridges [500], .forming⟩

/-- 16,384 parcels of order 2, which leave no record for parcel 1. -/
def otherParcels : Table Parcel :=
  (List.range' 2 16384).map fun n => (n, ⟨2, 2, .cartridges [n], .ready⟩)

/-- Bay 6 writes job 41 for item 2 of order 1, whose item 1 is in parcel 1; the parcel table holds 16,385 records. -/
def overfull : State :=
  { State.reset with
    carts := [(611, ⟨.c2, .loaded 41, 4, 0⟩)]
    jobs := [(41, ⟨2, 1, 9, .c2, [⟨96, 1, 1004⟩], .normal, .assigned 6 611, 0⟩)]
    orders := [(1, writingOrder)]
    parcels := (1, roomyParcel) :: otherParcels
    groups := [(1, ⟨.normal, [1], false⟩)]
    bays := State.reset.bays.set 6 ⟨.service .qualified 3 0 (.writing 41 611 5), 0, none⟩
    ports := State.reset.ports.set .duplication { Port.started [] with rx := .hunt } }

theorem overfull_parcels {e : Nat × Parcel} (h : e ∈ overfull.parcels) (ho : e.2.order = 1) : e = (1, roomyParcel) := by
  rcases List.mem_cons.1 h with rfl | h
  · rfl
  · obtain ⟨n, _, rfl⟩ := List.mem_map.1 h
    cases ho

theorem overfull_newlyReady : NewlyReady overfull 1 writingOrder writingItem (.cart 611) where
  backlog := by
    refine (backlog_eq_nil_iff _).2 fun e he i hi hr _ => ?_
    obtain rfl := List.mem_singleton.1 he
    rcases List.mem_pair.1 hi with rfl | rfl
    · exact ⟨(1, roomyParcel), List.mem_cons_self, rfl, rfl⟩
    · cases hr
  orders := rfl
  undispatched := rfl
  places := by decide
  objects := by decide
  alone := by decide
  unparcelled := fun e he ho => by
    rw [overfull_parcels he ho]
    rfl
  linked := fun e he ho rg hrg m hm => by
    rw [overfull_parcels he ho] at hrg
    obtain rfl : ⟨.normal, [1], false⟩ = rg := Option.some.inj hrg
    obtain rfl := List.mem_singleton.1 hm
    exact ⟨roomyParcel, rfl, rfl⟩

theorem overfull_liveGroup : LiveGroup overfull 1 1 ⟨.normal, [1], false⟩ where
  all := fun e he ho => by rw [overfull_parcels he ho]; rfl
  some := ⟨(1, roomyParcel), List.mem_cons_self, rfl⟩
  record := rfl
  waiting := rfl
  parcels := by simp

theorem overfull_othersParcelled : othersParcelled overfull 1 writingOrder writingItem := by
  intro x hx hne
  rcases List.mem_pair.1 hx with rfl | rfl
  · exact .inr ⟨rfl, (1, roomyParcel), List.mem_cons_self, rfl, rfl⟩
  · exact absurd rfl hne

theorem overfull_length : 16384 < overfull.parcels.length := by
  have hlen : overfull.parcels.length = 16384 + 1 := by
    rw [overfull, List.length_cons, otherParcels, List.length_map, List.length_range']
  omega

/-- Refutes O35: its last clause bounds no parcel table. With 16,385 records the cartridge c611 joins no parcel (R113's limit is
checked even where no record is needed), so parcel 1, FORMING with room, holds c500 alone still. -/
theorem not_goodWrite : ¬ Obligations.GoodWrite := by
  intro h
  have hbay : overfull.bays[6]? = some ⟨.service .qualified 3 0 (.writing 41 611 5), 0, none⟩ := rfl
  obtain ⟨u, hwrites, hkept⟩ := writeDone_overfull (tag := 0) overfull_length (by decide) (by decide) hbay rfl rfl rfl rfl rfl
    rfl ⟨rfl, rfl, rfl⟩
  obtain ⟨-, t, hwrite, -, -, -, -, -, -, -, -, -, -, -, -, -, -, -, -, -, -, -, -, -, -, -, -, -, -, -, -, -, -, -, -, -,
    hjoined⟩ := (h 0 overfull 6 41 611 5 _ _ _ _ _ _ _ _ ⟨rfl, rfl, rfl⟩ (by decide) (by decide) hbay rfl rfl rfl).2
      writingOrder writingItem rfl rfl rfl
  obtain ⟨-, -, -, hreleased⟩ := hjoined 1 _ [] 1 [] roomyParcel [500] [] overfull_newlyReady rfl overfull_liveGroup
    rfl rfl rfl rfl (by decide) (by simp) (by decide) (by simp)
  obtain ⟨-, hget⟩ := hreleased overfull_othersParcelled
  obtain rfl := Host.Outcome.next.inj (hwrites.symm.trans hwrite)
  have hcontents : some (Contents.cartridges [500, 611]) = some (.cartridges [500]) := by
    have h1 := hkept 1
    rw [hget 1] at h1
    exact h1
  cases hcontents

end Sys2Proof.Machine
end

section
/-! SUPPORT. The walk over a wish list of any length (R54 to R58), one entry at a time: what an entry can do, and what every
entry keeps of the records and the counts. -/

namespace Sys2Proof.Machine

-- One declaration at a time: the check's memory does not hold many side by side.
set_option Elab.async false

/-! ### What an entry can do -/

/-- A CARTRIDGE entry of a title that is not withdrawn, with the title's image (R54). -/
def ShowsImage (s : State) (w : WishEntry) (img : Image) : Prop :=
  w.format = .cartridge ∧ ∃ ti, s.titles.get w.title = some ti ∧ ti.withdrawn = false ∧ ti.image = some img

/-- A BRAILLE entry of a title that is not withdrawn and has volumes (R54). -/
def ShowsVolumes (s : State) (w : WishEntry) (ti : Title) : Prop :=
  w.format = .braille ∧ s.titles.get w.title = some ti ∧ ti.withdrawn = false ∧ ti.braille ≠ none

/-- No cartridge opened takes a footprint (R56). -/
def NoneFits (limit fp : Nat) (items : List PlanItem) : Prop :=
  ∀ o, .cart o ∈ items → o.fits limit fp = false

/-- A plan of `free` units has no unit left (R54). -/
def Spent (s : State) (free : Nat) (p : Plan) : Prop :=
  free ≤ p.items.length ∨ 40960 ≤ s.heldTotal + p.items.length

/-- The class was not to be opened: HALTED, its free blanks at the critical level, or no job record left (R48). -/
def ClassShut (s t : State) (p : Plan) (c : Cls) : Prop :=
  s.standing = .halted ∨ (s.blank.get c).length - t.reserved.get c ≤ s.settings.critical.get c
    ∨ 4096 ≤ s.jobs.length + p.openedCount

/-- The job-record mark of a class where only the job records were wanting (R48, R57). -/
def State.markedIf (t : State) (b : Bool) (c : Cls) : State :=
  if b then { t with marks := t.marks.set c true } else t

/-- What the entry `w` makes of the state `t` and the plan `p` of a walk that began at `s` with `free` units (R54 to R58). -/
inductive WalkStep (s : State) (fr : WalkFrame) (free : Nat) (w : WishEntry) (t : State) (p : Plan) : State → Plan → Prop
  /-- The entry keeps its place, and no class is noted. -/
  | skips : (∀ img, ShowsImage s w img → NoneFits fr.limit (footprint img.size) p.items ∧ Spent s free p) →
      (∀ ti, ShowsVolumes s w ti → Spent s free p ∨ 4096 ≤ s.tasks.length + p.takenCount
        ∨ ∀ k ∈ ti.copySets, ¬ usable t w.title k) →
      WalkStep s fr free w t p t (p.skip w)
  /-- The first cartridge that takes the title. -/
  | fills (img : Image) (as bs : List PlanItem) (o : Opened) : ShowsImage s w img → p.items = as ++ .cart o :: bs →
      NoneFits fr.limit (footprint img.size) as → o.fits fr.limit (footprint img.size) = true →
      WalkStep s fr free w t p t { p with items := as ++ .cart (o.add (titleOf w img) w) :: bs }
  /-- A new cartridge. -/
  | opens (img : Image) (c : Cls) : ShowsImage s w img → NoneFits fr.limit (footprint img.size) p.items → ¬ Spent s free p →
      c = chooseClass fr.cls (footprint img.size) → ¬ ClassShut s t p c →
      WalkStep s fr free w t p { t with reserved := t.reserved.set c (t.reserved.get c + 1) }
        { p with items := p.items ++ [.cart (Opened.new c (titleOf w img) w)], free := p.free - 1 }
  /-- The entry keeps its place, and its class is noted. -/
  | blocks (img : Image) (c : Cls) (b : Bool) : ShowsImage s w img → NoneFits fr.limit (footprint img.size) p.items →
      c = chooseClass fr.cls (footprint img.size) → ClassShut s t p c →
      (b = true → s.standing = .running ∧ 4096 ≤ s.jobs.length + p.openedCount) →
      WalkStep s fr free w t p (t.markedIf b c) { p.skip w with noted := p.noted.set c true }
  /-- The title's lowest-numbered AVAILABLE set. -/
  | takes (ti : Title) (k : Nat) : ShowsVolumes s w ti → ¬ Spent s free p → s.tasks.length + p.takenCount < 4096 →
      ti.copySets.find? (usable t w.title) = some k →
      WalkStep s fr free w t p
        { t with copySets := t.copySets.modify k (fun c => { c with state := .reserved fr.order (p.items.length + 1) }) }
        { p with items := p.items ++ [.copySet k w], free := p.free - 1 }

/-! ### The cartridges opened, by class -/

/-- Whether a plan item is a cartridge of a class. -/
def PlanItem.ofClass (c : Cls) : PlanItem → Bool
  | .cart o => o.cls == c
  | .copySet _ _ => false

/-- The cartridges of a class among some plan items. -/
def openedOf (c : Cls) (items : List PlanItem) : Nat :=
  countOf (PlanItem.ofClass c) items

theorem countOf_cons {α : Type} (q : α → Bool) (a : α) (l : List α) : countOf q (a :: l) = (q a).toNat + countOf q l := by
  rw [countOf, countOf, List.filter_cons]
  cases q a <;> simp [Nat.add_comm]

theorem countOf_nil {α : Type} (q : α → Bool) : countOf q ([] : List α) = 0 := rfl

theorem countOf_single {α : Type} (q : α → Bool) (a : α) : countOf q [a] = (q a).toNat := by
  rw [countOf_cons, countOf_nil, Nat.add_zero]

theorem isCart_classes (i : PlanItem) :
    i.isCart.toNat = (i.ofClass .c1).toNat + (i.ofClass .c2).toNat + (i.ofClass .c3).toNat := by
  cases i with
  | cart o =>
    obtain ⟨cls, _, _, _, _⟩ := o
    cases cls <;> rfl
  | copySet k w => rfl

theorem openedCount_classes (p : Plan) :
    p.openedCount = openedOf .c1 p.items + openedOf .c2 p.items + openedOf .c3 p.items := by
  unfold Plan.openedCount openedOf
  induction p.items with
  | nil => rfl
  | cons i l ih =>
    simp only [countOf_cons, ih, isCart_classes]
    omega

theorem openedOf_le (p : Plan) (c : Cls) : openedOf c p.items ≤ p.openedCount := by
  rw [openedCount_classes]
  cases c <;> omega

/-! ### What every entry keeps -/

/-- What a walk of `free` units from `s` keeps: it writes reserved counts, sets and marks only; the reserved counts rise by the
cartridges opened, and units, loan records, job records and pull tasks are enough for the items (R54 to R57). -/
structure WalkKept (s : State) (free : Nat) (t : State) (p : Plan) : Prop where
  state : t = { s with reserved := t.reserved, copySets := t.copySets, marks := t.marks }
  reserved : ∀ c, t.reserved.get c = s.reserved.get c + openedOf c p.items
  units : p.free + p.items.length = free
  total : s.heldTotal + p.items.length ≤ 40960
  jobs : p.openedCount ≠ 0 → s.standing = .running ∧ s.jobs.length + p.openedCount ≤ 4096
  critical : ∀ c, openedOf c p.items ≠ 0 →
    s.settings.critical.get c < (s.blank.get c).length - (t.reserved.get c - 1)
  tasks : p.takenCount ≠ 0 → s.tasks.length + p.takenCount ≤ 4096
  unused : p.items = [] → t.reserved = s.reserved ∧ t.copySets = s.copySets

theorem walkKept_start {s : State} {free : Nat} (h : s.heldTotal < 40960) : WalkKept s free s (Plan.start free) where
  state := rfl
  reserved := fun _ => rfl
  units := rfl
  total := Nat.le_of_lt h
  jobs := fun h => absurd rfl h
  critical := fun _ h => absurd rfl h
  tasks := fun h => absurd rfl h
  unused := fun _ => ⟨rfl, rfl⟩

section
variable {s t : State} {free : Nat} {p : Plan} (h : WalkKept s free t p)
include h

theorem WalkKept.titles : t.titles = s.titles := by rw [h.state]
theorem WalkKept.blank : t.blank = s.blank := by rw [h.state]
theorem WalkKept.jobs_eq : t.jobs = s.jobs := by rw [h.state]
theorem WalkKept.tasks_eq : t.tasks = s.tasks := by rw [h.state]
theorem WalkKept.jobQueue : t.jobQueue = s.jobQueue := by rw [h.state]
theorem WalkKept.counters : t.counters = s.counters := by rw [h.state]

theorem WalkKept.canUseUnit_iff (horders : s.orders.length < 8192) : canUseUnit t p = true ↔ ¬ Spent s free p := by
  have hunits := h.units
  rw [Machine.canUseUnit_iff, Spent, show t.heldTotal = s.heldTotal by rw [h.state], show t.orders = s.orders by rw [h.state]]
  omega

theorem WalkKept.jobRecordFree_iff : jobRecordFree t p = true ↔ s.jobs.length + p.openedCount < 4096 := by
  rw [Machine.jobRecordFree_iff, h.jobs_eq]

theorem WalkKept.blankOpenable_iff (c : Cls) : blankOpenable t c = true ↔ s.standing = .running
    ∧ s.settings.critical.get c < (s.blank.get c).length - t.reserved.get c := by
  rw [Machine.blankOpenable_iff, freeBlanks, show t.standing = s.standing by rw [h.state], h.blank,
    show t.settings = s.settings by rw [h.state]]

theorem WalkKept.opensClass_iff (c : Cls) :
    (blankOpenable t c && jobRecordFree t p) = true ↔ ¬ ClassShut s t p c := by
  have hstanding : s.standing = .running ↔ ¬ s.standing = .halted := by cases s.standing <;> simp
  rw [Bool.and_eq_true, h.blankOpenable_iff, h.jobRecordFree_iff, ClassShut, hstanding, not_or, not_or, Nat.not_le, Nat.not_le,
    and_assoc]

end

/-! ### Every entry does one of them -/

/-- First-fit places a title on the first cartridge that takes it, or on none (R56). -/
theorem firstFit_cases (limit : Nat) (t : JobTitle) (w : WishEntry) (items : List PlanItem) :
    (firstFit limit t w items = none ∧ NoneFits limit t.footprint items)
      ∨ ∃ as o bs, items = as ++ .cart o :: bs ∧ NoneFits limit t.footprint as ∧ o.fits limit t.footprint = true
        ∧ firstFit limit t w items = some (as ++ .cart (o.add t w) :: bs) := by
  induction items with
  | nil => exact .inl ⟨rfl, fun _ h => absurd h (by simp)⟩
  | cons i items ih =>
    have hpast : ∀ (hi : ∀ o, i = .cart o → o.fits limit t.footprint = false),
        firstFit limit t w (i :: items) = (firstFit limit t w items).map (i :: ·) := fun hi => by
      cases i with
      | cart o => simp [firstFit, hi o rfl]
      | copySet k e => rfl
    by_cases hfit : ∃ o, i = .cart o ∧ o.fits limit t.footprint = true
    · obtain ⟨o, rfl, ho⟩ := hfit
      exact .inr ⟨[], o, items, rfl, fun _ h => absurd h (by simp), ho, by simp [firstFit, ho]⟩
    · have hi : ∀ o, i = .cart o → o.fits limit t.footprint = false := fun o hio =>
        Bool.eq_false_iff.2 fun ho => hfit ⟨o, hio, ho⟩
      have hnone : ∀ l, NoneFits limit t.footprint l → NoneFits limit t.footprint (i :: l) := fun l hl o ho =>
        (List.mem_cons.1 ho).elim (fun he => hi o he.symm) (hl o)
      rw [hpast hi]
      rcases ih with ⟨hno, hl⟩ | ⟨as, o, bs, rfl, has, ho, hsome⟩
      · exact .inl ⟨by rw [hno]; rfl, hnone _ hl⟩
      · exact .inr ⟨i :: as, o, bs, rfl, hnone _ has, ho, by rw [hsome]; rfl⟩

section
variable {s t : State} {fr : WalkFrame} {free : Nat} {p : Plan} (h : WalkKept s free t p) (horders : s.orders.length < 8192)
  (w : WishEntry)
include h horders

theorem walkCartridge_step {img : Image} (hw : ShowsImage s w img) :
    WalkStep s fr free w t p (walkCartridge fr w img p t).1 (walkCartridge fr w img p t).2 := by
  have hvolumes : ∀ ti, ¬ ShowsVolumes s w ti := fun ti hti => by
    have hf := hti.1.symm.trans hw.1
    cases hf
  have himage : ∀ img', ShowsImage s w img' → img' = img := by
    rintro img' ⟨_, ti, hti, _, hi⟩
    obtain ⟨_, ti', hti', _, hi'⟩ := hw
    obtain rfl := Option.some.inj (hti.symm.trans hti')
    exact Option.some.inj (hi.symm.trans hi')
  have hfill : walkCartridge fr w img p t = match firstFit fr.limit (titleOf w img) w p.items with
      | some items => (t, { p with items := items })
      | none => walkOpen fr (titleOf w img) w p t := rfl
  rw [hfill]
  rcases firstFit_cases fr.limit (titleOf w img) w p.items with ⟨hnone, hno⟩ | ⟨as, o, bs, hitems, has, ho, hsome⟩
  · rw [hnone]
    have hclass : chooseClass fr.cls (titleOf w img).footprint = chooseClass fr.cls (footprint img.size) := rfl
    simp only [walkOpen, hclass]
    by_cases hunit : canUseUnit t p = true
    · have hspent := (h.canUseUnit_iff horders).1 hunit
      rw [if_pos hunit]
      by_cases hopen : (blankOpenable t (chooseClass fr.cls (footprint img.size)) && jobRecordFree t p) = true
      · rw [if_pos hopen]
        exact .opens img _ hw hno hspent rfl ((h.opensClass_iff _).1 hopen)
      · have hshut := Classical.not_not.1 fun hns => hopen ((h.opensClass_iff _).2 hns)
        rw [if_neg hopen]
        refine .blocks img _ (blankOpenable t (chooseClass fr.cls (footprint img.size))) hw hno rfl hshut fun hb => ?_
        rw [hb, Bool.true_and, h.jobRecordFree_iff] at hopen
        exact ⟨((h.blankOpenable_iff _).1 hb).1, Nat.not_lt.1 hopen⟩
    · rw [if_neg hunit]
      refine .skips (fun img' hw' => ?_) fun ti hti => absurd hti (hvolumes ti)
      obtain rfl := himage img' hw'
      exact ⟨hno, Classical.not_not.1 fun hns => hunit ((h.canUseUnit_iff horders).2 hns)⟩
  · rw [hsome]
    exact .fills img as bs o hw hitems has ho

theorem walkBraille_step {ti : Title} (hw : ShowsVolumes s w ti) (hoffered : fr.offered = none) :
    WalkStep s fr free w t p (walkBraille fr w ti p t).1 (walkBraille fr w ti p t).2 := by
  have hmax : Config.maxTasks = 4096 := rfl
  have hskip : (Spent s free p ∨ 4096 ≤ s.tasks.length + p.takenCount ∨ ∀ k ∈ ti.copySets, ¬ usable t w.title k) →
      WalkStep s fr free w t p t (p.skip w) := fun hwhy => by
    refine .skips (fun img hw' => ?_) fun ti' hti' => ?_
    · have hf := hw'.1.symm.trans hw.1
      cases hf
    · obtain rfl := Option.some.inj (hti'.2.1.symm.trans hw.2.1)
      exact hwhy
  have hcan_iff : (canUseUnit t p && t.tasks.length + p.takenCount < Config.maxTasks) = true ↔
      ¬ Spent s free p ∧ s.tasks.length + p.takenCount < 4096 := by
    rw [Bool.and_eq_true, h.canUseUnit_iff horders, decide_eq_true_iff, hmax, h.tasks_eq]
  simp only [walkBraille, usableSet, hoffered]
  split
  · rename_i hcan
    rw [hcan_iff] at hcan
    cases hk : ti.copySets.find? (usable t w.title) with
    | none => exact hskip (.inr (.inr (by simpa using hk)))
    | some k => exact .takes ti k hw hcan.1 hcan.2 hk
  · rename_i hcan
    rw [hcan_iff] at hcan
    refine hskip ?_
    by_cases hs : Spent s free p
    · exact .inl hs
    · exact .inr (.inl (Nat.not_lt.1 fun hlt => hcan ⟨hs, hlt⟩))

/-- Every entry of a pass without an offer makes one of the steps (R54 to R58). -/
theorem walkEntry_step (hoffered : fr.offered = none) :
    WalkStep s fr free w t p (walkEntry fr (t, p) w).1 (walkEntry fr (t, p) w).2 := by
  have hskip : (∀ img, ¬ ShowsImage s w img) → (∀ ti, ¬ ShowsVolumes s w ti) → WalkStep s fr free w t p t (p.skip w) :=
    fun hi hv => .skips (fun img hw => absurd hw (hi img)) fun ti hw => absurd hw (hv ti)
  cases hti : s.titles.get w.title with
  | none =>
    rw [walkEntry_withdrawn fr p (by simp [h.titles, hti])]
    refine hskip ?_ ?_
    · rintro img ⟨_, ti, hti', _⟩
      simp [hti] at hti'
    · rintro ti ⟨_, hti', _⟩
      simp [hti] at hti'
  | some ti =>
    have htit : t.titles.get w.title = some ti := by rw [h.titles, hti]
    have hone : ∀ ti', s.titles.get w.title = some ti' → ti' = ti := fun ti' hti' => Option.some.inj (hti'.symm.trans hti)
    by_cases hin : ti.withdrawn = true
    · rw [walkEntry_withdrawn fr p fun x hx => by rwa [← Option.some.inj (htit.symm.trans hx)]]
      refine hskip ?_ ?_
      · rintro img ⟨_, ti', hti', hw, _⟩
        simp [hone ti' hti', hin] at hw
      · rintro ti' ⟨_, hti', hw, _⟩
        simp [hone ti' hti', hin] at hw
    have hin : ti.withdrawn = false := Bool.eq_false_iff.2 hin
    cases hf : w.format with
    | cartridge =>
      cases hi : ti.image with
      | some img =>
        rw [walkEntry_cartridge fr p htit hin hf hi]
        exact walkCartridge_step h horders w ⟨hf, ti, hti, hin, hi⟩
      | none =>
        rw [walkEntry_lacking fr p htit hin (.inl ⟨hf, hi⟩)]
        refine hskip ?_ fun ti' hv => nomatch hf.symm.trans hv.1
        rintro img ⟨_, ti', hti', _, hi'⟩
        simp [hone ti' hti', hi] at hi'
    | braille =>
      cases hb : ti.braille with
      | some weights =>
        rw [walkEntry_braille fr p htit hin hf hb]
        exact walkBraille_step h horders w ⟨hf, hti, hin, by simp [hb]⟩ hoffered
      | none =>
        rw [walkEntry_lacking fr p htit hin (.inr ⟨hf, hb⟩)]
        refine hskip (fun img hv => nomatch hf.symm.trans hv.1) ?_
        rintro ti' ⟨_, hti', _, hb'⟩
        simp [hone ti' hti', hb] at hb'

end

end Sys2Proof.Machine
end

section
/-! SUPPORT. The walk over a wish list of any length (R54 to R58): the counts, and the cartridges as their entries filled them. -/

namespace Sys2Proof.Machine

-- One declaration at a time: the check's memory does not hold many side by side.
set_option Elab.async false

/-! ### The counts -/

theorem countOf_fill {q : PlanItem → Bool} {o o' : Opened} (hq : q (.cart o') = q (.cart o)) (as bs : List PlanItem) :
    countOf q (as ++ .cart o' :: bs) = countOf q (as ++ .cart o :: bs) := by
  rw [countOf_append, countOf_append, countOf_cons, countOf_cons, hq]

theorem countOf_concat {α : Type} (q : α → Bool) (l : List α) (a : α) : countOf q (l ++ [a]) = countOf q l + (q a).toNat := by
  rw [countOf_append, countOf_single]

@[simp] theorem State.markedIf_reserved (t : State) (b : Bool) (c : Cls) : (t.markedIf b c).reserved = t.reserved := by
  cases b <;> rfl

@[simp] theorem State.markedIf_copySets (t : State) (b : Bool) (c : Cls) : (t.markedIf b c).copySets = t.copySets := by
  cases b <;> rfl

theorem State.markedIf_marks (t : State) (b : Bool) (c : Cls) :
    (t.markedIf b c).marks = if b then t.marks.set c true else t.marks := by
  cases b <;> rfl

theorem State.markedIf_eq (t : State) (b : Bool) (c : Cls) : t.markedIf b c = { t with marks := (t.markedIf b c).marks } := by
  cases b <;> rfl

section
variable {s t t' : State} {fr : WalkFrame} {free : Nat} {w : WishEntry} {p p' : Plan}

/-- No entry takes back what an earlier one used. -/
structure Grows (t : State) (p : Plan) (t' : State) (p' : Plan) : Prop where
  items : p.items.length ≤ p'.items.length
  opened : p.openedCount ≤ p'.openedCount
  taken : p.takenCount ≤ p'.takenCount
  reserved : ∀ c, t.reserved.get c ≤ t'.reserved.get c

theorem WalkStep.grows (hs : WalkStep s fr free w t p t' p') : Grows t p t' p' := by
  cases hs with
  | skips => exact ⟨Nat.le_refl _, Nat.le_refl _, Nat.le_refl _, fun _ => Nat.le_refl _⟩
  | fills img as bs o hw hitems =>
    refine ⟨?_, ?_, ?_, fun _ => Nat.le_refl _⟩
    · simp [hitems]
    · exact Nat.le_of_eq (by rw [Plan.openedCount, hitems]; exact (countOf_fill (by rfl) as bs).symm)
    · exact Nat.le_of_eq (by rw [Plan.takenCount, hitems]; exact (countOf_fill (by rfl) as bs).symm)
  | opens img c =>
    refine ⟨by simp, ?_, ?_, fun d => ?_⟩
    · exact (Nat.le_add_right _ _).trans_eq (countOf_concat ..).symm
    · exact (Nat.le_add_right _ _).trans_eq (countOf_concat ..).symm
    · by_cases hd : d = c
      · subst hd
        simp
      · exact (PerClass.get_set_other _ _ hd).ge
  | blocks img c b => exact ⟨Nat.le_refl _, Nat.le_refl _, Nat.le_refl _, fun _ => by simp⟩
  | takes ti k =>
    refine ⟨by simp, ?_, ?_, fun _ => Nat.le_refl _⟩
    · exact (Nat.le_add_right _ _).trans_eq (countOf_concat ..).symm
    · exact (Nat.le_add_right _ _).trans_eq (countOf_concat ..).symm

theorem Spent.mono (h : Spent s free p) (hg : Grows t p t' p') : Spent s free p' :=
  h.imp (·.trans hg.items) fun h => h.trans (Nat.add_le_add_left hg.items _)

theorem ClassShut.mono {c : Cls} (h : ClassShut s t p c) (hg : Grows t p t' p') : ClassShut s t' p' c := by
  have hr := hg.reserved c
  have ho := hg.opened
  refine h.imp_right (Or.imp ?_ ?_) <;> intro h <;> omega

/-- Every entry keeps what a walk keeps. -/
theorem WalkKept.step (h : WalkKept s free t p) (hs : WalkStep s fr free w t p t' p') : WalkKept s free t' p' := by
  have hunits := h.units
  cases hs with
  | skips => exact ⟨h.state, h.reserved, h.units, h.total, h.jobs, h.critical, h.tasks, h.unused⟩
  | fills img as bs o hw hitems =>
    have hcount : ∀ q : PlanItem → Bool, q (.cart (o.add (titleOf w img) w)) = q (.cart o) →
        countOf q (as ++ .cart (o.add (titleOf w img) w) :: bs) = countOf q p.items := fun q hq =>
      hitems ▸ countOf_fill hq as bs
    have hlen : (as ++ .cart (o.add (titleOf w img) w) :: bs).length = p.items.length := by simp [hitems]
    refine ⟨h.state, fun c => ?_, ?_, ?_, ?_, fun c => ?_, ?_, fun hnil => absurd hnil (by simp)⟩
    · rw [openedOf, hcount _ rfl]
      exact h.reserved c
    · rw [hlen]
      exact h.units
    · rw [hlen]
      exact h.total
    · rw [Plan.openedCount, hcount _ rfl]
      exact h.jobs
    · rw [openedOf, hcount _ rfl]
      exact h.critical c
    · rw [Plan.takenCount, hcount _ rfl]
      exact h.tasks
  | opens img c hw hnone hspent hc hshut =>
    rw [Spent] at hspent
    rw [ClassShut, not_or, not_or, Nat.not_le, Nat.not_le] at hshut
    obtain ⟨hrun, hfree, hjobs⟩ := hshut
    have hrunning : s.standing = .running := by
      cases hst : s.standing
      · rfl
      · exact absurd hst hrun
    have hopened : ∀ d, openedOf d (p.items ++ [.cart (Opened.new c (titleOf w img) w)]) =
        openedOf d p.items + if d = c then 1 else 0 := fun d => by
      rw [openedOf, countOf_concat]
      refine congrArg _ ?_
      cases c <;> cases d <;> rfl
    refine ⟨?_, fun d => ?_, ?_, ?_, fun _ => ⟨hrunning, ?_⟩, fun d hd => ?_, fun ht => ?_, fun hnil => absurd hnil (by simp)⟩
    · rw [h.state]
    · rw [hopened]
      have hr := h.reserved d
      by_cases hd : d = c
      · subst hd
        simp only [PerClass.get_set_same, if_true]
        omega
      · simp only [PerClass.get_set_other _ _ hd, if_neg hd]
        exact hr
    · simp only [List.length_append, List.length_singleton]
      omega
    · simp only [List.length_append, List.length_singleton]
      omega
    · rw [Plan.openedCount, countOf_concat]
      exact hjobs
    · by_cases hdc : d = c
      · subst hdc
        simp only [PerClass.get_set_same, Nat.add_sub_cancel]
        exact hfree
      · rw [hopened, if_neg hdc] at hd
        simp only [PerClass.get_set_other _ _ hdc]
        exact h.critical d hd
    · have htaken : countOf (fun i => !PlanItem.isCart i) (p.items ++ [.cart (Opened.new c (titleOf w img) w)]) = p.takenCount :=
        countOf_concat ..
      rw [Plan.takenCount, htaken] at ht ⊢
      exact h.tasks ht
  | blocks img c b =>
    refine ⟨?_, fun d => ?_, h.units, h.total, h.jobs, fun d => ?_, h.tasks, fun hnil => ?_⟩
    · rw [State.markedIf_eq, h.state]
    · rw [State.markedIf_reserved]
      exact h.reserved d
    · rw [State.markedIf_reserved]
      exact h.critical d
    · rw [State.markedIf_reserved, State.markedIf_copySets]
      exact h.unused hnil
  | takes ti k hw hspent htasks =>
    rw [Spent] at hspent
    have hopened : ∀ d, openedOf d (p.items ++ [.copySet k w]) = openedOf d p.items := fun d => countOf_concat ..
    have hcount : countOf PlanItem.isCart (p.items ++ [.copySet k w]) = p.openedCount := countOf_concat ..
    refine ⟨?_, fun d => ?_, ?_, ?_, ?_, fun d => ?_, fun _ => ?_, fun hnil => absurd hnil (by simp)⟩
    · rw [h.state]
    · rw [hopened]
      exact h.reserved d
    · simp only [List.length_append, List.length_singleton]
      omega
    · simp only [List.length_append, List.length_singleton]
      omega
    · rw [Plan.openedCount, hcount]
      exact h.jobs
    · rw [hopened]
      exact h.critical d
    · rw [Plan.takenCount, countOf_concat]
      exact htasks

end

/-! ### A cartridge as its entries filled it -/

/-- A cartridge opened and filled from entries of the catalog `s` (R56, R57). -/
structure CartFilled (s : State) (fr : WalkFrame) (o : Opened) : Prop where
  shown : ∀ w ∈ o.entries, ∃ img, ShowsImage s w img
  same : o.titles.map JobTitle.title = o.entries.map (fun w => w.title)
  band : o.band = .urgent ↔ ∃ w ∈ o.entries, w.band = .urgent
  use : o.use = 64 + (o.titles.map JobTitle.footprint).sum
  catalog : ∀ x ∈ o.titles, ∃ tx im, s.titles.get x.title = some tx ∧ tx.image = some im
    ∧ x = { title := x.title, revision := im.revision, footprint := footprint im.size }
  opened : ∃ y ys ti img, o.titles = y :: ys ∧ s.titles.get y.title = some ti ∧ ti.image = some img
    ∧ o.cls = chooseClass fr.cls (footprint img.size)
  filled : ∀ xs x ys, o.titles = xs ++ x :: ys → xs ≠ [] →
    xs.length < fr.limit ∧ 64 + (xs.map JobTitle.footprint).sum + x.footprint ≤ capacity o.cls

theorem cartFilled_new {s : State} {fr : WalkFrame} {w : WishEntry} {img : Image} (h : ShowsImage s w img) :
    CartFilled s fr (Opened.new (chooseClass fr.cls (footprint img.size)) (titleOf w img) w) := by
  obtain ⟨hf, ti, hti, hin, hi⟩ := id h
  refine ⟨fun x hx => ?_, rfl, ?_, by simp [Opened.new], fun x hx => ?_, ⟨_, _, ti, img, rfl, hti, hi, rfl⟩, fun xs x ys hx hne => ?_⟩
  · obtain rfl := List.mem_singleton.1 hx
    exact ⟨img, h⟩
  · simp [Opened.new]
  · obtain rfl := List.mem_singleton.1 hx
    exact ⟨ti, img, hti, hi, rfl⟩
  · have hlen := congrArg List.length hx
    have hpos := List.length_pos_of_ne_nil hne
    simp only [Opened.new, List.length_append, List.length_cons, List.length_nil] at hlen
    omega

theorem fits_iff (o : Opened) (limit fp : Nat) :
    o.fits limit fp = true ↔ o.use + fp ≤ capacity o.cls ∧ o.titles.length < limit := by
  simp [Opened.fits]

theorem CartFilled.add {s : State} {fr : WalkFrame} {o : Opened} {w : WishEntry} {img : Image} (ho : CartFilled s fr o)
    (h : ShowsImage s w img) (hfits : o.fits fr.limit (footprint img.size) = true) :
    CartFilled s fr (o.add (titleOf w img) w) := by
  obtain ⟨hf, ti, hti, hin, hi⟩ := id h
  obtain ⟨y, ys, ti', img', htitles, hrest⟩ := ho.opened
  refine ⟨fun x hx => ?_, ?_, ?_, ?_, fun x hx => ?_, ⟨y, ys ++ [titleOf w img], ti', img', ?_, hrest⟩, fun xs x zs hx hne => ?_⟩
  · rcases List.mem_append.1 hx with hx | hx
    · exact ho.shown x hx
    · obtain rfl := List.mem_singleton.1 hx
      exact ⟨img, h⟩
  · simp [Opened.add, titleOf, ho.same]
  · have hband := ho.band
    by_cases hu : w.band = .urgent
    · simp [Opened.add, hu]
    · simp [Opened.add, hu, hband]
  · simp only [Opened.add, ho.use, List.map_append, List.sum_append, List.map_cons, List.map_nil, List.sum_singleton]
    omega
  · rcases List.mem_append.1 hx with hx | hx
    · exact ho.catalog x hx
    · obtain rfl := List.mem_singleton.1 hx
      exact ⟨ti, img, hti, hi, rfl⟩
  · simp [Opened.add, htitles]
  · have hx : o.titles ++ [titleOf w img] = xs ++ x :: zs := hx
    rcases List.eq_nil_or_concat zs with rfl | ⟨zs', z, rfl⟩
    · obtain ⟨rfl, hlast⟩ := List.append_inj' hx rfl
      obtain rfl := List.singleton_inj.1 hlast
      obtain ⟨hcap, hlimit⟩ := (fits_iff ..).1 hfits
      exact ⟨hlimit, ho.use ▸ hcap⟩
    · rw [List.concat_eq_append, ← List.cons_append, ← List.append_assoc] at hx
      exact ho.filled xs x zs' (List.append_inj_left' hx rfl) hne

/-! ### The entries -/

/-- The entries of a plan item, in placing order. -/
def PlanItem.entries : PlanItem → List WishEntry
  | .cart o => o.entries
  | .copySet _ w => [w]

/-- The entries a plan has placed. -/
def Plan.placed (p : Plan) : List WishEntry :=
  p.items.flatMap PlanItem.entries

/-- The entries walked so far: placed or left, in cartridges and sets of titles that show them. -/
structure WalkEntries (s : State) (fr : WalkFrame) (done : List WishEntry) (p : Plan) : Prop where
  perm : (p.placed ++ p.left).Perm done
  left : p.left.Sublist done
  carts : ∀ o, .cart o ∈ p.items → CartFilled s fr o
  sets : ∀ k w, .copySet k w ∈ p.items → ∃ ti, ShowsVolumes s w ti

theorem walkEntries_start (s : State) (fr : WalkFrame) (free : Nat) : WalkEntries s fr [] (Plan.start free) :=
  ⟨.nil, .slnil, fun _ h => absurd h (by simp [Plan.start]), fun _ _ h => absurd h (by simp [Plan.start])⟩

theorem WalkEntries.placed_mem {s : State} {fr : WalkFrame} {done : List WishEntry} {p : Plan} (h : WalkEntries s fr done p)
    {w : WishEntry} (hw : w ∈ p.placed) : w ∈ done :=
  h.perm.subset (List.mem_append_left _ hw)

theorem WalkEntries.left_mem {s : State} {fr : WalkFrame} {done : List WishEntry} {p : Plan} (h : WalkEntries s fr done p)
    {w : WishEntry} (hw : w ∈ p.left) : w ∈ done :=
  h.left.subset hw

theorem perm_concat_left {placed left done : List WishEntry} (w : WishEntry) (h : (placed ++ left).Perm done) :
    (placed ++ (left ++ [w])).Perm (done ++ [w]) := by
  rw [← List.append_assoc]
  exact h.append_right [w]

theorem perm_concat_placed {placed left done : List WishEntry} (w : WishEntry) (h : (placed ++ left).Perm done) :
    (placed ++ [w] ++ left).Perm (done ++ [w]) := by
  refine .trans ?_ (h.append_right [w])
  rw [List.append_assoc, List.append_assoc]
  exact (List.perm_append_comm).append_left placed

theorem WalkEntries.step {s t t' : State} {fr : WalkFrame} {free : Nat} {done : List WishEntry} {w : WishEntry} {p p' : Plan}
    (h : WalkEntries s fr done p) (hs : WalkStep s fr free w t p t' p') : WalkEntries s fr (done ++ [w]) p' := by
  have hleft : p.left.Sublist (done ++ [w]) := h.left.trans (List.sublist_append_left ..)
  cases hs with
  | skips => exact ⟨perm_concat_left w h.perm, h.left.append (.refl _), h.carts, h.sets⟩
  | blocks => exact ⟨perm_concat_left w h.perm, h.left.append (.refl _), h.carts, h.sets⟩
  | fills img as bs o hw hitems hno ho =>
    have hperm := h.perm
    have hcarts := h.carts
    have hsets := h.sets
    rw [Plan.placed, hitems] at hperm
    rw [hitems] at hcarts hsets
    refine ⟨?_, hleft, fun x hx => ?_, fun k e hk => hsets k e ?_⟩
    · refine .trans ?_ (hperm.append_right [w])
      simp only [Plan.placed, List.flatMap_append, List.flatMap_cons, PlanItem.entries, Opened.add, List.append_assoc]
      refine ((List.perm_append_comm (l₁ := [w])).append_left o.entries).append_left _ |>.trans ?_
      simp
    · rcases List.mem_append.1 hx with hx | hx
      · exact hcarts x (List.mem_append_left _ hx)
      · rcases List.mem_cons.1 hx with hx | hx
        · obtain rfl := PlanItem.cart.inj hx
          exact (hcarts o (by simp)).add hw ho
        · exact hcarts x (by simp [hx])
    · simpa using hk
  | opens img c hw hno hspent hc =>
    subst hc
    refine ⟨?_, hleft, fun x hx => ?_, fun k e hk => h.sets k e (by simpa using hk)⟩
    · simpa [Plan.placed, PlanItem.entries, Opened.new] using perm_concat_placed w h.perm
    · rcases List.mem_append.1 hx with hx | hx
      · exact h.carts x hx
      · obtain rfl := PlanItem.cart.inj (List.mem_singleton.1 hx)
        exact cartFilled_new hw
  | takes ti k hw =>
    refine ⟨?_, hleft, fun x hx => h.carts x (by simpa using hx), fun k' e hk => ?_⟩
    · simpa [Plan.placed, PlanItem.entries] using perm_concat_placed w h.perm
    · rcases List.mem_append.1 hk with hk | hk
      · exact h.sets k' e hk
      · obtain ⟨rfl, rfl⟩ := PlanItem.copySet.inj (List.mem_singleton.1 hk)
        exact ⟨ti, hw⟩

end Sys2Proof.Machine
end

section
/-! SUPPORT. The walk over a wish list of any length (R54 to R58): first-fit, the sets taken, and why an entry stays. -/

namespace Sys2Proof.Machine

-- One declaration at a time: the check's memory does not hold many side by side.
set_option Elab.async false

/-! ### The order of a list's titles -/

/-- The place of a title's CARTRIDGE entry in a wish list. -/
def wishPlace (ws : List WishEntry) (x : Nat) : Nat :=
  ws.findIdx (fun w => w.title == x && w.format == .cartridge)

/-- No two entries of a wish list have one title and format (R34). -/
def Distinct (ws : List WishEntry) : Prop :=
  ws.Pairwise (fun a b => ¬ (a.title = b.title ∧ a.format = b.format))

section
variable {done rest : List WishEntry} {w : WishEntry}

theorem wishPlace_lt {x : WishEntry} (hx : x ∈ done) (hf : x.format = .cartridge) :
    wishPlace (done ++ rest) x.title < done.length := by
  have hlt := List.findIdx_lt_length_of_exists (p := fun w => w.title == x.title && w.format == .cartridge)
    ⟨x, hx, by simp [hf]⟩
  rw [wishPlace, List.findIdx_append, if_pos hlt]
  exact hlt

theorem Distinct.ne (h : Distinct (done ++ w :: rest)) {x : WishEntry} (hx : x ∈ done) (ht : x.title = w.title) :
    x.format ≠ w.format :=
  fun hf => (List.pairwise_append.1 h).2.2 x hx w List.mem_cons_self ⟨ht, hf⟩

theorem Distinct.wishPlace_eq (h : Distinct (done ++ w :: rest)) (hf : w.format = .cartridge) :
    wishPlace (done ++ w :: rest) w.title = done.length := by
  have hno : done.findIdx (fun x => x.title == w.title && x.format == .cartridge) = done.length :=
    List.findIdx_eq_length.2 fun x hx => by
      simp only [Bool.and_eq_false_iff, beq_eq_false_iff_ne]
      by_cases ht : x.title = w.title
      · exact .inr (hf ▸ h.ne hx ht)
      · exact .inl ht
  rw [wishPlace, List.findIdx_append, hno, if_neg (Nat.lt_irrefl _), List.findIdx_cons]
  simp [hf]

end

/-! ### First-fit -/

/-- The titles on a cartridge that stand before a title in a wish list. -/
def earlierTitles (ws : List WishEntry) (ts : List JobTitle) (x : Nat) : List JobTitle :=
  ts.filter (fun y => decide (wishPlace ws y.title < wishPlace ws x))

/-- A cartridge of a class with the titles `ts` would not take a title beside those that stand before it (R56). -/
def Refuses (ws : List WishEntry) (limit : Nat) (c : Cls) (ts : List JobTitle) (x fp : Nat) : Prop :=
  limit ≤ (earlierTitles ws ts x).length
    ∨ capacity c < 64 + ((earlierTitles ws ts x).map JobTitle.footprint).sum + fp

section
variable {ws : List WishEntry} {limit fp x : Nat}

/-- A title placed later leaves a refusal as it was. -/
theorem Refuses.concat {c : Cls} {ts : List JobTitle} (h : Refuses ws limit c ts x fp) {t : JobTitle}
    (ht : wishPlace ws x ≤ wishPlace ws t.title) : Refuses ws limit c (ts ++ [t]) x fp := by
  have hsame : earlierTitles ws (ts ++ [t]) x = earlierTitles ws ts x := by
    rw [earlierTitles, List.filter_append, List.filter_cons_of_neg (by simpa using ht), List.filter_nil, List.append_nil]
    rfl
  rwa [Refuses, hsame]

/-- A cartridge that does not take a title refuses it, where all of its titles stand before that one. -/
theorem refuses_of_unfit {s : State} {fr : WalkFrame} {o : Opened} (ho : CartFilled s fr o)
    (hno : o.fits limit fp = false) (hall : ∀ y ∈ o.titles, wishPlace ws y.title < wishPlace ws x) :
    Refuses ws limit o.cls o.titles x fp := by
  have hsame : earlierTitles ws o.titles x = o.titles := List.filter_eq_self.2 fun y hy => decide_eq_true (hall y hy)
  have hnot := mt (fits_iff o limit fp).2 (Bool.eq_false_iff.1 hno)
  rw [Refuses, hsame, ← ho.use]
  omega

end

/-- The cartridge `a` refuses the titles of `b`, opened behind it. -/
def RefusesAll (ws : List WishEntry) (limit : Nat) (a b : PlanItem) : Prop :=
  ∀ oa ob, a = .cart oa → b = .cart ob → ∀ x ∈ ob.titles, Refuses ws limit oa.cls oa.titles x.title x.footprint

/-- First-fit over the entries walked so far of the list `ws` (R56): a title is on the first cartridge opened before it that takes
it, and one that is left was taken by none. -/
structure WalkFits (s : State) (fr : WalkFrame) (ws done : List WishEntry) (p : Plan) : Prop where
  placed : ∀ o, .cart o ∈ p.items → ∀ y ∈ o.titles, wishPlace ws y.title < done.length
  pairs : p.items.Pairwise (RefusesAll ws fr.limit)
  left : ∀ o, .cart o ∈ p.items → ∀ y ys, o.titles = y :: ys → ∀ x ∈ p.left, ∀ img, ShowsImage s x img →
    wishPlace ws y.title < wishPlace ws x.title → Refuses ws fr.limit o.cls o.titles x.title (footprint img.size)

theorem walkFits_start (s : State) (fr : WalkFrame) (ws : List WishEntry) (free : Nat) : WalkFits s fr ws [] (Plan.start free) :=
  ⟨fun _ h => absurd h (by simp [Plan.start]), .nil, fun _ h => absurd h (by simp [Plan.start])⟩

section
variable {s t t' : State} {fr : WalkFrame} {free : Nat} {ws done rest : List WishEntry} {w : WishEntry} {p p' : Plan}
  (hws : ws = done ++ w :: rest) (hd : Distinct ws) (he : WalkEntries s fr done p) (h : WalkFits s fr ws done p)
include hws hd he h

/-- The refusals of an entry that no cartridge takes (R56). -/
theorem WalkFits.unfit {img : Image} (hw : ShowsImage s w img) {items : List PlanItem} (hsub : ∀ i ∈ items, i ∈ p.items)
    (hno : NoneFits fr.limit (footprint img.size) items) {o : Opened} (ho : .cart o ∈ items) :
    Refuses ws fr.limit o.cls o.titles w.title (footprint img.size) := by
  refine refuses_of_unfit (he.carts o (hsub _ ho)) (hno o ho) fun y hy => ?_
  have hplace := (hws ▸ hd).wishPlace_eq hw.1
  rw [hws, hplace, ← hws]
  exact h.placed o (hsub _ ho) y hy

/-- An entry that keeps its place is refused by every cartridge opened before it, and the rest is as it was. -/
theorem WalkFits.keep (hno : ∀ img, ShowsImage s w img → NoneFits fr.limit (footprint img.size) p.items)
    (hitems : p'.items = p.items) (hleft : p'.left = p.left ++ [w]) : WalkFits s fr ws (done ++ [w]) p' := by
  refine ⟨fun o ho y hy => ?_, hitems ▸ h.pairs, fun o ho y ys htitles x hx img hsh hlt => ?_⟩
  · rw [hitems] at ho
    rw [List.length_append]
    exact Nat.lt_add_right _ (h.placed o ho y hy)
  · rw [hitems] at ho
    rw [hleft] at hx
    rcases List.mem_append.1 hx with hx | hx
    · exact h.left o ho y ys htitles x hx img hsh hlt
    · obtain rfl := List.mem_singleton.1 hx
      exact h.unfit hws hd he hsh (fun _ hi => hi) (hno img hsh) ho

theorem WalkFits.step (hs : WalkStep s fr free w t p t' p') : WalkFits s fr ws (done ++ [w]) p' := by
  have hlater : ∀ o, .cart o ∈ p.items → ∀ y ∈ o.titles, wishPlace ws y.title < (done ++ [w]).length := fun o ho y hy => by
    rw [List.length_append]
    exact Nat.lt_add_right _ (h.placed o ho y hy)
  have hplace : w.format = .cartridge → wishPlace ws w.title = done.length := fun hf => by
    rw [hws]
    exact (hws ▸ hd).wishPlace_eq hf
  have hbefore : ∀ x ∈ p.left, x.format = .cartridge → wishPlace ws x.title < done.length := fun x hx hf => by
    rw [hws]
    exact wishPlace_lt (he.left_mem hx) hf
  cases hs with
  | skips hwhy => exact h.keep hws hd he (fun img hw => (hwhy img hw).1) rfl rfl
  | blocks img c b hw hno hc =>
    refine h.keep hws hd he (fun img' hw' => ?_) rfl rfl
    obtain ⟨_, ti, hti, _, hi⟩ := hw
    obtain ⟨_, ti', hti', _, hi'⟩ := hw'
    obtain rfl := Option.some.inj (hti.symm.trans hti')
    obtain rfl := Option.some.inj (hi.symm.trans hi')
    exact hno
  | takes ti k hw =>
    have hold : ∀ o, .cart o ∈ p.items ++ [.copySet k w] → .cart o ∈ p.items := fun o ho => by simpa using ho
    refine ⟨fun o ho => hlater o (hold o ho), ?_, fun o ho => h.left o (hold o ho)⟩
    refine List.pairwise_append.2 ⟨h.pairs, List.pairwise_singleton .., fun a _ b hb oa ob _ hob => ?_⟩
    obtain rfl := List.mem_singleton.1 hb
    cases hob
  | opens img c hw hno hspent hc =>
    have hnew : wishPlace ws (titleOf w img).title = done.length := hplace hw.1
    refine ⟨fun o ho y hy => ?_, ?_, fun o ho y ys htitles x hx img' hsh hlt => ?_⟩
    · rcases List.mem_append.1 ho with ho | ho
      · exact hlater o ho y hy
      · obtain rfl := PlanItem.cart.inj (List.mem_singleton.1 ho)
        obtain rfl := List.mem_singleton.1 hy
        rw [hnew, List.length_append]
        exact Nat.lt_succ_self _
    · refine List.pairwise_append.2 ⟨h.pairs, List.pairwise_singleton .., fun a ha b hb oa ob hoa hob x hx => ?_⟩
      obtain rfl := List.mem_singleton.1 hb
      obtain rfl := PlanItem.cart.inj hob
      obtain rfl := List.mem_singleton.1 hx
      exact h.unfit hws hd he hw (fun _ hi => hi) hno (hoa ▸ ha)
    · rcases List.mem_append.1 ho with ho | ho
      · exact h.left o ho y ys htitles x hx img' hsh hlt
      · obtain rfl := PlanItem.cart.inj (List.mem_singleton.1 ho)
        obtain ⟨rfl, rfl⟩ := List.cons.inj htitles
        have hx' := hbefore x hx hsh.1
        omega
  | fills img as bs o hw hitems hno ho =>
    have hnew : wishPlace ws (titleOf w img).title = done.length := hplace hw.1
    have hmem : .cart o ∈ p.items := by simp [hitems]
    have hsub : ∀ i ∈ as, i ∈ p.items := fun i hi => by simp [hitems, hi]
    have hsub' : ∀ i ∈ bs, i ∈ p.items := fun i hi => by simp [hitems, hi]
    have hcases : ∀ o', .cart o' ∈ as ++ .cart (o.add (titleOf w img) w) :: bs →
        .cart o' ∈ p.items ∨ o' = o.add (titleOf w img) w := fun o' ho' => by
      rcases List.mem_append.1 ho' with ho' | ho'
      · exact .inl (hsub _ ho')
      · exact (List.mem_cons.1 ho').symm.imp (hsub' _) PlanItem.cart.inj
    refine ⟨fun o' ho' y hy => ?_, ?_, fun o' ho' y ys htitles x hx img' hsh hlt => ?_⟩
    · rcases hcases o' ho' with ho' | rfl
      · exact hlater o' ho' y hy
      · rcases List.mem_append.1 hy with hy | hy
        · exact hlater o hmem y hy
        · obtain rfl := List.mem_singleton.1 hy
          rw [hnew, List.length_append]
          exact Nat.lt_succ_self _
    · obtain ⟨has, hrest, hcross⟩ := List.pairwise_append.1 (hitems ▸ h.pairs)
      obtain ⟨hob, hbs⟩ := List.pairwise_cons.1 hrest
      refine List.pairwise_append.2 ⟨has, List.pairwise_cons.2 ⟨fun b hb oa ob hoa hob' x hx => ?_, hbs⟩, fun a ha b hb => ?_⟩
      · obtain rfl := PlanItem.cart.inj hoa
        refine (hob b hb o ob rfl hob' x hx).concat ?_
        rw [hnew]
        exact Nat.le_of_lt (h.placed ob (hob' ▸ hsub' b hb) x hx)
      · rcases List.mem_cons.1 hb with rfl | hb
        · intro oa ob hoa hob' x hx
          obtain rfl := PlanItem.cart.inj hob'
          rcases List.mem_append.1 hx with hx | hx
          · exact hcross a ha (.cart o) List.mem_cons_self oa o hoa rfl x hx
          · obtain rfl := List.mem_singleton.1 hx
            exact h.unfit hws hd he hw hsub hno (hoa ▸ ha)
        · exact hcross a ha b (List.mem_cons_of_mem _ hb)
    · rcases hcases o' ho' with ho' | rfl
      · exact h.left o' ho' y ys htitles x hx img' hsh hlt
      · obtain ⟨y', ys', _, _, htitles', _⟩ := (he.carts o hmem).opened
        have hy : y' = y := by
          simp only [Opened.add, htitles', List.cons_append] at htitles
          exact (List.cons.inj htitles).1
        refine (h.left o hmem y' ys' htitles' x hx img' hsh (hy ▸ hlt)).concat ?_
        rw [hnew]
        exact Nat.le_of_lt (hbefore x hx hsh.1)

end

/-! ### The sets taken -/

/-- The set `k` that an entry took: the title's lowest-numbered AVAILABLE set of the state `s` (R55). -/
structure SetChosen (s : State) (k : Nat) (w : WishEntry) (ti : Title) (x : CopySet) : Prop where
  shown : ShowsVolumes s w ti
  listed : k ∈ ti.copySets
  record : s.copySets.get k = some x
  title : x.title = w.title
  available : x.state = .available
  lowest : ∀ front back, ti.copySets = front ++ k :: back → k ∉ front →
    ∀ m ∈ front, ∀ y, s.copySets.get m = some y → y.title = w.title → y.state ≠ .available

/-- The sets so far: those taken are RESERVED for the places of their items, and the others as they were (R55). -/
structure WalkSets (s : State) (fr : WalkFrame) (t : State) (p : Plan) : Prop where
  others : ∀ k, (∀ w, .copySet k w ∉ p.items) → t.copySets.get k = s.copySets.get k
  taken : ∀ k w place, (.copySet k w, place) ∈ p.items.zipIdx 1 → ∃ ti x, SetChosen s k w ti x
    ∧ t.copySets.get k = some { x with state := .reserved fr.order place }

theorem walkSets_start (s : State) (fr : WalkFrame) (free : Nat) : WalkSets s fr s (Plan.start free) :=
  ⟨fun _ _ => rfl, fun _ _ _ h => absurd h (by simp [Plan.start])⟩

theorem mem_zipIdx_fill {as bs : List PlanItem} {o o' : Opened} {k place : Nat} {w : WishEntry}
    (h : (PlanItem.copySet k w, place) ∈ (as ++ .cart o' :: bs).zipIdx 1) :
    (PlanItem.copySet k w, place) ∈ (as ++ .cart o :: bs).zipIdx 1 := by
  simpa [List.zipIdx_append, List.zipIdx_cons] using h

theorem exists_place {i : PlanItem} {l : List PlanItem} (h : i ∈ l) : ∃ place, (i, place) ∈ l.zipIdx 1 := by
  obtain ⟨⟨j, place⟩, hj, rfl⟩ := List.mem_map.1 (List.zipIdx_map_fst 1 l ▸ h)
  exact ⟨place, hj⟩

section
variable {s t t' : State} {fr : WalkFrame} {free : Nat} {ws done rest : List WishEntry} {w : WishEntry} {p p' : Plan}
  (hws : ws = done ++ w :: rest) (hd : Distinct ws) (he : WalkEntries s fr done p) (h : WalkSets s fr t p)
include hws hd he h

/-- The sets of the next entry's title are as they were: an earlier entry of that title would be the same entry (R34). -/
theorem WalkSets.untouched (hf : w.format = .braille) {k : Nat} {x : CopySet} (hx : s.copySets.get k = some x)
    (ht : x.title = w.title) : t.copySets.get k = s.copySets.get k := by
  refine h.others k fun e hk => ?_
  obtain ⟨place, hplace⟩ := exists_place hk
  obtain ⟨ti, x', hset, _⟩ := h.taken k e place hplace
  obtain rfl := Option.some.inj (hx.symm.trans hset.record)
  have hdone : e ∈ done := he.placed_mem (List.mem_flatMap.2 ⟨_, hk, List.mem_singleton_self e⟩)
  exact (hws ▸ hd).ne hdone (hset.title.symm.trans ht) (hset.shown.1.trans hf.symm)

theorem WalkSets.usable_of (hf : w.format = .braille) {k : Nat} (hu : usable s w.title k = true) :
    usable t w.title k = true := by
  obtain ⟨x, hx, ht, hav⟩ := (usable_iff ..).1 hu
  exact (usable_iff ..).2 ⟨x, (h.untouched hws hd he hf hx ht).trans hx, ht, hav⟩

theorem WalkSets.chosen {ti : Title} {k : Nat} (hw : ShowsVolumes s w ti)
    (hk : ti.copySets.find? (usable t w.title) = some k) :
    ∃ x, SetChosen s k w ti x ∧ t.copySets.get k = some x ∧ ∀ e, .copySet k e ∉ p.items := by
  obtain ⟨x, hx, ht, hav⟩ := (usable_iff ..).1 (List.find?_some hk)
  have hno : ∀ e, .copySet k e ∉ p.items := fun e hke => by
    obtain ⟨place, hplace⟩ := exists_place hke
    obtain ⟨_, x', _, htaken⟩ := h.taken k e place hplace
    obtain rfl := Option.some.inj (hx.symm.trans htaken)
    cases hav
  refine ⟨x, ⟨hw, List.mem_of_find?_eq_some hk, (h.others k hno).symm.trans hx, ht, hav, ?_⟩, hx, hno⟩
  intro front back hparts hfront m hm y hy hty hyav
  have hu := h.usable_of hws hd he hw.1 ((usable_iff ..).2 ⟨y, hy, hty, hyav⟩)
  rw [hparts, List.find?_append] at hk
  cases hfind : front.find? (usable t w.title) with
  | none => exact List.find?_eq_none.1 hfind m hm hu
  | some k' =>
    rw [hfind, Option.some_or] at hk
    exact hfront (Option.some.inj hk ▸ List.mem_of_find?_eq_some hfind)

theorem WalkSets.step (hs : WalkStep s fr free w t p t' p') : WalkSets s fr t' p' := by
  cases hs with
  | skips => exact ⟨h.others, h.taken⟩
  | blocks img c b =>
    refine ⟨fun k hk => ?_, fun k e place hk => ?_⟩
    · rw [State.markedIf_copySets]
      exact h.others k hk
    · rw [State.markedIf_copySets]
      exact h.taken k e place hk
  | fills img as bs o hw hitems =>
    refine ⟨fun k hk => h.others k fun e he' => hk e ?_, fun k e place hk => h.taken k e place ?_⟩
    · rw [hitems] at he'
      simpa using he'
    · rw [hitems]
      exact mem_zipIdx_fill hk
  | opens img c hw =>
    refine ⟨fun k hk => h.others k fun e he' => hk e (List.mem_append_left _ he'), fun k e place hk => h.taken k e place ?_⟩
    rw [List.zipIdx_append] at hk
    simpa using hk
  | takes ti k hw hspent htasks hk =>
    obtain ⟨x, hset, hx, hno⟩ := h.chosen hws hd he hw hk
    refine ⟨fun m hm => ?_, fun m e place hm => ?_⟩
    · have hmk : m ≠ k := fun heq => hm w (by simp [heq])
      refine (Table.get_modify ..).trans ((if_neg hmk).trans ?_)
      exact h.others m fun e he' => hm e (List.mem_append_left _ he')
    · rw [List.zipIdx_append] at hm
      rcases List.mem_append.1 hm with hm | hm
      · obtain ⟨ti', x', hset', htaken⟩ := h.taken m e place hm
        have hmk : m ≠ k := fun heq => hno e (heq ▸ List.fst_mem_of_mem_zipIdx hm)
        exact ⟨ti', x', hset', (Table.get_modify ..).trans ((if_neg hmk).trans htaken)⟩
      · obtain ⟨hitem, rfl⟩ := Prod.mk.inj (List.mem_singleton.1 hm)
        obtain ⟨rfl, rfl⟩ := PlanItem.copySet.inj hitem
        refine ⟨ti, x, hset, (Table.get_modify ..).trans ((if_pos rfl).trans ?_)⟩
        rw [hx, Option.map_some, Nat.add_comm]

end

/-! ### Why an entry stays -/

/-- A CARTRIDGE entry whose title needs a class (R57). -/
def WantsClass (s : State) (fr : WalkFrame) (c : Cls) (w : WishEntry) : Prop :=
  w.format = .cartridge ∧ ∃ ti img, s.titles.get w.title = some ti ∧ ti.withdrawn = false ∧ ti.image = some img
    ∧ chooseClass fr.cls (footprint img.size) = c

/-- Why the entries left so far were left (R48, R55, R57): a class is noted where it was not to be opened for one of them; the others
found no unit, and a BRAILLE entry with a set none or no pull task; a mark is set for a noted class that wanted only a job record. -/
structure WalkLeft (s : State) (fr : WalkFrame) (free : Nat) (t : State) (p : Plan) : Prop where
  noted : ∀ c, p.noted.get c = true → ClassShut s t p c ∧ ∃ w ∈ p.left, WantsClass s fr c w
  unnoted : ∀ c, p.noted.get c = false → ∀ w ∈ p.left, WantsClass s fr c w → Spent s free p
  volumes : ∀ w ∈ p.left, ∀ ti, ShowsVolumes s w ti → ∀ k ∈ ti.copySets, usable s w.title k = true →
    Spent s free p ∨ 4096 ≤ s.tasks.length + p.takenCount
  marks : ∀ c, t.marks.get c = s.marks.get c
    ∨ (t.marks.get c = true ∧ s.standing = .running ∧ 4096 ≤ s.jobs.length + p.openedCount ∧ p.noted.get c = true)

theorem walkLeft_start (s : State) (fr : WalkFrame) (free : Nat) : WalkLeft s fr free s (Plan.start free) :=
  ⟨fun c h => (by cases c <;> cases h), fun _ _ _ h => absurd h (by simp [Plan.start]),
    fun _ h => absurd h (by simp [Plan.start]), fun _ => .inl rfl⟩

section
variable {s t t' : State} {fr : WalkFrame} {free : Nat} {ws done rest : List WishEntry} {w : WishEntry} {p p' : Plan}

/-- What was left stays left for the reasons it had, where the marks, the notes and the entries left are as they were. -/
theorem WalkLeft.mono (h : WalkLeft s fr free t p) (hg : Grows t p t' p') (hnoted : p'.noted = p.noted)
    (hleft : p'.left = p.left) (hmarks : t'.marks = t.marks) : WalkLeft s fr free t' p' := by
  have ho := hg.opened
  have ht := hg.taken
  refine ⟨fun c hc => ?_, fun c hc e he hw => ?_, fun e he ti hv k hk hu => ?_, fun c => ?_⟩
  · rw [hnoted] at hc
    obtain ⟨hshut, hw⟩ := h.noted c hc
    exact ⟨hshut.mono hg, hleft ▸ hw⟩
  · exact (h.unnoted c (hnoted ▸ hc) e (hleft ▸ he) hw).mono hg
  · exact (h.volumes e (hleft ▸ he) ti hv k hk hu).imp (·.mono hg) fun h => by omega
  · rw [hmarks, hnoted]
    exact (h.marks c).imp_right fun ⟨hm, hrun, hjobs, hn⟩ => ⟨hm, hrun, by omega, hn⟩

theorem WalkLeft.step (hws : ws = done ++ w :: rest) (hd : Distinct ws) (he : WalkEntries s fr done p)
    (hsets : WalkSets s fr t p) (h : WalkLeft s fr free t p) (hs : WalkStep s fr free w t p t' p') :
    WalkLeft s fr free t' p' := by
  have hg := hs.grows
  cases hs with
  | fills => exact h.mono hg rfl rfl rfl
  | opens => exact h.mono hg rfl rfl rfl
  | takes => exact h.mono hg rfl rfl rfl
  | skips himage hvolumes =>
    refine ⟨fun c hc => ?_, fun c hc e hmem hw => ?_, fun e hmem ti hv k hk hu => ?_, h.marks⟩
    · obtain ⟨hshut, e, hmem, hw⟩ := h.noted c hc
      exact ⟨hshut, e, List.mem_append_left _ hmem, hw⟩
    · rcases List.mem_append.1 hmem with hmem | hmem
      · exact h.unnoted c hc e hmem hw
      · obtain rfl := List.mem_singleton.1 hmem
        obtain ⟨hf, ti, img, hti, hin, hi, _⟩ := hw
        exact (himage img ⟨hf, ti, hti, hin, hi⟩).2
    · rcases List.mem_append.1 hmem with hmem | hmem
      · exact h.volumes e hmem ti hv k hk hu
      · obtain rfl := List.mem_singleton.1 hmem
        rcases hvolumes ti hv with hspent | htasks | hnone
        · exact .inl hspent
        · exact .inr htasks
        · exact absurd (hsets.usable_of hws hd he hv.1 hu) (hnone k hk)
  | blocks img c b hw hno hc hshut hmark =>
    have hother : ∀ d, d ≠ c → (p.noted.set c true).get d = p.noted.get d := fun d hd => PerClass.get_set_other _ _ hd
    refine ⟨fun d hd => ?_, fun d hd e hmem hwants => ?_, fun e hmem ti hv k hk hu => ?_, fun d => ?_⟩
    · by_cases hdc : d = c
      · subst hdc
        obtain ⟨hf, ti, hti, hin, hi⟩ := hw
        exact ⟨hshut.mono hg, w, List.mem_append_right _ (List.mem_singleton_self w), hf, ti, img, hti, hin, hi, hc.symm⟩
      · obtain ⟨hshut', e, hmem, hwants⟩ := h.noted d ((hother d hdc).symm.trans hd)
        exact ⟨hshut'.mono hg, e, List.mem_append_left _ hmem, hwants⟩
    · have hdc : d ≠ c := fun heq => by simp [heq] at hd
      rcases List.mem_append.1 hmem with hmem | hmem
      · exact h.unnoted d ((hother d hdc).symm.trans hd) e hmem hwants
      · obtain rfl := List.mem_singleton.1 hmem
        obtain ⟨_, ti', img', hti', _, hi', hcls⟩ := hwants
        obtain ⟨_, ti, hti, _, hi⟩ := hw
        obtain rfl := Option.some.inj (hti.symm.trans hti')
        obtain rfl := Option.some.inj (hi.symm.trans hi')
        exact absurd (hcls.symm.trans hc.symm) hdc
    · rcases List.mem_append.1 hmem with hmem | hmem
      · exact h.volumes e hmem ti hv k hk hu
      · obtain rfl := List.mem_singleton.1 hmem
        exact nomatch hw.1.symm.trans hv.1
    · rw [State.markedIf_marks]
      by_cases hdc : d = c
      · subst hdc
        cases b with
        | true => exact .inr ⟨PerClass.get_set_same .., (hmark rfl).1, (hmark rfl).2, PerClass.get_set_same ..⟩
        | false => exact (h.marks d).imp_right fun ⟨hm, hrun, hjobs, _⟩ => ⟨hm, hrun, hjobs, PerClass.get_set_same ..⟩
      · have hmarks : (if b = true then t.marks.set c true else t.marks).get d = t.marks.get d := by
          cases b
          · rfl
          · exact PerClass.get_set_other _ _ hdc
        rw [hmarks]
        exact (h.marks d).imp_right fun ⟨hm, hrun, hjobs, hn⟩ => ⟨hm, hrun, hjobs, (hother d hdc).trans hn⟩

end

/-! ### The walk -/

/-- Where a walk stands that has walked the entries `done` of the list `ws`, and where it ends once they are all of them. -/
structure Walked (s : State) (fr : WalkFrame) (free : Nat) (ws done : List WishEntry) (t : State) (p : Plan) : Prop where
  kept : WalkKept s free t p
  entries : WalkEntries s fr done p
  fits : WalkFits s fr ws done p
  sets : WalkSets s fr t p
  reasons : WalkLeft s fr free t p

theorem walked_foldl {s : State} {fr : WalkFrame} {free : Nat} {ws : List WishEntry} (horders : s.orders.length < 8192)
    (hoffered : fr.offered = none) (hd : Distinct ws) (rest : List WishEntry) {done : List WishEntry} {t : State} {p : Plan}
    (hws : ws = done ++ rest) (h : Walked s fr free ws done t p) :
    Walked s fr free ws ws (rest.foldl (walkEntry fr) (t, p)).1 (rest.foldl (walkEntry fr) (t, p)).2 := by
  induction rest generalizing done t p with
  | nil =>
    rw [List.append_nil] at hws
    subst hws
    exact h
  | cons w rest ih =>
    have hs := walkEntry_step h.kept horders w hoffered
    exact ih (done := done ++ [w]) (by simp [hws]) ⟨h.kept.step hs, h.entries.step hs, h.fits.step hws hd h.entries hs,
      h.sets.step hws hd h.entries hs, h.reasons.step hws hd h.entries h.sets hs⟩

/-- A walk without an offer over a list of distinct entries (R54 to R58). -/
theorem walk_walked {s : State} {fr : WalkFrame} {free : Nat} {ws : List WishEntry} (horders : s.orders.length < 8192)
    (hheld : s.heldTotal < 40960) (hoffered : fr.offered = none) (hd : Distinct ws) :
    Walked s fr free ws ws (walk fr free ws s).1 (walk fr free ws s).2 :=
  walked_foldl horders hoffered hd ws rfl ⟨walkKept_start hheld, walkEntries_start .., walkFits_start .., walkSets_start ..,
    walkLeft_start ..⟩

end Sys2Proof.Machine
end

section
/-! SUPPORT. The numbers that new records take (R2), and the jobs, pull tasks and items that a plan of any length becomes (R59). -/

namespace Sys2Proof.Machine

-- One declaration at a time: the check's memory does not hold many side by side.
set_option Elab.async false

/-! ### A fresh number -/

theorem nextNumber_range (n : Nat) : 1 ≤ nextNumber n ∧ nextNumber n ≤ 16777215 := by
  rw [nextNumber_eq]
  split <;> omega

/-- The numbers that follow one in range, up to a whole turn (R2). -/
theorem nextNumber_iterate {m : Nat} (h1 : 1 ≤ m) (h2 : m ≤ 16777215) (i : Nat) (hi : i < 16777215) :
    nextNumber^[i] m = if m + i ≤ 16777215 then m + i else m + i - 16777215 := by
  induction i with
  | zero => simp [h2]
  | succ i ih =>
    rw [Function.iterate_succ_apply', ih (by omega), nextNumber_eq]
    split <;> split <;> split <;> omega

/-- A counter does not come back to a number within a whole turn, wherever it starts. -/
theorem nextNumber_iterate_ne (n : Nat) {i j : Nat} (hij : i < j) (hj : j < 16777215) :
    nextNumber^[i] n ≠ nextNumber^[j] n := by
  obtain ⟨h1, h2⟩ := nextNumber_range n
  obtain ⟨j, rfl⟩ := Nat.exists_eq_add_of_lt (Nat.zero_lt_of_lt hij)
  rw [Nat.zero_add] at hij hj ⊢
  rw [Function.iterate_succ_apply, nextNumber_iterate h1 h2 j (by omega)]
  cases i with
  | zero =>
    rw [Function.iterate_zero_apply]
    have hn := nextNumber_eq n
    split at hn <;> split <;> omega
  | succ i =>
    rw [Function.iterate_succ_apply, nextNumber_iterate h1 h2 i (by omega)]
    split <;> split <;> omega

theorem iterate_mem_of_skipLive {live : List Nat} {fuel n : Nat} (h : skipLive live fuel n ∈ live) :
    ∀ i ≤ fuel, nextNumber^[i] n ∈ live := by
  induction fuel generalizing n with
  | zero =>
    intro i hi
    obtain rfl := Nat.le_zero.1 hi
    exact h
  | succ fuel ih =>
    by_cases hn : n ∈ live
    · rw [skipLive, if_pos hn] at h
      intro i hi
      cases i with
      | zero => exact hn
      | succ i => exact ih h i (by omega)
    · rw [skipLive, if_neg hn] at h
      exact absurd h hn

/-- The number a new record takes is free, in any table of fewer records than numbers (R2). -/
theorem get_freshNumber {α : Type} {t : Table α} (h : t.length < 16777215) (c : Nat) : t.get (freshNumber t c) = none := by
  rw [Table.get_eq_none_iff]
  intro hlive
  have hall := iterate_mem_of_skipLive (live := t.numbers) (fuel := t.length) (n := c) hlive
  have hnodup : ((List.range (t.length + 1)).map fun i => nextNumber^[i] c).Nodup := by
    refine List.Nodup.map_on (fun i hi j hj heq => ?_) List.nodup_range
    rw [List.mem_range] at hi hj
    rcases Nat.lt_trichotomy i j with hij | rfl | hij
    · exact absurd heq (nextNumber_iterate_ne c hij (by omega))
    · rfl
    · exact absurd heq.symm (nextNumber_iterate_ne c hij (by omega))
  have hsub : ((List.range (t.length + 1)).map fun i => nextNumber^[i] c) ⊆ t.numbers := fun x hx => by
    obtain ⟨i, hi, rfl⟩ := List.mem_map.1 hx
    exact hall i (Nat.le_of_lt_succ (List.mem_range.1 hi))
  have hlen := (hnodup.subperm hsub).length_le
  rw [List.length_map, List.length_range, Table.numbers, List.length_map] at hlen
  omega

theorem Table.length_put {α : Type} {t : Table α} {n : Nat} (h : t.get n = none) (v : α) :
    (t.put n v).length = t.length + 1 := by
  rw [Table.get_eq_none_iff] at h
  induction t with
  | nil => rfl
  | cons e t ih =>
    obtain ⟨k, w⟩ := e
    have hne : n ≠ k := fun heq => h (heq ▸ List.mem_cons_self)
    rw [Table.put, if_neg hne]
    split
    · rfl
    · rw [List.length_cons, List.length_cons, ih fun hn => h (List.mem_cons_of_mem _ hn)]

/-! ### A job made -/

/-- The job of an opened cartridge, whatever its stamp (R59). -/
def JobOf (o n : Nat) (c : Opened) (j : Job) : Prop :=
  ∃ stamp, j = ⟨stamp, o, n, c.cls, c.titles, c.band, .queued, 0⟩

theorem JobOf.restamped {o n : Nat} {c : Opened} {j : Job} (h : JobOf o n c j) (stamp : Nat) :
    JobOf o n c { j with stamp := stamp } := by
  obtain ⟨_, rfl⟩ := h
  exact ⟨stamp, rfl⟩

/-- Restamping writes stamps only (R2). -/
theorem restampIfFull_frame (s : State) : restampIfFull s = { s with
    jobs := (restampIfFull s).jobs, counters := { s.counters with stamp := (restampIfFull s).counters.stamp } } := by
  unfold restampIfFull
  split <;> rfl

theorem restampIfFull_get (s : State) (k : Nat) : ∃ f : Nat → Nat,
    (restampIfFull s).jobs.get k = (s.jobs.get k).map fun j => { j with stamp := f j.stamp } := by
  unfold restampIfFull
  split
  · refine ⟨fun _ => (jobsByStamp s).idxOf k + 1, ?_⟩
    simp only [Table.get_mapAll]
  · exact ⟨id, by simp⟩

theorem restampIfFull_length (s : State) : (restampIfFull s).jobs.length = s.jobs.length := by
  unfold restampIfFull
  split
  · exact List.length_map ..
  · rfl

/-- What the creation of the job `k` of an opened cartridge leaves of the state `u` (R2, R59, R85). -/
structure JobMade (o n : Nat) (c : Opened) (u v : State) (k : Nat) : Prop where
  frame : v = { u with
    jobs := v.jobs, jobQueue := v.jobQueue
    counters := { u.counters with job := v.counters.job, stamp := v.counters.stamp } }
  fresh : u.jobs.get k = none
  record : ∃ j, v.jobs.get k = some j ∧ JobOf o n c j
  others : ∀ m j, u.jobs.get m = some j → ∃ stamp, v.jobs.get m = some { j with stamp := stamp }
  length : v.jobs.length = u.jobs.length + 1
  queue : ∀ m, m ∈ v.jobQueue ↔ m = k ∨ m ∈ u.jobQueue
  stamped : u.counters.stamp < 4294967295 → v.counters.stamp = u.counters.stamp + 1
    ∧ (v.jobs.get k).map Job.stamp = some (u.counters.stamp + 1) ∧ ∀ m, m ≠ k → v.jobs.get m = u.jobs.get m

theorem createJob_made (o n : Nat) (c : Opened) {u : State} (h : u.jobs.length < 16777215) :
    JobMade o n c u (createJob o n c u).1 (createJob o n c u).2 := by
  have hframe := restampIfFull_frame u
  have hfree : (restampIfFull u).jobs.get (createJob o n c u).2 = none :=
    get_freshNumber (by rw [restampIfFull_length]; exact h) _
  have hjobs : ∃ j, JobOf o n c j ∧ j.stamp = (restampIfFull u).counters.stamp + 1
      ∧ (createJob o n c u).1.jobs = (restampIfFull u).jobs.put (createJob o n c u).2 j := ⟨_, ⟨_, rfl⟩, rfl, rfl⟩
  obtain ⟨j, hj, hstamp, hput⟩ := hjobs
  have hqueue : (restampIfFull u).jobQueue = u.jobQueue := by rw [hframe]
  refine ⟨?_, ?_, ⟨j, by rw [hput, Table.get_put_same], hj⟩, fun m x hm => ?_, ?_, fun m => ?_, fun hbelow => ?_⟩
  · have hmade : (createJob o n c u).1 = { restampIfFull u with
        jobs := (createJob o n c u).1.jobs, jobQueue := (createJob o n c u).1.jobQueue
        counters := { (restampIfFull u).counters with
          job := (createJob o n c u).1.counters.job, stamp := (createJob o n c u).1.counters.stamp } } := rfl
    exact hmade.trans (by rw [hframe])
  · obtain ⟨f, hf⟩ := restampIfFull_get u (createJob o n c u).2
    rw [hfree] at hf
    exact Option.map_eq_none_iff.1 hf.symm
  · obtain ⟨f, hf⟩ := restampIfFull_get u m
    have hne : m ≠ (createJob o n c u).2 := fun heq => by
      rw [← heq, hf, hm] at hfree
      cases hfree
    exact ⟨f x.stamp, by rw [hput, Table.get_put_other _ _ hne, hf, hm, Option.map_some]⟩
  · rw [hput, Table.length_put hfree, restampIfFull_length]
  · rw [← hqueue]
    exact mem_insertBefore ..
  · have hsame := restampIfFull_below hbelow
    refine ⟨?_, by rw [hput, Table.get_put_same, Option.map_some, hstamp, hsame], fun m hm => ?_⟩
    · exact congrArg (fun x : State => x.counters.stamp + 1) hsame
    · rw [hput, Table.get_put_other _ _ hm, hsame]

/-! ### A pull task made -/

/-- What the creation of the pull task `k` of a taken set leaves of the state `u` (R2, R59, R106). -/
structure TaskMade (o set : Nat) (b : Band) (u v : State) (k : Nat) : Prop where
  frame : v = { u with
    tasks := v.tasks, pullQueue := v.pullQueue, counters := { u.counters with task := v.counters.task } }
  fresh : u.tasks.get k = none
  tasks : v.tasks = u.tasks.put k { copySet := set, order := o, band := b, state := .queued }
  queue : ∀ m, m ∈ v.pullQueue ↔ m = k ∨ m ∈ u.pullQueue

theorem createTask_made (o set : Nat) (b : Band) {u : State} (h : u.tasks.length < 16777215) :
    TaskMade o set b u (createTask o set b u) (freshNumber u.tasks u.counters.task) :=
  ⟨rfl, get_freshNumber h _, rfl, fun _ => mem_insertBefore ..⟩

/-! ### The items made -/

/-- The band of a plan item. -/
def PlanItem.band : PlanItem → Band
  | .cart o => o.band
  | .copySet _ w => w.band

/-- The record that a plan item became: the write job of a cartridge, or the pull task of a set, with a number that was free in
the state `s` (R59). -/
def RecordMade (o n : Nat) (s u : State) : PlanItem → ItemObject → Prop
  | .cart c, x => ∃ k j, x = .job k ∧ u.jobs.get k = some j ∧ JobOf o n c j
  | .copySet k w, x => x = .copySet k ∧ ∃ task, s.tasks.get task = none ∧ task ∈ u.pullQueue
      ∧ u.tasks.get task = some { copySet := k, order := o, band := w.band, state := .queued }

/-- The item that a plan item became at a place (R59). -/
structure ItemMade (o n : Nat) (s u : State) (e : PlanItem × Nat) (i : Item) : Prop where
  place : i.place = e.2
  band : i.band = e.1.band
  entries : i.entries = e.1.entries
  waiting : i.ready = false ∧ i.dispatched = false
  record : RecordMade o n s u e.1 i.object

theorem RecordMade.mono {o n : Nat} {s u v : State} {a : PlanItem} {x : ItemObject} (h : RecordMade o n s u a x)
    (hjobs : ∀ k j, u.jobs.get k = some j → ∃ stamp, v.jobs.get k = some { j with stamp := stamp })
    (htasks : ∀ k t, u.tasks.get k = some t → v.tasks.get k = some t) (hqueue : ∀ k ∈ u.pullQueue, k ∈ v.pullQueue) :
    RecordMade o n s v a x := by
  cases a with
  | cart c =>
    obtain ⟨k, j, hx, hj, hof⟩ := h
    obtain ⟨stamp, hv⟩ := hjobs k j hj
    exact ⟨k, _, hx, hv, hof.restamped stamp⟩
  | copySet k w =>
    obtain ⟨hx, task, hnew, hq, ht⟩ := h
    exact ⟨hx, task, hnew, hqueue task hq, htasks task _ ht⟩

/-- The stamp of an item's job. -/
def stampOf (u : State) (i : Item) : Option Nat :=
  match i.object with
  | .job k => (u.jobs.get k).map Job.stamp
  | _ => none

/-- Where the creation of a plan's records from the state `s` stands, once the items `pre` of the plan became `made` (R59). -/
structure Creating (o n : Nat) (s : State) (pre : List PlanItem) (u : State) (made : List Item) : Prop where
  frame : u = { s with
    jobs := u.jobs, jobQueue := u.jobQueue, tasks := u.tasks, pullQueue := u.pullQueue
    counters := { s.counters with job := u.counters.job, stamp := u.counters.stamp, task := u.counters.task } }
  items : List.Forall₂ (ItemMade o n s u) (pre.zipIdx 1) made
  live : ∀ i ∈ made, ∀ k, i.object = .job k → u.jobs.get k ≠ none
  jobs : u.jobs.length = s.jobs.length + countOf PlanItem.isCart pre
  tasks : u.tasks.length = s.tasks.length + countOf (fun i => !i.isCart) pre
  queue : ∀ k, k ∈ u.jobQueue ↔ k ∈ s.jobQueue ∨ ∃ i ∈ made, i.object = .job k
  kept : ∀ k, s.tasks.get k ≠ none → u.tasks.get k = s.tasks.get k
  stamps : s.counters.stamp + pre.length ≤ 4294967295 →
    u.counters.stamp = s.counters.stamp + countOf PlanItem.isCart pre
    ∧ (∀ k, s.jobs.get k ≠ none → u.jobs.get k = s.jobs.get k)
    ∧ made.filterMap (stampOf u) = List.range' (s.counters.stamp + 1) (countOf PlanItem.isCart pre)

theorem creating_start (o n : Nat) (s : State) : Creating o n s [] s [] :=
  ⟨rfl, .nil, nofun, rfl, rfl, by simp, fun _ _ => rfl, fun _ => ⟨rfl, fun _ _ => rfl, rfl⟩⟩

section
variable {o n : Nat} {s u : State} {pre : List PlanItem} {made : List Item} (h : Creating o n s pre u made)
include h

theorem Creating.length : made.length = pre.length := by
  rw [← h.items.length_eq, List.length_zipIdx]

/-- The items made so far stay with their records, and one more stands behind them. -/
theorem Creating.items_concat {v : State} {a : PlanItem} {i : Item}
    (hjobs : ∀ k j, u.jobs.get k = some j → ∃ stamp, v.jobs.get k = some { j with stamp := stamp })
    (htasks : ∀ k t, u.tasks.get k = some t → v.tasks.get k = some t) (hqueue : ∀ k ∈ u.pullQueue, k ∈ v.pullQueue)
    (hi : ItemMade o n s v (a, made.length + 1) i) :
    List.Forall₂ (ItemMade o n s v) ((pre ++ [a]).zipIdx 1) (made ++ [i]) := by
  rw [List.zipIdx_append, Nat.add_comm 1, ← h.length]
  refine List.rel_append (h.items.imp fun e x hx => ?_) (.cons hi .nil)
  exact ⟨hx.place, hx.band, hx.entries, hx.waiting, hx.record.mono hjobs htasks hqueue⟩

theorem Creating.step_cart {c : Opened} (hroom : s.jobs.length + countOf PlanItem.isCart pre < 4096) :
    Creating o n s (pre ++ [.cart c]) (createItem o n (u, made) (.cart c)).1 (createItem o n (u, made) (.cart c)).2 := by
  have hm := createJob_made o n c (u := u) (by rw [h.jobs]; omega)
  have hitem : createItem o n (u, made) (.cart c) = ((createJob o n c u).1,
      made ++ [⟨made.length + 1, .job (createJob o n c u).2, c.band, c.entries, false, false⟩]) := rfl
  rw [hitem]
  generalize (createJob o n c u).1 = v at hm ⊢
  generalize (createJob o n c u).2 = k at hm ⊢
  obtain ⟨j, hj, hof⟩ := hm.record
  have hcarts : countOf PlanItem.isCart (pre ++ [.cart c]) = countOf PlanItem.isCart pre + 1 := countOf_concat ..
  have hsets : countOf (fun i => !PlanItem.isCart i) (pre ++ [.cart c]) = countOf (fun i => !PlanItem.isCart i) pre :=
    countOf_concat ..
  have htasks : v.tasks = u.tasks := by rw [hm.frame]
  have hpull : v.pullQueue = u.pullQueue := by rw [hm.frame]
  refine ⟨?_, ?_, fun i hi m ho => ?_, ?_, ?_, fun m => ?_, fun m hl => ?_, fun hs => ?_⟩
  · rw [hm.frame, h.frame]
  · exact h.items_concat hm.others (fun _ _ ht => htasks ▸ ht) (fun _ hq => hpull ▸ hq)
      ⟨rfl, rfl, rfl, ⟨rfl, rfl⟩, k, j, rfl, hj, hof⟩
  · rcases List.mem_append.1 hi with hi | hi
    · obtain ⟨x, hx⟩ := Option.ne_none_iff_exists'.1 (h.live i hi m ho)
      obtain ⟨_, hv⟩ := hm.others m x hx
      simp [hv]
    · obtain rfl := List.mem_singleton.1 hi
      obtain rfl := ItemObject.job.inj ho
      simp [hj]
  · rw [hm.length, h.jobs, hcarts, Nat.add_assoc]
  · rw [htasks, h.tasks, hsets]
  · rw [hm.queue, h.queue]
    simp only [List.mem_append, List.mem_singleton, or_and_right, exists_or, exists_eq_left, ItemObject.job.injEq]
    rw [eq_comm (a := k)]
    exact or_comm.trans or_assoc
  · rw [htasks]
    exact h.kept m hl
  · rw [List.length_append, List.length_singleton] at hs
    obtain ⟨hstamp, hjobs, hlist⟩ := h.stamps (by omega)
    have hle : countOf PlanItem.isCart pre ≤ pre.length := List.length_filter_le ..
    obtain ⟨hv, hk, hothers⟩ := hm.stamped (by omega)
    refine ⟨?_, fun m hl => ?_, ?_⟩
    · rw [hv, hstamp, hcarts, Nat.add_assoc]
    · have hum := hjobs m hl
      have hne : m ≠ k := fun heq => hl (by rw [← hum, heq, hm.fresh])
      rw [hothers m hne, hum]
    · have hold : made.filterMap (stampOf v) = made.filterMap (stampOf u) := List.filterMap_congr fun i hi => by
        unfold stampOf
        cases hx : i.object with
        | job m =>
          have hne : m ≠ k := fun heq => h.live i hi m hx (heq ▸ hm.fresh)
          simp only [hothers m hne]
        | cart _ => rfl
        | copySet _ => rfl
      rw [List.filterMap_append, hold, hlist, hcarts, List.range'_concat]
      simp only [List.filterMap_cons, stampOf, hk, List.filterMap_nil, hstamp]
      congr 2
      omega

theorem Creating.step_set {k : Nat} {w : WishEntry} (hroom : s.tasks.length + countOf (fun i => !PlanItem.isCart i) pre < 4096) :
    Creating o n s (pre ++ [.copySet k w]) (createItem o n (u, made) (.copySet k w)).1
      (createItem o n (u, made) (.copySet k w)).2 := by
  have hm := createTask_made o k w.band (u := u) (by rw [h.tasks]; omega)
  have hitem : createItem o n (u, made) (.copySet k w) = (createTask o k w.band u,
      made ++ [⟨made.length + 1, .copySet k, w.band, [w], false, false⟩]) := rfl
  rw [hitem]
  generalize createTask o k w.band u = v at hm ⊢
  generalize freshNumber u.tasks u.counters.task = task at hm
  have hcarts : countOf PlanItem.isCart (pre ++ [.copySet k w]) = countOf PlanItem.isCart pre := countOf_concat ..
  have hsets : countOf (fun i => !PlanItem.isCart i) (pre ++ [.copySet k w]) = countOf (fun i => !PlanItem.isCart i) pre + 1 :=
    countOf_concat ..
  have hjobs : v.jobs = u.jobs := by rw [hm.frame]
  have hqueue : v.jobQueue = u.jobQueue := by rw [hm.frame]
  have hstamp : v.counters.stamp = u.counters.stamp := by rw [hm.frame]
  have hold : ∀ m t, u.tasks.get m = some t → v.tasks.get m = some t := fun m t ht => by
    have hne : m ≠ task := fun heq => by
      rw [heq, hm.fresh] at ht
      cases ht
    rw [hm.tasks, Table.get_put_other _ _ hne, ht]
  have hnew : s.tasks.get task = none := by
    by_contra hl
    exact hl ((h.kept task hl).symm.trans hm.fresh)
  have hsame : stampOf v = stampOf u := by
    funext i
    rw [stampOf, stampOf, hjobs]
  refine ⟨?_, ?_, fun i hi m ho => ?_, ?_, ?_, fun m => ?_, fun m hl => ?_, fun hs => ?_⟩
  · rw [hm.frame, h.frame]
  · refine h.items_concat (fun m j hj => ⟨j.stamp, hjobs ▸ hj⟩) hold (fun m hq => (hm.queue m).2 (.inr hq))
      ⟨rfl, rfl, rfl, ⟨rfl, rfl⟩, rfl, task, hnew, (hm.queue task).2 (.inl rfl), ?_⟩
    rw [hm.tasks, Table.get_put_same]
  · rw [hjobs]
    rcases List.mem_append.1 hi with hi | hi
    · exact h.live i hi m ho
    · obtain rfl := List.mem_singleton.1 hi
      cases ho
  · rw [hjobs, h.jobs, hcarts]
  · rw [hm.tasks, Table.length_put hm.fresh, h.tasks, hsets, Nat.add_assoc]
  · rw [hqueue, h.queue]
    simp
  · obtain ⟨t, ht⟩ := Option.ne_none_iff_exists'.1 hl
    have hu := (h.kept m hl).trans ht
    rw [hold m t hu, ht]
  · rw [List.length_append, List.length_singleton] at hs
    obtain ⟨hst, hkept, hlist⟩ := h.stamps (by omega)
    refine ⟨?_, fun m hl => ?_, ?_⟩
    · rw [hstamp, hst, hcarts]
    · rw [hjobs]
      exact hkept m hl
    · rw [hsame, List.filterMap_append, hlist, hcarts]
      simp [stampOf]

end

/-- A plan's items are made from the state `s` in placement order, where jobs and pull tasks are enough (R59). -/
theorem creating_foldl {o n : Nat} {s : State} (items : List PlanItem)
    (hjobs : countOf PlanItem.isCart items ≠ 0 → s.jobs.length + countOf PlanItem.isCart items ≤ 4096)
    (htasks : countOf (fun i => !PlanItem.isCart i) items ≠ 0 →
      s.tasks.length + countOf (fun i => !PlanItem.isCart i) items ≤ 4096)
    (post pre : List PlanItem) (hitems : items = pre ++ post) {u : State} {made : List Item}
    (h : Creating o n s pre u made) :
    Creating o n s items (post.foldl (createItem o n) (u, made)).1 (post.foldl (createItem o n) (u, made)).2 := by
  induction post generalizing pre u made with
  | nil =>
    rw [List.append_nil] at hitems
    exact hitems ▸ h
  | cons a post ih =>
    refine ih (pre ++ [a]) (by simp [hitems]) ?_
    have hcount : ∀ q : PlanItem → Bool, countOf q items = countOf q pre + ((q a).toNat + countOf q post) := fun q => by
      rw [hitems, countOf_append, countOf_cons]
    cases a with
    | cart c =>
      have hc : countOf PlanItem.isCart items = countOf PlanItem.isCart pre + (1 + countOf PlanItem.isCart post) := hcount _
      exact h.step_cart (by omega)
    | copySet k w =>
      have hc : countOf (fun i => !PlanItem.isCart i) items =
          countOf (fun i => !PlanItem.isCart i) pre + (1 + countOf (fun i => !PlanItem.isCart i) post) := hcount _
      exact h.step_set (by omega)

end Sys2Proof.Machine
end

section
/-! SUPPORT. A pass over a wish list of any length (R54 to R60): the order it makes, item by item, and what it leaves of the rest. -/

namespace Sys2Proof.Machine

-- One declaration at a time: the check's memory does not hold many side by side.
set_option Elab.async false

/-! ### Related lists -/

section
variable {α β γ : Type} {R : α → β → Prop} {l : List α} {m : List β}

theorem forall₂_exists_left (h : List.Forall₂ R l m) {b : β} (hb : b ∈ m) : ∃ a ∈ l, R a b := by
  induction h with
  | nil => cases hb
  | cons hab _ ih =>
    rcases List.mem_cons.1 hb with rfl | hb
    · exact ⟨_, List.mem_cons_self, hab⟩
    · obtain ⟨a, ha, hr⟩ := ih hb
      exact ⟨a, List.mem_cons_of_mem _ ha, hr⟩

theorem forall₂_map_eq {f : α → γ} {g : β → γ} (h : List.Forall₂ R l m) (hfg : ∀ a b, R a b → g b = f a) :
    m.map g = l.map f := by
  induction h with
  | nil => rfl
  | cons hab _ ih => rw [List.map_cons, List.map_cons, hfg _ _ hab, ih]

theorem forall₂_pairwise {P : α → α → Prop} {Q : β → β → Prop} (h : List.Forall₂ R l m) (hp : l.Pairwise P)
    (hq : ∀ a a' b b', R a b → R a' b' → P a a' → Q b b') : m.Pairwise Q := by
  induction h with
  | nil => exact .nil
  | cons hab hrest ih =>
    obtain ⟨ha, hl⟩ := List.pairwise_cons.1 hp
    refine List.pairwise_cons.2 ⟨fun b' hb' => ?_, ih hl⟩
    obtain ⟨a', ha', hr⟩ := forall₂_exists_left hrest hb'
    exact hq _ _ _ _ hab hr (ha a' ha')

theorem countOf_eq_of_map {q : α → Bool} {r : β → Bool} (h : m.map r = l.map q) : countOf r m = countOf q l := by
  have hcount : ∀ {δ : Type} (p : δ → Bool) (k : List δ), countOf p k = countOf id (k.map p) := fun p k => by
    rw [countOf, countOf, List.filter_map, List.length_map]
    rfl
  rw [hcount, h, ← hcount]

end

/-! ### The waiting lists -/

/-- Each placed BRAILLE entry takes the patron from its title's waiting list once (R60). -/
theorem titlesLeft_get (n : Nat) (ws : List WishEntry) (ts : Table Title) (hd : Distinct ws) (m : Nat) :
    (titlesLeft n ws ts).get m = (ts.get m).map fun ti =>
      if ws.any (fun w => w.format == .braille && w.title == m) then { ti with waiting := ti.waiting.erase n } else ti := by
  have hpair : (ws.filter fun w => w.format == .braille).Pairwise fun a b => a.title ≠ b.title := by
    refine (List.Pairwise.filter _ hd).imp_of_mem fun {a b} ha hb hne ht => hne ⟨ht, ?_⟩
    exact (eq_of_beq (List.mem_filter.1 ha).2).trans (eq_of_beq (List.mem_filter.1 hb).2).symm
  unfold titlesLeft
  rw [← List.any_filter]
  generalize ws.filter (fun w => w.format == .braille) = bs at hpair ⊢
  induction bs generalizing ts with
  | nil => simp
  | cons b bs ih =>
    obtain ⟨hb, hbs⟩ := List.pairwise_cons.1 hpair
    rw [List.foldl_cons, ih _ hbs, Table.get_modify, List.any_cons]
    by_cases hm : m = b.title
    · subst hm
      have hno : bs.any (fun w => w.title == b.title) = false :=
        List.any_eq_false.2 fun x hx => by simpa using (hb x hx).symm
      simp [hno, Function.comp_def]
    · have hne : (b.title == m) = false := by simpa using Ne.symm hm
      rw [if_neg hm, hne, Bool.false_or]

/-! ### The order made -/

/-- The order that a pass's items became. -/
def orderMade (n : Nat) (p : Patron) (made : List Item) : Order :=
  { patron := n, mode := p.mode, band := planBand made, items := made }

theorem createOrder_eq {o n : Nat} {p : Patron} {plan : Plan} {s u : State} {made : List Item}
    (h : plan.items.foldl (createItem o n) (s, []) = (u, made)) :
    createOrder o n p plan s = { u with
      orders := u.orders.put o (orderMade n p made)
      counters := { u.counters with order := nextNumber o }
      patrons := u.patrons.put n { p with wishes := plan.left, held := p.held + plan.items.length }
      heldTotal := u.heldTotal + plan.items.length
      titles := titlesLeft n (made.flatMap Item.entries) u.titles } := by
  simp only [createOrder, h, chargePatron, leaveWaitingAll_eq, State.putPatron, orderMade]

theorem planBand_urgent (made : List Item) :
    planBand made = .urgent ↔ ∃ w ∈ made.flatMap Item.entries, w.band = .urgent := by
  have hany : planBand made = .urgent ↔ made.any (fun i => i.entries.any fun w => w.band == .urgent) = true := by
    unfold planBand
    split
    · rename_i h
      exact iff_of_true rfl h
    · rename_i h
      exact iff_of_false (by simp) h
  simp only [hany, List.any_eq_true, beq_iff_eq, List.mem_flatMap]
  exact ⟨fun ⟨i, hi, w, hw, hb⟩ => ⟨w, ⟨i, hi, hw⟩, hb⟩, fun ⟨w, ⟨i, hi, hw⟩, hb⟩ => ⟨i, hi, w, hw, hb⟩⟩

/-- The class of the job of an item, where it is a cartridge. -/
def itemClass (u : State) (i : Item) (c : Cls) : Bool :=
  match i.object with
  | .job k => (u.jobs.get k).map Job.cls == some c
  | _ => false

/-- Whether an item is a set. -/
def itemSet (i : Item) : Bool :=
  match i.object with
  | .copySet _ => true
  | _ => false

/-- The job of an item. -/
def JobAt (u : State) (i : Item) (j : Job) : Prop :=
  ∃ k, i.object = .job k ∧ u.jobs.get k = some j

section
variable {o n : Nat} {s u : State} {e : PlanItem × Nat} {i : Item} (h : ItemMade o n s u e i)
include h

theorem ItemMade.cart {j : Job} (hj : JobAt u i j) : ∃ c, e.1 = .cart c ∧ JobOf o n c j := by
  obtain ⟨k, hk, hget⟩ := hj
  have hrec := h.record
  cases ha : e.1 with
  | cart c =>
    rw [ha] at hrec
    obtain ⟨k', j', hk', hj', hof⟩ := hrec
    obtain rfl := ItemObject.job.inj (hk.symm.trans hk')
    obtain rfl := Option.some.inj (hget.symm.trans hj')
    exact ⟨c, rfl, hof⟩
  | copySet m w =>
    rw [ha] at hrec
    exact nomatch hk.symm.trans hrec.1

theorem ItemMade.class_eq (c : Cls) : itemClass u i c = e.1.ofClass c := by
  have hrec := h.record
  unfold itemClass
  cases ha : e.1 with
  | cart x =>
    rw [ha] at hrec
    obtain ⟨k, j, hk, hj, _, rfl⟩ := hrec
    simp only [hk, hj, PlanItem.ofClass]
    rfl
  | copySet m w =>
    rw [ha] at hrec
    rw [hrec.1]
    rfl

theorem ItemMade.set_eq : itemSet i = !e.1.isCart := by
  have hrec := h.record
  unfold itemSet
  cases ha : e.1 with
  | cart x =>
    rw [ha] at hrec
    obtain ⟨k, j, hk, _⟩ := hrec
    rw [hk]
    rfl
  | copySet m w =>
    rw [ha] at hrec
    rw [hrec.1]
    rfl

end

section
variable {o n : Nat} {s u : State} {items : List PlanItem} {made : List Item} (h : Creating o n s items u made)
include h

theorem Creating.map_eq {γ : Type} {f : PlanItem → γ} {g : Item → γ} (hfg : ∀ e i, ItemMade o n s u e i → g i = f e.1) :
    made.map g = items.map f := by
  have hmap := forall₂_map_eq (f := fun e : PlanItem × Nat => f e.1) h.items hfg
  rw [hmap, ← Function.comp_def f Prod.fst, ← List.map_map, List.zipIdx_map_fst]

theorem Creating.places : made.map Item.place = List.range' 1 made.length := by
  rw [forall₂_map_eq (f := Prod.snd) h.items fun _ _ hi => hi.place, List.zipIdx_map_snd, h.length]

theorem Creating.placed : made.flatMap Item.entries = items.flatMap PlanItem.entries := by
  rw [List.flatMap_def, List.flatMap_def, h.map_eq fun _ _ hi => hi.entries]

theorem Creating.opened (c : Cls) : countOf (itemClass u · c) made = openedOf c items :=
  countOf_eq_of_map (h.map_eq fun _ _ hi => hi.class_eq c)

theorem Creating.opened_total : countOf PlanItem.isCart items =
    countOf (itemClass u · .c1) made + countOf (itemClass u · .c2) made + countOf (itemClass u · .c3) made := by
  rw [h.opened, h.opened, h.opened]
  exact openedCount_classes ⟨items, 0, [], ⟨false, false, false⟩⟩

theorem Creating.taken : countOf itemSet made = countOf (fun i => !PlanItem.isCart i) items :=
  countOf_eq_of_map (h.map_eq fun _ _ hi => hi.set_eq)

end

/-! ### An item described -/

section
variable {s t u : State} {fr : WalkFrame} {free n : Nat} {ws : List WishEntry} {plan : Plan} {made : List Item}
  (hw : Walked s fr free ws ws t plan) (h : Creating fr.order n t plan.items u made)
include hw h

/-- A cartridge item: a QUEUED job of the catalog's footprints, of the class its first title needs (R56, R57, R59). -/
theorem Walked.cart_item {i : Item} {e : PlanItem × Nat} {c : Opened} (he : e ∈ plan.items.zipIdx 1)
    (hi : ItemMade fr.order n t u e i) (hc : e.1 = .cart c) :
    (∃ j y ys ti img, JobAt u i j ∧ j.order = fr.order ∧ j.patron = n ∧ j.state = .queued ∧ j.attempts = 0 ∧ j.band = i.band
      ∧ j.titles = y :: ys ∧ s.titles.get y.title = some ti ∧ ti.image = some img
      ∧ j.cls = chooseClass fr.cls (footprint img.size)
      ∧ s.standing = .running ∧ u.jobs.length ≤ 4096
      ∧ s.settings.critical.get j.cls < (s.blank.get j.cls).length - (t.reserved.get j.cls - 1)
      ∧ j.titles.map JobTitle.title = i.entries.map (fun w => w.title)
      ∧ (∀ w ∈ i.entries, w.format = .cartridge)
      ∧ (∀ x ∈ j.titles, ∃ tx im, s.titles.get x.title = some tx ∧ tx.image = some im
        ∧ x = { title := x.title, revision := im.revision, footprint := footprint im.size })
      ∧ ∀ xs x ys, j.titles = xs ++ x :: ys → xs ≠ [] →
          xs.length < fr.limit ∧ 64 + (xs.map JobTitle.footprint).sum + x.footprint ≤ capacity j.cls)
    ∧ i.entries ≠ [] ∧ (i.band = .urgent ↔ ∃ w ∈ i.entries, w.band = .urgent) := by
  have hmem : .cart c ∈ plan.items := hc ▸ List.fst_mem_of_mem_zipIdx he
  have hfilled := hw.entries.carts c hmem
  have hband : i.band = c.band := by rw [hi.band, hc]; rfl
  have hentries : i.entries = c.entries := by rw [hi.entries, hc]; rfl
  obtain ⟨y, ys, ti, img, htitles, hti, himg, hcls⟩ := hfilled.opened
  have hrec := hi.record
  rw [hc] at hrec
  obtain ⟨k, j, hk, hj, stamp, rfl⟩ := hrec
  have hopened : 0 < openedOf c.cls plan.items := by
    refine List.length_pos_of_mem (List.mem_filter.2 ⟨hmem, ?_⟩)
    simp [PlanItem.ofClass]
  have hcount := openedOf_le plan c.cls
  obtain ⟨hrunning, hjobs⟩ := hw.kept.jobs (by omega)
  have hlen : u.jobs.length = s.jobs.length + plan.openedCount := by
    rw [h.jobs, hw.kept.jobs_eq]
    rfl
  refine ⟨⟨_, y, ys, ti, img, ⟨k, hk, hj⟩, rfl, rfl, rfl, rfl, hband.symm, htitles, hti, himg, hcls, hrunning, by omega,
    hw.kept.critical c.cls (by omega), ?_, fun w hmem => ?_, hfilled.catalog, hfilled.filled⟩, ?_, ?_⟩
  · rw [hentries]
    exact hfilled.same
  · obtain ⟨_, hshown⟩ := hfilled.shown w (hentries ▸ hmem)
    exact hshown.1
  · rw [hentries]
    intro hnil
    have hsame := hfilled.same
    rw [hnil, htitles] at hsame
    cases hsame
  · rw [hband, hentries]
    exact hfilled.band

/-- A set item: the title's lowest-numbered AVAILABLE set, now RESERVED, with its pull task (R55, R59). -/
theorem Walked.set_item {i : Item} {e : PlanItem × Nat} {k : Nat} {w : WishEntry} (he : e ∈ plan.items.zipIdx 1)
    (hi : ItemMade fr.order n t u e i) (hc : e.1 = .copySet k w) :
    (∃ k w ti x task, i.object = .copySet k ∧ i.entries = [w] ∧ w.format = .braille
      ∧ s.titles.get w.title = some ti ∧ k ∈ ti.copySets
      ∧ s.copySets.get k = some x ∧ x.title = w.title ∧ x.state = .available
      ∧ (∀ front back, ti.copySets = front ++ k :: back → k ∉ front →
        ∀ m ∈ front, ∀ y, s.copySets.get m = some y → y.title = w.title → y.state ≠ .available)
      ∧ t.copySets.get k = some { x with state := .reserved fr.order i.place }
      ∧ s.tasks.get task = none ∧ u.tasks.length ≤ 4096 ∧ task ∈ u.pullQueue
      ∧ u.tasks.get task = some { copySet := k, order := fr.order, band := w.band, state := .queued })
    ∧ i.entries ≠ [] ∧ (i.band = .urgent ↔ ∃ w ∈ i.entries, w.band = .urgent) := by
  obtain ⟨a, place⟩ := e
  have ha : a = .copySet k w := hc
  subst ha
  have hmem : .copySet k w ∈ plan.items := List.fst_mem_of_mem_zipIdx he
  obtain ⟨ti, x, hset, htaken⟩ := hw.sets.taken k w place he
  have hband : i.band = w.band := hi.band
  have hentries : i.entries = [w] := hi.entries
  have hplace : i.place = place := hi.place
  obtain ⟨hobject, task, hnew, hqueue, htask⟩ := hi.record
  have htaken' : 0 < plan.takenCount := List.length_pos_of_mem (List.mem_filter.2 ⟨hmem, rfl⟩)
  have htasks := hw.kept.tasks (by omega)
  have hlen : u.tasks.length = s.tasks.length + plan.takenCount := by
    rw [h.tasks, hw.kept.tasks_eq]
    rfl
  refine ⟨⟨k, w, ti, x, task, hobject, hentries, hset.shown.1, hset.shown.2.1, hset.listed, hset.record, hset.title,
    hset.available, hset.lowest, hplace ▸ htaken, hw.kept.tasks_eq ▸ hnew, by omega, hqueue, htask⟩, ?_, ?_⟩
  · rw [hentries]
    simp
  · rw [hband, hentries]
    simp

/-- The sets of no item are as they were. -/
theorem Walked.other_sets {k : Nat} (hk : ∀ i ∈ made, i.object ≠ .copySet k) : t.copySets.get k = s.copySets.get k := by
  refine hw.sets.others k fun w hmem => ?_
  obtain ⟨place, hplace⟩ := exists_place hmem
  obtain ⟨i, hi, hmade⟩ := forall₂_exists_left h.items.flip hplace
  exact hk i hi hmade.record.1

/-- First-fit between two cartridges, the first opened before the second (R56). -/
theorem Walked.refuses_between {front mid back : List Item} {a b : Item} {ja jb : Job} {x : JobTitle}
    (hparts : made = front ++ a :: mid ++ b :: back) (ha : JobAt u a ja) (hb : JobAt u b jb) (hx : x ∈ jb.titles) :
    Refuses ws fr.limit ja.cls ja.titles x.title x.footprint := by
  have hpairs : (plan.items.zipIdx 1).Pairwise fun e e' => RefusesAll ws fr.limit e.1 e'.1 := by
    refine List.pairwise_map.1 ?_
    rw [List.zipIdx_map_fst]
    exact hw.fits.pairs
  have hmade : made.Pairwise fun a b => ∀ ja jb, JobAt u a ja → JobAt u b jb → ∀ x ∈ jb.titles,
      Refuses ws fr.limit ja.cls ja.titles x.title x.footprint := by
    refine forall₂_pairwise h.items hpairs fun e e' a b hea heb hall ja jb ha hb x hx => ?_
    obtain ⟨ca, hca, _, rfl⟩ := hea.cart ha
    obtain ⟨cb, hcb, _, rfl⟩ := heb.cart hb
    exact hall ca cb hca hcb x hx
  rw [hparts] at hmade
  exact (List.pairwise_append.1 hmade).2.2 a (List.mem_append_right _ List.mem_cons_self) b List.mem_cons_self ja jb ha hb x hx

/-- First-fit at an entry that is left (R56, R57). -/
theorem Walked.refuses_left {a : Item} {ja : Job} {y : JobTitle} {ys : List JobTitle} {w : WishEntry} {img : Image}
    (ha : a ∈ made) (hj : JobAt u a ja) (htitles : ja.titles = y :: ys) (hleft : w ∈ plan.left)
    (hplace : wishPlace ws y.title < wishPlace ws w.title) (hshown : ShowsImage s w img) :
    Refuses ws fr.limit ja.cls ja.titles w.title (footprint img.size) := by
  obtain ⟨e, he, hmade⟩ := forall₂_exists_left h.items ha
  obtain ⟨c, hc, _, rfl⟩ := hmade.cart hj
  exact hw.fits.left c (hc ▸ List.fst_mem_of_mem_zipIdx he) y ys htitles w hleft img hshown hplace

end

/-- Every placed entry is of a title that is not withdrawn and has its format (R54). -/
theorem WalkEntries.placed_shown {s : State} {fr : WalkFrame} {done : List WishEntry} {p : Plan} (h : WalkEntries s fr done p)
    {w : WishEntry} (hw : w ∈ p.placed) : ∃ ti, s.titles.get w.title = some ti ∧ ti.withdrawn = false
      ∧ (w.format = .cartridge → ti.image ≠ none) ∧ (w.format = .braille → ti.braille ≠ none) := by
  obtain ⟨a, ha, hwa⟩ := List.mem_flatMap.1 hw
  cases a with
  | cart c =>
    obtain ⟨img, hf, ti, hti, hin, hi⟩ := (h.carts c ha).shown w hwa
    exact ⟨ti, hti, hin, fun _ => by simp [hi], fun hb => nomatch hf.symm.trans hb⟩
  | copySet k e =>
    obtain rfl := List.mem_singleton.1 hwa
    obtain ⟨ti, hf, hti, hin, hb⟩ := h.sets k w ha
    exact ⟨ti, hti, hin, fun hc => (nomatch hf.symm.trans hc), fun _ => hb⟩

theorem WalkEntries.placed_distinct {s : State} {fr : WalkFrame} {done : List WishEntry} {p : Plan}
    (h : WalkEntries s fr done p) (hd : Distinct done) : Distinct p.placed :=
  (List.pairwise_append.1 (hd.perm h.perm.symm fun hne h => hne ⟨h.1.symm, h.2.symm⟩)).1

end Sys2Proof.Machine
end

section
/-! SUPPORT. SELECTION_PASS, settled (R44, R48, R49, R53 to R60). -/

namespace Sys2Proof.Machine

-- One declaration at a time: the check's memory does not hold many side by side.
set_option Elab.async false

/-! ### A pass that an idle step began -/

theorem exec_selectionPass_event (s : State) : exec .selectionPass s =
    .next (if s.restartAsserted then s else takeWaiting .order (endEvent s (takePass s))) := rfl

/-- An idle step begins the pass that SELECTION_PASS then takes (R44). -/
theorem exec_selectionPass_idle (s : State) : exec .selectionPass (idle s) = exec .selectionPass s := by
  cases hr : s.restartAsserted with
  | true => rw [idle_asserted hr]
  | false =>
    have honly := startPass_frame s
    have hkept : (startPass s).restartAsserted = s.restartAsserted := by rw [honly]
    have hpass : takePass (startPass s) = takePass s := by rw [takePass, takePass, startPass_startPass]
    rw [idle_released hr, exec_selectionPass_event, exec_selectionPass_event, hkept, hr, if_neg Bool.false_ne_true,
      if_neg Bool.false_ne_true, hpass, honly.endEvent_eq]

/-! ### The end of a pass over a list -/

/-- What a pass of `n` from `s`, whose walk ended in `t1` with a plan, leaves of the counts and the blocked lists in `t`, whatever
it placed (R49, R59, R60). -/
structure PassEnds (s : State) (n : Nat) (t1 : State) (plan : Plan) (t : State) : Prop where
  held : t.heldTotal = s.heldTotal + plan.items.length
  jobs : t.jobs.length = s.jobs.length + plan.openedCount
  tasks : t.tasks.length = s.tasks.length + plan.takenCount
  reserved : t.reserved = t1.reserved
  marks : t.marks = t1.marks
  blocked : ∀ c, t.blocked.get c = settleBlocked n (plan.noted.get c) (s.stays.get c) (s.blocked.get c)

theorem settleAll_blocked (n : Nat) (plan : Plan) (s : State) (c : Cls) :
    (settleAll n plan s).blocked.get c = settleBlocked n (plan.noted.get c) (s.stays.get c) (s.blocked.get c) := by
  cases c <;> rfl

section
variable {s t t1 : State} {fr : WalkFrame} {n : Nat} {p q : Patron} {plan : Plan} {ws : List WishEntry}
  (hw : Walked s fr (p.allowance - p.held) ws ws t1 plan) (ht : PassEnds s n t1 plan t) (hfree : p.held < p.allowance)
  (hq : q = { p with wishes := plan.left, held := p.held + plan.items.length })
include hw ht hfree hq

theorem Walked.spent_iff : Spent s (p.allowance - p.held) plan ↔ p.allowance ≤ q.held ∨ 40960 ≤ t.heldTotal := by
  have hunits := hw.kept.units
  have hheld : q.held = p.held + plan.items.length := by rw [hq]
  rw [Spent, ht.held, hheld]
  omega

/-- Why a BRAILLE entry with an AVAILABLE set stays (R55). -/
theorem Walked.volumes_left {w : WishEntry} {ti : Title} {k : Nat} {x : CopySet} (hmem : w ∈ q.wishes)
    (hf : w.format = .braille) (hti : s.titles.get w.title = some ti) (hin : ti.withdrawn = false) (hb : ti.braille ≠ none)
    (hk : k ∈ ti.copySets) (hx : s.copySets.get k = some x) (hxt : x.title = w.title) (hav : x.state = .available) :
    (p.allowance ≤ q.held ∨ 40960 ≤ t.heldTotal) ∨ 4096 ≤ t.tasks.length := by
  have hleft : w ∈ plan.left := by rwa [hq] at hmem
  rw [← hw.spent_iff ht hfree hq, ht.tasks]
  exact hw.reasons.volumes w hleft ti ⟨hf, hti, hin, hb⟩ k hk ((usable_iff ..).2 ⟨x, hx, hxt, hav⟩)

/-- Which blocked lists the patron joins, and which it leaves (R48, R49). -/
theorem Walked.blocked_settled (c : Cls) :
    (t.blocked.get c = (if n ∈ s.blocked.get c then s.blocked.get c else s.blocked.get c ++ [n])
      ∧ (s.standing = .halted ∨ (s.blank.get c).length - t.reserved.get c ≤ s.settings.critical.get c
        ∨ 4096 ≤ t.jobs.length)
      ∧ ∃ w ∈ q.wishes, WantsClass s fr c w)
    ∨ (t.blocked.get c = (if n ∈ s.stays.get c then s.blocked.get c else (s.blocked.get c).erase n)
      ∧ ∀ w ∈ q.wishes, WantsClass s fr c w → p.allowance ≤ q.held ∨ 40960 ≤ t.heldTotal) := by
  have hwishes : q.wishes = plan.left := by rw [hq]
  rw [hwishes, ← hw.spent_iff ht hfree hq, ht.jobs, ht.reserved, ht.blocked]
  cases hc : plan.noted.get c with
  | true => exact .inl ⟨rfl, hw.reasons.noted c hc⟩
  | false => exact .inr ⟨rfl, hw.reasons.unnoted c hc⟩

omit hfree hq in
/-- Which marks are set (R48). -/
theorem Walked.marks_set (c : Cls) : t.marks.get c = s.marks.get c
    ∨ (t.marks.get c = true ∧ s.standing = .running ∧ 4096 ≤ t.jobs.length ∧ n ∈ t.blocked.get c) := by
  rw [ht.marks, ht.jobs, ht.blocked]
  refine (hw.reasons.marks c).imp_right fun ⟨hm, hrun, hjobs, hnoted⟩ => ⟨hm, hrun, hjobs, ?_⟩
  have happend : settleBlocked n (plan.noted.get c) (s.stays.get c) (s.blocked.get c) = appendNew (s.blocked.get c) n := by
    rw [hnoted]
    rfl
  rw [happend, appendNew]
  split
  · assumption
  · simp

end

/-! ### The two ends of a pass -/

/-- The state that a pass which placed something leaves. -/
def passMade (n o : Nat) (p : Patron) (plan : Plan) (u : State) (made : List Item) : State :=
  settleAll n plan { u with
    orders := u.orders.put o (orderMade n p made)
    counters := { u.counters with order := nextNumber o }
    patrons := u.patrons.put n { p with wishes := plan.left, held := p.held + plan.items.length }
    heldTotal := u.heldTotal + plan.items.length
    titles := titlesLeft n (made.flatMap Item.entries) u.titles }

section
variable {s t1 : State} {fr : WalkFrame} {n : Nat} {p : Patron} {plan : Plan} {ws : List WishEntry}
  (hw : Walked s fr (p.allowance - p.held) ws ws t1 plan)
include hw

/-- A pass that placed nothing leaves every wish. -/
theorem Walked.left_all (hnil : plan.items = []) : plan.left = ws := by
  have hperm := hw.entries.perm
  rw [Plan.placed, hnil, List.flatMap_nil, List.nil_append] at hperm
  exact hw.entries.left.eq_of_length hperm.length_eq

/-- A pass that placed nothing writes the blocked lists and the marks only. -/
theorem Walked.nothing_frame (hnil : plan.items = []) : settleAll n plan t1 =
    { s with blocked := (settleAll n plan t1).blocked, marks := (settleAll n plan t1).marks } := by
  obtain ⟨hreserved, hsets⟩ := hw.kept.unused hnil
  have hstate := hw.kept.state
  rw [hreserved, hsets] at hstate
  rw [hstate]
  rfl

theorem Walked.nothing_ends (hnil : plan.items = []) : PassEnds s n t1 plan (settleAll n plan t1) := by
  have hlists : t1.blocked = s.blocked ∧ t1.stays = s.stays := by
    rw [hw.kept.state]
    exact ⟨rfl, rfl⟩
  refine ⟨?_, ?_, ?_, rfl, rfl, fun c => ?_⟩
  · rw [hw.nothing_frame hnil, hnil]
    rfl
  · rw [hw.nothing_frame hnil, Plan.openedCount, hnil]
    rfl
  · rw [hw.nothing_frame hnil, Plan.takenCount, hnil]
    rfl
  · rw [settleAll_blocked, hlists.1, hlists.2]

variable {u : State} {made : List Item} (h : Creating fr.order n t1 plan.items u made)
include h

theorem Walked.made_frame : u = { s with
    copySets := t1.copySets, jobs := u.jobs, tasks := u.tasks, reserved := t1.reserved, jobQueue := u.jobQueue
    pullQueue := u.pullQueue, marks := t1.marks
    counters := { s.counters with job := u.counters.job, stamp := u.counters.stamp, task := u.counters.task } } := by
  have hu := h.frame
  have ht := hw.kept.state
  rw [hu]
  rw [ht]

theorem Walked.made_only : passMade n fr.order p plan u made = { s with
    patrons := u.patrons.put n { p with wishes := plan.left, held := p.held + plan.items.length }
    titles := titlesLeft n (made.flatMap Item.entries) s.titles, copySets := t1.copySets, jobs := u.jobs
    orders := s.orders.put fr.order (orderMade n p made), tasks := u.tasks
    counters := { s.counters with
      job := u.counters.job, task := u.counters.task, stamp := u.counters.stamp, order := nextNumber fr.order }
    heldTotal := s.heldTotal + plan.items.length, reserved := t1.reserved
    jobQueue := u.jobQueue, pullQueue := u.pullQueue, blocked := (passMade n fr.order p plan u made).blocked
    marks := t1.marks } := by
  rw [hw.made_frame h]
  rfl

theorem Walked.made_ends : PassEnds s n t1 plan (passMade n fr.order p plan u made) := by
  have hu := hw.made_frame h
  refine ⟨?_, ?_, ?_, ?_, ?_, fun c => ?_⟩
  · have hheld : u.heldTotal = s.heldTotal := by rw [hu]
    exact congrArg (· + plan.items.length) hheld
  · rw [← hw.kept.jobs_eq]
    exact h.jobs
  · rw [← hw.kept.tasks_eq]
    exact h.tasks
  · refine (?_ : u.reserved = t1.reserved)
    rw [hu]
  · refine (?_ : u.marks = t1.marks)
    rw [hu]
  · have hlists : u.blocked = s.blocked ∧ u.stays = s.stays := by
      rw [hu]
      exact ⟨rfl, rfl⟩
    rw [passMade, settleAll_blocked]
    simp only [hlists.1, hlists.2]

end

/-- A pass over a list of distinct wishes: it walks the list, and makes the items of its plan, if any (R54 to R59). -/
theorem walkPass_cases {s : State} {n o : Nat} {p : Patron} (hlen : s.orders.length < 8192) (hheld : s.heldTotal < 40960)
    (hcounter : s.counters.order = o) (ho : s.orders.get o = none) (hd : Distinct p.wishes) :
    ∃ t1 plan, Walked s ⟨p.limit, p.cls, o, none⟩ (p.allowance - p.held) p.wishes p.wishes t1 plan
      ∧ ((plan.items = [] ∧ walkPass n p none s = settleAll n plan t1)
        ∨ ∃ u made, Creating o n t1 plan.items u made ∧ made ≠ []
          ∧ walkPass n p none s = passMade n o p plan u made) := by
  subst hcounter
  have hw := walk_walked (fr := ⟨p.limit, p.cls, s.counters.order, none⟩) (free := p.allowance - p.held) hlen hheld rfl hd
  have hpass := walkPass_eq n p none (freshNumber_free ho) (Prod.mk.eta (p := walk ⟨p.limit, p.cls, s.counters.order, none⟩
    (p.allowance - p.held) p.wishes s)).symm
  generalize (walk ⟨p.limit, p.cls, s.counters.order, none⟩ (p.allowance - p.held) p.wishes s).1 = t1 at hw hpass
  generalize (walk ⟨p.limit, p.cls, s.counters.order, none⟩ (p.allowance - p.held) p.wishes s).2 = plan at hw hpass
  refine ⟨t1, plan, hw, ?_⟩
  by_cases hnil : plan.items = []
  · refine .inl ⟨hnil, ?_⟩
    rw [hpass, hnil]
    rfl
  · have hjobs : t1.jobs = s.jobs := by rw [hw.kept.state]
    have htasks : t1.tasks = s.tasks := by rw [hw.kept.state]
    have hmade := creating_foldl plan.items (fun hc => hjobs ▸ (hw.kept.jobs hc).2) (fun hc => htasks ▸ hw.kept.tasks hc)
      plan.items [] rfl (creating_start s.counters.order n t1)
    have hne : plan.items.isEmpty = false := by simpa using hnil
    refine .inr ⟨_, _, hmade, fun hempty => hnil ?_, ?_⟩
    · rw [← List.length_eq_zero_iff, ← hmade.length, hempty]
      rfl
    · rw [hpass, hne, if_neg Bool.false_ne_true, createOrder_eq (Prod.mk.eta).symm]
      rfl

/-! ### The pass -/

/-- Settles O54: the single wishes by the walk's one step, a list by the invariants of its walk and of the creation of its records.
As the statement reads, its last two clauses stand under the single wish's hypotheses too; their proofs use none of these, and
hold for a list of any length. -/
theorem selectionPass : Obligations.SelectionPass := by
  refine ⟨fun s t hempty hstep => ?_, fun s n rest p hr hrun hoff hpend hqueue hp hwait => ?_⟩
  · obtain rfl := Host.Outcome.next.inj ((step_idle hempty).symm.trans hstep)
    exact exec_selectionPass_idle s
  intro pass taken leaves off o next room needs classFor
  have hpass : pass = .next (s.ended [] (runPass n none taken)) := by
    rw [← takePass_queue hrun hoff hpend hqueue]
    exact exec_selectionPass hr hwait
  have hwalks : p.state = .active → p.held < p.allowance → s.heldTotal < 40960 →
      pass = .next (s.ended [] (walkPass n p none taken)) := fun hst hfree hheld => by
    rw [hpass, runPass_walks (s := taken) none hp hst hfree hheld]
  refine ⟨fun hno => ?_, fun w ti hst hfree hheld hwish hti hin hlen ho => ?_⟩
  · rw [hpass, runPass_ends (s := taken) none hp hno]
    exact congrArg Host.Outcome.next (ended_same ⟨rfl, rfl, rfl, rfl, rfl, rfl, rfl, rfl, rfl⟩ rfl)
  intro charged
  refine ⟨fun img hf hi => ?_, fun weights k c front back hf hb htasks htask hparts hk hct hav hfront => ?_,
    fun hst hfree hheld hskip => ?_, fun hst hfree hheld hlen ho hd => ?_⟩
  · intro c free job
    refine ⟨fun hrunning hcrit hjobs hjob hstamp => ?_, fun hshut => ?_⟩
    · intro s'
      have hopens := walkPass_opens (s := taken) (n := n) (c := c) (u := s') hfree hheld hwish hti hin hf hi rfl hlen ho
        ⟨hrunning, hcrit⟩ hjobs hjob hstamp rfl
      rw [hwalks hst hfree hheld, hopens]
      rfl
    · have hblocked := walkPass_blocked (s := taken) (n := n) (c := c) hfree hheld hwish hti hin hf hi rfl hlen ho hshut
      rw [hwalks hst hfree hheld, hblocked]
      exact congrArg Host.Outcome.next (ended_same ⟨rfl, rfl, rfl, rfl, rfl, rfl, rfl, rfl, rfl⟩ rfl)
  · intro task s'
    have husable : usableSet taken none w.title ti = some k := by
      rw [usableSet, hparts]
      exact find_usable (s := taken) hk hct hav hfront
    have hset := walkPass_set (s := taken) (u := s') (n := n) hfree hheld hwish hti hin hf hb hlen htasks ho htask husable hk
      rfl
    rw [hwalks hst hfree hheld, hset]
    rfl
  · rw [hwalks hst hfree hheld, walkPass_skips (s := taken) hskip]
    exact congrArg Host.Outcome.next (ended_same ⟨rfl, rfl, rfl, rfl, rfl, rfl, rfl, rfl, rfl⟩ rfl)
  · obtain ⟨t1, plan, hW, hcases⟩ := walkPass_cases (s := taken) (n := n) hlen hheld rfl ho hd
    have hpasses := hwalks hst hfree hheld
    generalize walkPass n p none taken = t at hcases hpasses
    rcases hcases with ⟨hnil, rfl⟩ | ⟨u, made, hC, hne, rfl⟩
    · have hends := hW.nothing_ends (n := n) hnil
      have hframe := hW.nothing_frame (n := n) hnil
      have hq : p = { p with wishes := plan.left, held := p.held + plan.items.length } := by
        rw [hW.left_all hnil, hnil]
        rfl
      generalize settleAll n plan t1 = t at hends hframe hpasses ⊢
      have hpatrons : t.patrons = s.patrons := by rw [hframe]
      have horders : t.orders = s.orders := by rw [hframe]
      refine ⟨t, p, hpasses, hpatrons ▸ hp, .refl _, fun m _ => by rw [hpatrons], fun m _ => by rw [horders],
        ?_, fun _ => hframe,
        ⟨fun w ti k x hmem hf hti hin hb hk hx hxt hav => hW.volumes_left hends hfree hq hmem hf hti hin hb hk hx hxt hav,
          hW.blocked_settled hends hfree hq, hW.marks_set hends⟩, fun r hr' => ?_⟩
      · rw [hframe]
      · rw [horders, ho] at hr'
        cases hr'
    · have hends := hW.made_ends hC
      have honly := hW.made_only hC
      have horders : u.orders = s.orders := by rw [hW.made_frame hC]
      have hpatrons : u.patrons = s.patrons := by rw [hW.made_frame hC]
      have htitles : u.titles = s.titles := by rw [hW.made_frame hC]
      have hreserved : u.reserved = t1.reserved := by rw [hW.made_frame hC]
      have hsets : u.copySets = t1.copySets := by rw [hW.made_frame hC]
      have hlength := hC.length
      have hplaced : made.flatMap Item.entries = plan.placed := hC.placed
      have hcarts := hC.opened_total
      -- the patron, the frame, the blocked lists and the marks
      refine ⟨_, { p with wishes := plan.left, held := p.held + plan.items.length }, hpasses, Table.get_put_same ..,
        hW.entries.left, fun m hm => ?_, fun m hm => ?_, ?_, fun hnone => ?_,
        ⟨fun w ti k x hmem hf hti hin hb hk hx hxt hav => hW.volumes_left hends hfree rfl hmem hf hti hin hb hk hx hxt hav,
          hW.blocked_settled hends hfree rfl, hW.marks_set hends⟩, fun r hr' => ?_⟩
      · exact (Table.get_put_other _ _ hm).trans (by rw [hpatrons])
      · exact (Table.get_put_other _ _ hm).trans (by rw [horders])
      · rw [honly]
      · exact absurd ((Table.get_put_same ..).symm.trans hnone) (by simp)
      obtain rfl := Option.some.inj ((Table.get_put_same ..).symm.trans hr')
      -- the order and its items, the records they took, and first-fit
      intro jobAt before earlier refuses opened sets placed
      refine ⟨rfl, rfl, hne, planBand_urgent made, hC.places, ?_, ?_, ?_, ?_, ?_, ?_, fun i hi => ?_, fun c => ?_, ?_, ?_, ?_,
        fun hs => ?_, fun k hk => ?_, fun k hk => ?_, fun m => ?_, ?_, ?_, ?_⟩
      · exact congrArg (fun k => { p with wishes := plan.left, held := p.held + k }) hlength.symm
      · exact Nat.add_le_of_le_sub' (Nat.le_of_lt hfree) (hW.kept.units ▸ Nat.le_add_left ..)
      · exact hends.held.trans (congrArg (s.heldTotal + ·) hlength.symm)
      · exact hends.held.trans_le hW.kept.total
      · exact (congrArg (· ++ plan.left) hplaced) ▸ hW.entries.perm
      · exact fun w hw => hW.entries.placed_shown (hplaced ▸ hw)
      · obtain ⟨e, he, hi'⟩ := forall₂_exists_left hC.items hi
        cases hc : e.1 with
        | cart x =>
          obtain ⟨hcart, hsome, hband⟩ := hW.cart_item hC he hi' hc
          rw [← hreserved] at hcart
          exact ⟨hi'.waiting.1, hi'.waiting.2, hsome, hband, .inl hcart⟩
        | copySet k x =>
          obtain ⟨hset, hsome, hband⟩ := hW.set_item hC he hi' hc
          rw [← hsets] at hset
          exact ⟨hi'.waiting.1, hi'.waiting.2, hsome, hband, .inr hset⟩
      · refine (congrArg (PerClass.get · c) hreserved).trans ((hW.kept.reserved c).trans ?_)
        exact congrArg (s.reserved.get c + ·) (hC.opened c).symm
      · exact hends.jobs.trans (congrArg (s.jobs.length + ·) hcarts)
      · exact hends.tasks.trans (congrArg (s.tasks.length + ·) hC.taken.symm)
      · have hqueue := hC.queue
        rw [hW.kept.jobQueue] at hqueue
        exact hqueue
      · have hstamps := hC.stamps
        rw [hW.kept.counters, hW.kept.jobs_eq] at hstamps
        obtain ⟨_, hkept, hlist⟩ := hstamps (hlength ▸ hs)
        exact ⟨hkept, hlist.trans (congrArg (List.range' (s.counters.stamp + 1)) hcarts)⟩
      · have hkept := hC.kept
        rw [hW.kept.tasks_eq] at hkept
        exact hkept k hk
      · exact (congrArg (Table.get · k) hsets).trans (hW.other_sets hC hk)
      · refine (titlesLeft_get n _ u.titles (hplaced ▸ hW.entries.placed_distinct hd) m).trans ?_
        rw [htitles]
        rfl
      · rw [honly, nextNumber_eq]
      · exact fun front a mid b back ja jb x hparts ha hb hx => hW.refuses_between hC hparts ha hb hx
      · exact fun a ja y ys w ti img ha hj hy hw hf hb hti hin hi =>
          hW.refuses_left hC ha hj hy hw (of_decide_eq_true hb) ⟨hf, ti, hti, hin, hi⟩

end Sys2Proof.Machine
end
